-- ==== Sys2Proof/Word.lean ====
section
/-! DEFINITION. The byte, and the two widths of plain word that the spec's records are built from (00, R6). -/

namespace Sys2Proof

/-- One byte of a packet, flit, sector, image or message (00, R6). -/
abbrev Byte := BitVec 8

end Sys2Proof
end

