-- ==== Sys2Proof/Syntax.lean ====
section
/-! DEFINITION. The commands of the block: one constructor of Instr per row of spec/opcode_table.json. The table gives its
rows no bits and no fields, so the operands are what the row's rule takes from outside the block: levels and bytes on pins,
the value written and its requester, the outcome of a measurement, the answer of another unit. -/

namespace Sys2Proof

/-- The PLLs of the block (02, R20). -/
inductive Pll where
  | lclk | aclk | mclk
  deriving DecidableEq, Repr

/-- The four classes of requester (15, R386): gw is the gateway's PKT_FA (R399). -/
inductive Requester where
  | sequencer
  | ring (gw : Nat) (sec : Bool)
  | port (sec : Bool)
  | mailbox
  deriving DecidableEq, Repr

/-- The ports that have a latency lock (02, R27). -/
inductive Port where
  | stream | stack | relay
  deriving DecidableEq, Repr

/-- Where a packet waits before the packet engine takes it on (05, R133). -/
inductive Ingress where
  | stream | link | relay
  deriving DecidableEq, Repr

/-- The egresses of the packet engine (05, R141; 06, R176). -/
inductive Egress where
  | link | relay | stream
  deriving DecidableEq, Repr

/-- A TRAIN frame (03, R61): the training state code, the attempt number and the state-specific fields. The spec gives their
contents and no layout, so the frame is a record (assumption 9). -/
structure TrainFrame where
  /-- training state code of R63 -/
  state : Nat
  /-- the sender's work of this state has ended, and the fields below are its result -/
  done : Bool
  attempt : Nat
  /-- cause code of a frame with state DOWN (R121) -/
  cause : Nat
  /-- the sender's connection table (R54), 72 entries, in the frames that end CONNECT -/
  connect : List Nat
  /-- transmit offsets learned for this instance's lanes (R347), 72 numbers of bytes 4 to 7, in the frames of EQUALISE -/
  offsets : List Nat
  /-- lanes that the sender found Failed, as a mask in this instance's transmit numbering, in the frames of LANE_CHECK -/
  failed : Nat
  /-- rate code that the sender runs or steps to -/
  rate : Nat
  /-- the sender's transmit map (R65), 64 entries, in the frames of MAP -/
  map : List Nat
  deriving DecidableEq, Repr

/-- A received flit: the slot, the 256 bytes as decoded under the current map, and as decoded under the pending map while the
receiver holds one that is ready (03, R73). -/
structure RxFlit where
  slot : Fin 4
  bytes : List Byte
  alt : List Byte
  deriving DecidableEq, Repr

/-- What a home instance asks each instance of a path (06, R169): the flow's values of R166 and the direction. -/
structure HopQuery where
  home : Nat
  index : Nat
  tc : Nat
  n : Nat
  lq : Nat
  lr : Nat
  rate : Nat
  sectors : Nat
  kind : Nat
  queue : Nat
  dst : Nat
  response : Bool
  deriving DecidableEq, Repr

/-- What one instance answers to a HopQuery (06, R169, R170, R171): its own FA, the FA of the next instance, the term in ps, the
first failing check code or 0, and the rises of the flows already in its transit register (home FA, record, ps). -/
structure HopAnswer where
  index : Nat
  response : Bool
  fa : Nat
  next : Nat
  ps : Nat
  check : Nat
  rises : List (Nat × Nat × Nat)
  deriving DecidableEq, Repr

/-- A change of the transit register, or of a home's flow, that another instance asks for (06, R169, R174). -/
inductive TransitUpdate where
  | register (q : HopQuery) (slack : Nat)
  | slack (home index slack : Nat)
  | remove (home index : Nat)
  | withdraw (index cause : Nat)
  | reduce (index ps : Nat)
  deriving DecidableEq, Repr

/-- The complement-stored values (15, R396). -/
inductive CompValue where
  | txMap | rxMap
  | partBounds (p : Fin 256)
  | keySlot (p : Fin 256)
  | routeActive
  | lock (n : Fin 32)
  | sceneActive
  deriving DecidableEq, Repr

/-- An error that the SECDED of a shared-storage array finds (12, R324): the array (0 retake buffer, 1 VC receive pool, 2 transmit
queues, 3 hold store, 4 receive log), the row, whether the word was corrected, whether it is a header word, and the packet
that owns it: its VC and its place in that VC's queue. -/
structure EccError where
  array : Fin 5
  row : Nat
  corrected : Bool
  header : Bool
  vc : Fin 8
  pos : Nat
  deriving DecidableEq, Repr

/-- What screen test tests (14, R362). -/
inductive TestUnit where
  | cluster (k : Fin 8)
  | laneGroup (g : Fin 8)
  | lane (p : Fin 72)
  | farTest (g : Fin 8)
  | scratchUnit (u : Fin 128)
  | scratch
  | storageBank (array : Fin 5) (bank : Nat)
  | storage
  | analog (check : Fin 14)
  | secureStore
  deriving DecidableEq, Repr

/-- The two inputs of the ring node (15, R376, R400). -/
inductive RingInput where
  | nrIn | sideband
  deriving DecidableEq, Repr

/-- The commands: one constructor per row of spec/opcode_table.json (the rule of the row stands in the docstring). -/
inductive Instr where
  /-- AON_POWER_UP (R418). Operands: strap: the level of SIDE_STRAP, true for S-side. -/
  | aonPowerUp (strap : Bool)
  /-- AON_POWER_LOSS (R427). -/
  | aonPowerLoss
  /-- CLOCK_WINDOW (R20). Operands: the six counts of the window that closes. -/
  | clockWindow (lclk aclk sclk fclk hclk mclk : Nat)
  /-- PLL_LOSS_OF_LOCK (R20). Operands: the block PLL that reports loss of lock. -/
  | pllLossOfLock (pll : Pll)
  /-- RCLK_ABSENT (R20). -/
  | rclkAbsent
  /-- RCLK_RETURN (R430). -/
  | rclkReturn
  /-- PWR_CLK_RESTART_SEQ (R21). -/
  | pwrClkRestartSeq (r : Requester)
  /-- PWR_CLK_RESTART_ARRAY (R21). -/
  | pwrClkRestartArray (r : Requester)
  /-- PKT_SPORT_RESTART (R22). -/
  | pktSportRestart (r : Requester)
  /-- STK_SPORT_RESTART (R22). -/
  | stkSportRestart (r : Requester)
  /-- PORT_LOCK_ENABLE (R27). -/
  | portLockEnable (r : Requester) (port : Port)
  /-- PORT_LOCK_MEASURE (R27). Operands: the measured frequency lies on the 12.5 MHz grid (for the Relay Port: equals LCLK); the phase moved by more than 1/8 period. -/
  | portLockMeasure (port : Port) (onGrid moved : Bool)
  /-- PORT_LOCK_SET (R27). -/
  | portLockSet (port : Port)
  /-- PORT_LOCK_CHECK (R28). -/
  | portLockCheck (port : Port) (moved : Bool)
  /-- PORT_LOCK_DISABLE (R29). -/
  | portLockDisable (r : Requester) (port : Port)
  /-- PORT_LOCK_EXIT (R29). -/
  | portLockExit (port : Port)
  /-- STREAM_INGRESS_PACKET (R30). Operands: the bytes from SOP to EOP; the beats with SP_I_POISON set; the beats whose parity fails. -/
  | streamIngressPacket (sub : Fin 2) (vc : Fin 8) (bytes : List Byte) (poisonBeats badBeats : List Nat)
  /-- STREAM_EGRESS_CREDIT (R31). -/
  | streamEgressCredit (vc : Fin 8) (n : Fin 16)
  /-- STREAM_EGRESS_START (R31). -/
  | streamEgressStart (sub : Fin 2)
  /-- STREAM_EGRESS_EOP (R148). -/
  | streamEgressEop (sub : Fin 2)
  /-- HOLD_RELEASE (R148). -/
  | holdRelease (slot : Fin 32)
  /-- STACK_CMD_ISSUE (R197). -/
  | stackCmdIssue (p : Fin 32)
  /-- STACK_CMD_ACCEPT (R38). -/
  | stackCmdAccept (p : Fin 32)
  /-- STACK_RESPONSE (R301). Operands: SK_A_DATA, SK_A_META and SK_A_ERR. -/
  | stackResponse (p : Fin 32) (tag : Fin 256) (data : List Byte) (md : Nat) (err : Fin 4)
  /-- STACK_RSP_TIMEOUT (R39). -/
  | stackRspTimeout (p : Fin 32) (tag : Fin 256)
  /-- SK_PC_DOWN (R41). Operands: the level that SK_PC_DOWN[p] takes. -/
  | skPcDown (p : Fin 32) (level : Bool)
  /-- RELAY_INGRESS_PACKET (R44). Operands: the flits of one packet; those whose parity fails. -/
  | relayIngressPacket (vc : Fin 8) (flits : List (List Byte)) (bad : List Nat)
  /-- RELAY_CREDIT (R42). -/
  | relayCredit (vc : Fin 8) (n : Fin 16)
  /-- RELAY_EGRESS_START (R42). -/
  | relayEgressStart
  /-- RL_I_UP_CHANGE (R42). -/
  | rlIUpChange (bits : Nat)
  /-- DX_SEL_WRITE (R387). -/
  | dxSelWrite (sec : Bool) (value : Nat)
  /-- DX_DATA_READ (R388). -/
  | dxDataRead (sec : Bool)
  /-- DX_DATA_WRITE (R388). -/
  | dxDataWrite (sec : Bool) (value : Nat)
  /-- OBJECT_WRITE (R389). -/
  | objectWrite (r : Requester) (index sub offset : Nat) (data : List Byte)
  /-- SB_LANE_FAILED (R47). -/
  | sbLaneFailed (lane : Fin 2)
  /-- SB_LANE_USABLE (R47). -/
  | sbLaneUsable (lane : Fin 2)
  /-- SB_STATE_TIMER (R47). -/
  | sbStateTimer
  /-- SB_STATE (R48). Operands: the payload of the frame. -/
  | sbState (bits : Nat)
  /-- SIDEBAND_FRAME_DISCARD (R62). -/
  | sidebandFrameDiscard (type len : Nat) (crcOk : Bool)
  /-- TRAIN (R63). -/
  | train (f : TrainFrame)
  /-- TRAIN_FRAME_REPEAT (R62). -/
  | trainFrameRepeat
  /-- SLATE (R139). -/
  | slate (bytes : List Byte)
  /-- LANE_FAULT (R67). -/
  | laneFault (lanes reason : Nat)
  /-- LANE_FAULT_REPEAT (R62). -/
  | laneFaultRepeat
  /-- LANE_ACK (R62). -/
  | laneAck (lanes : Nat)
  /-- BYPASS (R49). -/
  | bypass
  /-- SAMPLE_PRELOAD (R49). Operands: the levels that the boundary register samples, and what is shifted into it. -/
  | samplePreload (pins preload : List Bool)
  /-- EXTEST (R49). -/
  | extest
  /-- IDCODE (R49). Operands: the tie-off pins ID_MFR. -/
  | idcode (mfr : Fin 2048)
  /-- INTEST_WRAP (R49). -/
  | intestWrap
  /-- WS_BYPASS (R50). -/
  | wsBypass
  /-- WS_EXTEST (R50). -/
  | wsExtest
  /-- WS_INTEST (R50). -/
  | wsIntest
  /-- WS_SCAN (R50). -/
  | wsScan
  /-- TRN_START (R64). -/
  | trnStart (r : Requester)
  /-- PLANNED_RETRAIN (R60). -/
  | plannedRetrain (r : Requester)
  /-- TRAIN_STATE_TIMEOUT (R63). -/
  | trainStateTimeout
  /-- CONNECT_DONE (R54). Operands: the 72 entries of PHY_RX_CONNECT that CONNECT found. -/
  | connectDone (table : List Nat)
  /-- EQUALISE_DONE (R347). Operands: the adapted trim bytes: 13 bytes as one number for each of 72 lanes. -/
  | equaliseDone (codes : List Nat)
  /-- LANE_CHECK_DONE (R63). Operands: the PRBS31 error count of each of the 72 receive lanes; the lanes without CDR lock. -/
  | laneCheckDone (errors : List Nat) (noLock : List Nat)
  /-- FLIT_SYNC (R98). -/
  | flitSync
  /-- LINK_ACTIVE (R125). -/
  | linkActive
  /-- SCRAMBLER_RELOAD (R58). -/
  | scramblerReload
  /-- PHY_GROUP_OFF_WRITE (R56). -/
  | phyGroupOffWrite (r : Requester) (value : Nat)
  /-- CDR_LOCK_LOSS (R66). -/
  | cdrLockLoss (lane : Fin 72)
  /-- LANE_FEC_THRESHOLD (R66). -/
  | laneFecThreshold (lane : Fin 72)
  /-- RX_RETIRE (R66). -/
  | rxRetire (r : Requester) (lane : Nat)
  /-- PREPARE_SEND (R70). -/
  | prepareSend
  /-- PREPARE (R70). -/
  | prepareFlit (f : RxFlit)
  /-- SPLICE_READY (R71). -/
  | spliceReady
  /-- COMMIT_SEND (R72). -/
  | commitSend
  /-- COMMIT (R72). -/
  | commitFlit (f : RxFlit)
  /-- SPLICE_TIMEOUT (R74). -/
  | spliceTimeout
  /-- SPLICE_RETRY (R74). -/
  | spliceRetry
  /-- CANCEL (R74). -/
  | cancelFlit (f : RxFlit)
  /-- MEASURE (R79). -/
  | measureMarker (f : RxFlit)
  /-- LAT_MEASURE_REPEAT (R79). -/
  | latMeasureRepeat
  /-- RETURN (R80). -/
  | returnMarker (f : RxFlit)
  /-- SET (R81). -/
  | setMarker (f : RxFlit)
  /-- VERIFY (R82). -/
  | verifyMarker (f : RxFlit)
  /-- VERIFY_RETURN (R82). -/
  | verifyReturn (f : RxFlit)
  /-- LAT_CHECK_TIMER (R84). -/
  | latCheckTimer
  /-- MARKER_TIMEOUT (R107). -/
  | markerTimeout
  /-- DATA_FLIT (R97). -/
  | dataFlit (f : RxFlit)
  /-- IDLE_FLIT (R97). -/
  | idleFlit (f : RxFlit)
  /-- FLIT_FAIL (R102). -/
  | flitFail (f : RxFlit)
  /-- FLIT_PROTO_ERR (R97). -/
  | flitProtoErr (f : RxFlit)
  /-- LINK_PACKET_START (R157). -/
  | linkPacketStart
  /-- NAK_REPEAT (R102). -/
  | nakRepeat
  /-- ACK_TIMEOUT_REPLAY (R105). -/
  | ackTimeoutReplay
  /-- SPILL_WRITE (R109). -/
  | spillWrite
  /-- SPILL_WRITE_DONE (R113). -/
  | spillWriteDone (block status : Nat)
  /-- SPILL_READ_DONE (R112). -/
  | spillReadDone (block status : Nat) (data : List Byte)
  /-- LNK_SPILL_EN_WRITE (R114). -/
  | lnkSpillEnWrite (r : Requester) (value : Nat)
  /-- DIAGNOSIS_START (R119). -/
  | diagnosisStart
  /-- DIAGNOSIS_END (R119). -/
  | diagnosisEnd
  /-- IDLE_LIMIT_TIMEOUT (R120). -/
  | idleLimitTimeout
  /-- ACK_STALL_TIMEOUT (R120). -/
  | ackStallTimeout
  /-- LNK_FORCE_DOWN (R120). -/
  | lnkForceDown (r : Requester)
  /-- PACKET_TAKE_ON (R141). -/
  | packetTakeOn (src : Ingress) (vc : Fin 8)
  /-- PKT_FA_WRITE (R140). -/
  | pktFaWrite (r : Requester) (value : Nat)
  /-- REQ_TIMEOUT (R137). -/
  | reqTimeout (tag : Fin 4096)
  /-- MSG_TIMEOUT (R149). Operands: the position of the entry in the message table. -/
  | msgTimeout (n : Nat)
  /-- ROUTE_ACTIVE_WRITE (R150). -/
  | routeActiveWrite (r : Requester) (value : Nat)
  /-- ROUTE_TABLE_WRITE (R152). -/
  | routeTableWrite (r : Requester) (table : Fin 2) (die : Fin 64) (value : Nat)
  /-- GATE_START (R162). Operands: 1 or 2. -/
  | gateStart (vc : Fin 8)
  /-- ADMISSION_HOP_TIMEOUT (R169). -/
  | admissionHopTimeout
  /-- FLOW_RECOMPUTE (R174). -/
  | flowRecompute
  /-- TCL_RECHECK_RATE (R175). -/
  | tclRecheckRate (r : Requester) (value : Nat)
  /-- RECHECK_DONE (R175). -/
  | recheckDone
  /-- QUEUE_SAMPLE (R176). -/
  | queueSample
  /-- QUEUE_SAMPLES_READ (R176). -/
  | queueSamplesRead (r : Requester)
  /-- PORT_COUNTERS_READ (R177). -/
  | portCountersRead (r : Requester) (e : Egress)
  /-- OP_SUBMIT (R186). -/
  | opSubmit
  /-- DESCRIPTOR_START (R194). -/
  | descriptorStart (q : Fin 64)
  /-- TILE_DISPATCH (R195). -/
  | tileDispatch (cell : Fin 136)
  /-- TILE_DONE (R193). -/
  | tileDone (cell : Fin 136)
  /-- CELL_FAULT (R181). -/
  | cellFault (cell : Fin 136)
  /-- OPERAND_ACCESS_DONE (R209). Operands: the number of the access. -/
  | operandAccessDone (id : Nat)
  /-- DESCRIPTOR_FINISH (R187). -/
  | descriptorFinish (q : Fin 64)
  /-- CLUSTER_IDLE_GATE (R182). -/
  | clusterIdleGate (k : Fin 8)
  /-- CLUSTER_WAKE (R182). -/
  | clusterWake (k : Fin 8)
  /-- WCET_RECOMPUTE (R208). -/
  | wcetRecompute
  /-- RED_WR (R257). -/
  | redWr
  /-- REDUCE_FINISH (R259). Operands: the reduction ID. -/
  | reduceFinish (id : Nat)
  /-- SCRUB_READ (R306). -/
  | scrubRead
  /-- REKEY_STEP (R318). -/
  | rekeyStep
  /-- STK_PART_APPLY (R311). -/
  | stkPartApply (r : Requester)
  /-- KEY_LOAD (R317). Operands: bytes 1 onwards of the command. -/
  | keyLoad (msg : List Byte)
  /-- KEY_SELECT (R317). Operands: bytes 1 onwards of the command. -/
  | keySelect (msg : List Byte)
  /-- KEY_CLEAR (R317). Operands: bytes 1 onwards of the command. -/
  | keyClear (msg : List Byte)
  /-- DIGEST_DONE (R320). -/
  | digestDone
  /-- COMPLEMENT_CHECK (R396). -/
  | complementCheck (v : CompValue)
  /-- CONTINUITY_FRAME (R327). -/
  | continuityFrame (frame : List Byte)
  /-- YIELD (R329). -/
  | yieldEngine (code : Fin 5)
  /-- TAKEOVER_RESUME (R330). -/
  | takeoverResume
  /-- STANDIN_SEGMENT_TEST (R335). -/
  | standinSegmentTest
  /-- SEGMENT_DONE (R335). -/
  | segmentDone (pass : Bool)
  /-- ENGINE_RETEST_DONE (R337). -/
  | engineRetestDone (pass : Bool)
  /-- RESYNC_DONE (R338). -/
  | resyncDone
  /-- SHARED_ECC_ERROR (R324). -/
  | sharedEccError (e : EccError)
  /-- FENCE (R340). -/
  | fence (r : Requester)
  /-- UNFENCE (R342). -/
  | unfence (r : Requester)
  /-- TEMP_SAMPLE (R346). Operands: the eight sensors in 1/8 degree C. -/
  | tempSample (temps : List Int)
  /-- TRIM_STEP (R348). -/
  | trimStep
  /-- RECAL_START (R349). -/
  | recalStart (lane : Fin 72)
  /-- RECAL_DONE (R349). Operands: the 13 new codes by byte; bytes 4 to 7 are not used. -/
  | recalDone (codes : List Int)
  /-- DESKEW_CHECK (R350). Operands: up to three attempts: the two measured positions of each of the 72 lanes. -/
  | deskewCheck (attempts : List (List Nat × List Nat))
  /-- SEQ_WATCHDOG (R352). Operands: whether the loaded image passes its check at the restart. -/
  | seqWatchdog (imageOk : Bool)
  /-- AGEING_MONITOR (R353). Operands: the 32 counts over 100,000 RCLK. -/
  | ageingMonitor (counts : List Nat)
  /-- EYE_SCAN_START (R354). -/
  | eyeScanStart (lane : Fin 72)
  /-- EYE_SCAN_DONE (R354). -/
  | eyeScanDone (height width : Nat)
  /-- MARGIN_PLAN (R357). -/
  | marginPlan
  /-- LANE_RETIRE (R358). -/
  | laneRetire (lane : Fin 72)
  /-- STEP_GRACE_END (R359). -/
  | stepGraceEnd
  /-- FIELD_TEST_TURN (R365). Operands: whether the turn can be taken before the next one falls due. -/
  | fieldTestTurn (u : TestUnit) (taken : Bool)
  /-- TEST_DONE (R370). Operands: the failure map, 0 when the test passes (an analogue check: what it measured); the rows of shared storage that fail, as array and row. -/
  | testDone (u : TestUnit) (map : Nat) (rows : List (Nat × Nat))
  /-- POWER_ESTIMATE (R369). -/
  | powerEstimate (mW : Nat)
  /-- SCR_RUN_CLUSTER (R366). -/
  | scrRunCluster (r : Requester) (index : Nat)
  /-- SCR_RUN_LANE_GROUP (R366). -/
  | scrRunLaneGroup (r : Requester) (index : Nat)
  /-- SCR_RUN_FAR_TEST (R366). -/
  | scrRunFarTest (r : Requester) (index : Nat)
  /-- SCR_RUN_FAR_RESPOND (R366). -/
  | scrRunFarRespond (r : Requester) (index : Nat)
  /-- SCR_RUN_STANDIN (R366). -/
  | scrRunStandin (r : Requester)
  /-- SCR_RUN_SCRATCH (R366). -/
  | scrRunScratch (r : Requester)
  /-- SCR_RUN_SHARED_STORAGE (R366). -/
  | scrRunSharedStorage (r : Requester)
  /-- SCR_RUN_ANALOG (R366). -/
  | scrRunAnalog (r : Requester)
  /-- SCR_ZEROISE (R372). -/
  | scrZeroise (r : Requester)
  /-- ZEROISE_DONE (R372). -/
  | zeroiseDone
  /-- RING_READ (R377). -/
  | ringRead (input : RingInput) (msg : List Byte)
  /-- RING_WRITE (R377). Operands: gw: PKT_FA of the gateway that sent the message. -/
  | ringWrite (gw : Nat) (input : RingInput) (msg : List Byte)
  /-- RING_LOCK (R398). Operands: gw: PKT_FA of the gateway that sent the message. -/
  | ringLock (gw : Nat) (input : RingInput) (msg : List Byte)
  /-- RING_UNLOCK (R399). Operands: gw: PKT_FA of the gateway that sent the message. -/
  | ringUnlock (gw : Nat) (input : RingInput) (msg : List Byte)
  /-- RING_EVENT (R412). -/
  | ringEvent (input : RingInput) (msg : List Byte)
  /-- RING_HOP (R378). -/
  | ringHop (input : RingInput) (msg : List Byte)
  /-- RING_REPLY (R378). -/
  | ringReply (input : RingInput) (msg : List Byte)
  /-- RING_BROKEN (R382). -/
  | ringBroken
  /-- RING_RESTORED (R382). -/
  | ringRestored
  /-- GATEWAY_SEND (R381). -/
  | gatewaySend (sec : Bool) (value : Nat)
  /-- GATEWAY_TIMEOUT (R381). -/
  | gatewayTimeout
  /-- MGT_SCRIPT_LOAD (R392). -/
  | mgtScriptLoad (r : Requester)
  /-- MGT_SCENE_LOAD (R392). -/
  | mgtSceneLoad (r : Requester) (n : Nat)
  /-- MGT_SCENE_COMMIT (R394). -/
  | mgtSceneCommit (r : Requester) (mask : Nat)
  /-- COMMIT_DONE (R395). Operands: what the other instances on the walked paths answered (R169). -/
  | commitDone (answers : List HopAnswer)
  /-- LOCK_READ (R398). -/
  | lockRead (r : Requester) (n : Fin 32)
  /-- LOCK_RELEASE (R399). -/
  | lockRelease (r : Requester) (n : Fin 32)
  /-- MGT_LOCK_FORCE (R401). -/
  | mgtLockForce (r : Requester) (value : Nat)
  /-- MGT_SEAL (R414). -/
  | mgtSeal (r : Requester) (value : Nat)
  /-- MAILBOX_SEND (R405). -/
  | mailboxSend (sec : Bool) (j : Fin 6) (len : Nat)
  /-- MAILBOX_ABORT (R405). -/
  | mailboxAbort (sec : Bool) (j : Fin 6)
  /-- MAILBOX_RELEASE (R404). -/
  | mailboxRelease (sec : Bool) (j : Fin 6)
  /-- MAILBOX_TAKEN (R405). -/
  | mailboxTaken (j : Fin 6)
  /-- TUNNEL (R406). -/
  | tunnel (bytes : List Byte)
  /-- TUNNEL_S (R406). -/
  | tunnelS (bytes : List Byte)
  /-- TUNNEL_TIMEOUT (R406). -/
  | tunnelTimeout (j : Fin 6)
  /-- ECHO (R407). -/
  | echo
  /-- OBJ_READ (R407). -/
  | objRead
  /-- OBJ_WRITE (R407). -/
  | objWrite
  /-- EVENT_RECORD_WRITE (R409). -/
  | eventRecordWrite
  /-- EVENT_WRITE_DONE (R409). -/
  | eventWriteDone (status : Nat)
  /-- EVENT_WRITE_RETRY (R409). -/
  | eventWriteRetry
  /-- PSTATE_WRITE (R410). -/
  | pstateWrite
  /-- MGT_EVT_CIDX_WRITE (R411). -/
  | mgtEvtCidxWrite (r : Requester) (value : Nat)
  /-- EVENT_RING_TIMEOUT (R412). -/
  | eventRingTimeout
  /-- EVENT_RING_RETRY (R412). -/
  | eventRingRetry
  /-- PWR_DOMAIN_CTRL_WRITE (R417). -/
  | pwrDomainCtrlWrite (r : Requester) (value : Nat)
  /-- PWR_CYCLE (R417). -/
  | pwrCycle (r : Requester) (value : Nat)
  /-- DOMAIN_READY (R415). -/
  | domainReady (d : Fin 20)
  /-- PWR_RESET (R419). -/
  | pwrReset (r : Requester)
  /-- BRINGUP_STEP (R420). Operands: the step that ends. -/
  | bringupStep (n : Fin 11)
  /-- PWR_FW_LOAD (R422). -/
  | pwrFwLoad (r : Requester)
  /-- FW_ONLINE_UPDATE (R423). -/
  | fwOnlineUpdate (r : Requester)
  /-- SB_CHARACTER_LOCK (R421). -/
  | sbCharacterLock
  /-- SENSOR_REFERENCE_CHECK (R362). -/
  | sensorReferenceCheck (g : Fin 8) (deviation : Int)
  /-- SEQ_LOCK_RETRY (R402). -/
  | seqLockRetry
  /-- ZEROISE_CLEAR_TIMEOUT (R372). -/
  | zeroiseClearTimeout (d : Fin 20)
  /-- RESET_SETTLE_TIMEOUT (R419). -/
  | resetSettleTimeout
  /-- DRAIN_RELAY_HOLD_END (R151). -/
  | drainRelayHoldEnd
  /-- RED_WR_ADD_DONE (R257). -/
  | redWrAddDone
  /-- ADMISSION_HOP_QUERY (R169). -/
  | admissionHopQuery (q : HopQuery)
  /-- TRANSIT_REGISTER_UPDATE (R174). -/
  | transitRegisterUpdate (u : TransitUpdate)
  /-- MAILBOX_BUFFER_WRITE (R405). -/
  | mailboxBufferWrite (sec : Bool) (j : Fin 6) (inbound : Bool) (offset value : Nat)
  /-- GATEWAY_REQUEST_WRITE (R381). -/
  | gatewayRequestWrite (sec : Bool) (offset value : Nat)
  deriving DecidableEq, Repr

end Sys2Proof
end

