-- ==== Sys2Proof/Decode.lean ====
section
/-! DEFINITION. The decoder of table words. spec/opcode_table.json gives none of its rows any bits: a command of this block is an
event on its pins or an access to its objects, and no word of the spec spells one. So no word names a command. -/

namespace Sys2Proof

/-- The command that a word spells by the bits of the opcode table: none, since the table gives its rows no bits. -/
def decodeTableWord (_nbits _w : Nat) : Option Instr := none

end Sys2Proof
end

