-- ==== Sys2Proof/Config.lean ====
section
/-! DEFINITION. What an implementation fixes, and the free values: constants without a body, so that nothing can be proved of
their value (notes/assumptions/5.md and 6.md). -/

namespace Sys2Proof

/-- The fused serial number, MGT_SERIAL (00, R4). -/
opaque Config.serial : Nat

/-- The fused silicon stepping, MGT_STEPPING (00, R4). -/
opaque Config.stepping : Nat

/-- The fused 256-bit key-wrapping key, as 32 bytes (11, R316). -/
opaque Config.keyWrappingKey : List Byte

/-- The factory codes of entry e of CAL_TRIM_SETS (13, R346, default "factory"). -/
opaque Config.factoryTrims : Nat → Nat

/-- The fused time-zero count of ageing monitor m, corrected to the temperatures of the eight sensors in 1/8 °C (13, R353). -/
opaque Config.monitorCount : Nat → List Int → Nat

/-- The length L of the die's Nutu ring, before it is brought into 1 to 64, and the instance's position on it (15, R376): the wiring of
the node. -/
opaque Config.ringLength : Nat
opaque Config.ringPosition : Nat

/-- FREE VALUE: the n-th drawing of the random source for the spill key (04, R110), 64 bytes as a number. -/
opaque Config.random : Nat → Nat

/-- FREE VALUE: what a counter object (its key) reads when adding to its value would pass its width (the spec states no
result there). -/
opaque Config.counterPast : Nat → Nat → Nat

/-- FREE VALUE: the n-th value that the spec calls for and does not state. -/
opaque Config.freeValue : Nat → Nat

end Sys2Proof
end

