-- ==== Sys2Proof/Machine/Bits.lean ====
section
/-! DEFINITION. Bit fields [msb:lsb], little-endian records (00, R6), the CRCs of the spec (CRC-48 of R95, CRC-32C of
R390, CRC-16 of R326), GF(2^8) of R93 and the two Reed–Solomon codes (R93, R94 and R298). -/

namespace Sys2Proof.Machine

/-- The field [hi:lo] of a value (00, Notation). -/
def field (v hi lo : Nat) : Nat := (v >>> lo) % 2 ^ (hi + 1 - lo)

/-- Bit i of a value. -/
def bit (v i : Nat) : Bool := v.testBit i

/-- A value with its field [hi:lo] replaced. -/
def setField (v hi lo x : Nat) : Nat :=
  v - (field v hi lo) * 2 ^ lo + (x % 2 ^ (hi + 1 - lo)) * 2 ^ lo

/-- A value with bit i set or cleared. -/
def setBit (v i : Nat) (b : Bool) : Nat := setField v i i (if b then 1 else 0)

/-- 1 or 0 for a flag. -/
def ofBool (b : Bool) : Nat := if b then 1 else 0

/-- ⌈a / b⌉, the ceiling of the spec's sums. -/
def ceilDiv (a b : Nat) : Nat := (a + b - 1) / b

/-- Little-endian value of bytes: byte 0 holds bits [7:0] (R6). -/
def ofBytes : List Byte → Nat
  | [] => 0
  | b :: bs => b.toNat + 256 * ofBytes bs

/-- The n little-endian bytes of a value (R6). -/
def toBytes : Nat → Nat → List Byte
  | 0, _ => []
  | n + 1, v => BitVec.ofNat 8 v :: toBytes n (v / 256)

/-- n zero bytes. -/
def zeros (n : Nat) : List Byte := List.replicate n 0

/-- The len bytes from byte off on; bytes past the end read as zero. -/
def slice (bs : List Byte) (off len : Nat) : List Byte :=
  let t := (bs.drop off).take len
  t ++ zeros (len - t.length)

/-- The little-endian value of the len bytes from byte off on. -/
def valAt (bs : List Byte) (off len : Nat) : Nat := ofBytes (slice bs off len)

/-- Bytes with the ones from off on replaced by new ones. -/
def splice (bs : List Byte) (off : Nat) (new : List Byte) : List Byte :=
  slice bs 0 off ++ new ++ bs.drop (off + new.length)

/-- Bytes padded with zero to a multiple of n. -/
def padTo (n : Nat) (bs : List Byte) : List Byte :=
  bs ++ zeros (ceilDiv bs.length n * n - bs.length)

/-- Bytes cut into pieces of n, the last one as long as is left. -/
def chunks (n : Nat) (bs : List Byte) : List (List Byte) :=
  (List.range (ceilDiv bs.length n)).map fun i => (bs.drop (n * i)).take n

/-- Replace entry i of a list. -/
def setAt {α : Type} (l : List α) (i : Nat) (x : α) : List α := l.set i x

/-- The two's complement reading of the low w bits of a value. -/
def toSigned (w v : Nat) : Int :=
  let u := v % 2 ^ w
  if u < 2 ^ (w - 1) then (u : Int) else (u : Int) - (2 ^ w : Nat)

/-- The low w bits of an integer in two's complement. -/
def ofSigned (w : Nat) (x : Int) : Nat := (x % ((2 ^ w : Nat) : Int)).toNat

/-- x held between lo and hi. -/
def clampInt (x lo hi : Int) : Int := if x < lo then lo else if hi < x then hi else x

/-! ### CRCs -/

/-- One step of an msb-first CRC of width w with polynomial p. -/
def crcStep (w p c : Nat) : Nat :=
  if c.testBit (w - 1) then ((c <<< 1) ^^^ p) % 2 ^ w else (c <<< 1) % 2 ^ w

def crcSteps (w p : Nat) : Nat → Nat → Nat
  | 0, c => c
  | n + 1, c => crcSteps w p n (crcStep w p c)

/-- CRC-48 of R95 over a message of bytes. -/
def crc48 (msg : List Byte) : Nat :=
  (msg.foldl (fun c b => crcSteps 48 0x9A6C9329AC4B 8 (c ^^^ (b.toNat <<< 40))) 0xFFFFFFFFFFFF)
    ^^^ 0xFFFFFFFFFFFF

/-- CRC-16 of R326 over the bits [n-1:0] of a value, from bit n-1 down. -/
def crc16 : Nat → Nat → Nat → Nat
  | 0, _, c => c
  | n + 1, v, c =>
    let top := Bool.xor (c.testBit 15) (v.testBit n)
    let c' := (c <<< 1) % 65536
    crc16 n v (if top then c' ^^^ 0x1021 else c')

/-- One step of the reflected CRC-32C (R390): the reflection of 0x1EDC_6F41 is 0x82F6_3B78. -/
def crc32cSteps : Nat → Nat → Nat
  | 0, c => c
  | n + 1, c => crc32cSteps n (if c.testBit 0 then (c >>> 1) ^^^ 0x82F63B78 else c >>> 1)

/-- CRC-32C of R390. -/
def crc32c (msg : List Byte) : Nat :=
  (msg.foldl (fun c b => crc32cSteps 8 (c ^^^ b.toNat)) 0xFFFFFFFF) ^^^ 0xFFFFFFFF

/-! ### GF(2^8) and the Reed–Solomon codes -/

/-- Multiplication by α = 0x02 modulo x^8 + x^4 + x^3 + x^2 + 1 (R93). -/
def gfDouble (a : Nat) : Nat := if a.testBit 7 then (a <<< 1) ^^^ 0x11D else a <<< 1

def gfMulGo : Nat → Nat → Nat → Nat
  | 0, _, _ => 0
  | n + 1, a, b => (if b.testBit 0 then a else 0) ^^^ gfMulGo n (gfDouble a) (b >>> 1)

/-- Product in GF(2^8) (R93). -/
def gfMul (a b : Nat) : Nat := gfMulGo 8 a b

/-- α^n. -/
def gfPow : Nat → Nat
  | 0 => 1
  | n + 1 => gfDouble (gfPow n)

/-- The least k < 255 with b = a · α^k, for non-zero a and b: log_α (b / a). -/
def gfLogRatio (a b : Nat) : Nat :=
  ((List.range 255).find? fun k => gfMul a (gfPow k) == b).getD 255

/-- C(x) at α^r for the symbols s_0 … (s_0 the highest power), by Horner's rule (R94, R298). -/
def rsEval (r : Nat) (sym : List Nat) : Nat :=
  sym.foldl (fun acc s => gfMul acc (gfPow r) ^^^ s) 0

/-- The remainder of data · x^n by the monic generator with lower coefficients g (highest first), as n symbols. -/
def rsRemainder (g : List Nat) (data : List Nat) : List Nat :=
  data.foldl (fun rem d =>
      let f := (rem.headD 0) ^^^ d
      List.zipWith (fun r c => r ^^^ gfMul f c) (rem.drop 1 ++ [0]) g)
    (List.replicate g.length 0)

/-- Lower coefficients of (x + α^0)(x + α^1), highest first (R93). -/
def flitGen : List Nat := [gfPow 0 ^^^ gfPow 1, gfPow 1]

/-- The product of a monic polynomial (coefficients highest first) and (x + a). -/
def polyMulLin (p : List Nat) (a : Nat) : List Nat :=
  List.zipWith (fun u v => u ^^^ v) (p ++ [0]) (0 :: p.map fun c => gfMul c a)

/-- Lower coefficients of (x + α^0)(x + α^1)(x + α^2)(x + α^3), highest first (R298). -/
def outerGen : List Nat :=
  (polyMulLin (polyMulLin (polyMulLin (polyMulLin [1] (gfPow 0)) (gfPow 1)) (gfPow 2)) (gfPow 3)).drop 1

/-- The outcome of decoding one codeword. -/
inductive Decoded where
  | clean
  | fixed (errs : List (Nat × Nat))   -- (symbol index, value to XOR)
  | uncorrectable
  deriving DecidableEq, Repr

/-- R94: one codeword of 64 symbols, at most one corrected symbol. -/
def flitDecodeWord (sym : List Nat) : Decoded :=
  let s0 := rsEval 0 sym
  let s1 := rsEval 1 sym
  if s0 = 0 ∧ s1 = 0 then .clean
  else if s0 = 0 ∨ s1 = 0 then .uncorrectable
  else
    let pos := gfLogRatio s0 s1
    if pos ≤ 63 then .fixed [(63 - pos, s0)] else .uncorrectable

/-- The first pair of positions whose errors explain the four syndromes of R298 (unique when there is one). -/
def outerPair (s : List Nat) : Option (List (Nat × Nat)) :=
  -- for locators X = α^i, Y = α^j: S0 = a + b, S1 = aX + bY, S2 = aX² + bY², S3 = aX³ + bY³
  let g := fun k => (s[k]?).getD 0
  (List.range 68).findSome? fun i =>
    (List.range i).findSome? fun j =>
      let X := gfPow i
      let Y := gfPow j
      -- the syndromes satisfy S(k+2) = (X+Y) S(k+1) + XY S(k)
      if g 2 = gfMul (X ^^^ Y) (g 1) ^^^ gfMul (gfMul X Y) (g 0) ∧
         g 3 = gfMul (X ^^^ Y) (g 2) ^^^ gfMul (gfMul X Y) (g 1) then
        -- a = (S1 + Y S0) / (X + Y), b = S0 + a
        let num := g 1 ^^^ gfMul Y (g 0)
        let den := X ^^^ Y
        let a := if num = 0 then 0 else gfPow (gfLogRatio den num)
        let b := g 0 ^^^ a
        if a ≠ 0 ∧ b ≠ 0 then some [(67 - i, a), (67 - j, b)] else none
      else none

/-- R298: decoding to radius 2 over 68 symbols. -/
def outerDecode (sym : List Nat) : Decoded :=
  let s := [rsEval 0 sym, rsEval 1 sym, rsEval 2 sym, rsEval 3 sym]
  let g := fun k => (s[k]?).getD 0
  if s = [0, 0, 0, 0] then .clean
  else
    let single : Option (List (Nat × Nat)) :=
      if g 0 ≠ 0 ∧ g 1 ≠ 0 then
        let p := gfLogRatio (g 0) (g 1)
        if p ≤ 67 ∧ g 2 = gfMul (g 1) (gfPow p) ∧ g 3 = gfMul (g 2) (gfPow p) then some [(67 - p, g 0)] else none
      else none
    match single with
    | some e => .fixed e
    | none =>
      match outerPair s with
      | some e => .fixed e
      | none => .uncorrectable

/-- Symbols with the decoder's corrections applied. -/
def applyFix (errs : List (Nat × Nat)) (sym : List Nat) : List Nat :=
  errs.foldl (fun l e => l.set e.1 ((l.getD e.1 0) ^^^ e.2)) sym

end Sys2Proof.Machine
end

