-- ==== Sys2Proof/Machine/Numerics.lean ====
section
/-! DEFINITION. Number formats and arithmetic (10_numerics.md, R276–R296): the formats, the one rounding, the
conversions, the FP32 operations, fused16, exp2, recip, rsqrt and the exact accumulator. FP32 values are bit patterns. -/

namespace Sys2Proof.Machine

/-- An exact value: NaN, an infinity, or ±m · 2^e (m = 0 is a signed zero). -/
inductive Num where
  | nan
  | inf (neg : Bool)
  | fin (neg : Bool) (m : Nat) (e : Int)
  deriving DecidableEq, Repr

/-- The counters of R296 that one operation can move. -/
structure Tally where
  sat : Nat := 0
  ovf : Nat := 0
  nanMade : Nat := 0
  nanBlocks : Nat := 0
  accOvf : Nat := 0
  deriving DecidableEq, Repr

/-- A computation that counts the events of R296. -/
abbrev Calc (α : Type) := StateM Tally α

def tallySat : Calc Unit := modify fun t => { t with sat := t.sat + 1 }
def tallyOvf : Calc Unit := modify fun t => { t with ovf := t.ovf + 1 }
def tallyNan : Calc Unit := modify fun t => { t with nanMade := t.nanMade + 1 }
def tallyNanBlock : Calc Unit := modify fun t => { t with nanBlocks := t.nanBlocks + 1 }
def tallyAcc : Calc Unit := modify fun t => { t with accOvf := t.accOvf + 1 }

/-- One row of R276: exponent bits, mantissa bits, bias, code of the largest finite value, whether the format has
infinities, whether the top mantissa of the top exponent is NaN (E4M3), canonical NaN. -/
structure FloatFmt where
  ebits : Nat
  mbits : Nat
  bias : Int
  maxCode : Nat
  hasInf : Bool
  topNan : Bool
  canon : Nat
  deriving DecidableEq, Repr

/-- R276 by format code; the MX codes give their element format. -/
def floatFmt (code : Nat) : FloatFmt :=
  match code with
  | 0 => ⟨8, 23, 127, 0x7F7FFFFF, true, false, 0x7FC00000⟩
  | 1 => ⟨8, 7, 127, 0x7F7F, true, false, 0x7FC0⟩
  | 2 => ⟨4, 3, 7, 0x7E, false, true, 0x7F⟩
  | 3 => ⟨5, 2, 15, 0x7B, true, false, 0x7E⟩
  | 4 => ⟨4, 3, 7, 0x7E, false, true, 0x7F⟩
  | 5 => ⟨5, 2, 15, 0x7B, true, false, 0x7E⟩
  | 6 => ⟨3, 2, 3, 0x1F, false, false, 0⟩
  | 7 => ⟨2, 3, 1, 0x1F, false, false, 0⟩
  | 8 => ⟨2, 1, 1, 0x7, false, false, 0⟩
  | _ => ⟨8, 23, 127, 0x7F7FFFFF, true, false, 0x7FC00000⟩

/-- Bits of one element. -/
def fmtBits (code : Nat) : Nat :=
  match code with
  | 0 => 32
  | 1 => 16
  | 6 => 6
  | 7 => 6
  | 8 => 4
  | _ => 8

/-- True for the MX formats and format 0x9 (R277). -/
def isMx (code : Nat) : Bool := 4 ≤ code && code ≤ 9

/-- The exact value of one element code (R276); format 0x9 is two's complement (R277). -/
def decodeElem (code q : Nat) : Num :=
  if code = 9 then
    let v := toSigned 8 q
    .fin (decide (v < 0)) v.natAbs 0
  else
    let f := floatFmt code
    let neg := q.testBit (f.ebits + f.mbits)
    let ex := field q (f.ebits + f.mbits - 1) f.mbits
    let mant := q % 2 ^ f.mbits
    let top := 2 ^ f.ebits - 1
    if f.hasInf && ex == top then (if mant = 0 then .inf neg else .nan)
    else if f.topNan && ex == top && mant == 2 ^ f.mbits - 1 then .nan
    else if ex = 0 then .fin neg mant (1 - f.bias - f.mbits)
    else .fin neg (2 ^ f.mbits + mant) (ex - f.bias - f.mbits)

/-- R279 steps 1–3: the code of the rounded magnitude m · 2^e, possibly above the largest finite code. -/
def roundMag (f : FloatFmt) (m : Nat) (e : Int) : Nat :=
  if m = 0 then 0
  else
    let lg : Int := Nat.log2 m + e
    let eMin := 1 - f.bias
    let E := if lg < eMin then eMin else lg
    let q := E - f.mbits
    let cnt : Nat :=
      if q ≤ e then m * 2 ^ (e - q).toNat
      else
        let d := 2 ^ (q - e).toNat
        let n := m / d
        let r := m % d
        if 2 * r > d || (2 * r == d && n % 2 == 1) then n + 1 else n
    if cnt < 2 ^ f.mbits then cnt
    else (E + f.bias).toNat * 2 ^ f.mbits + (cnt - 2 ^ f.mbits)

/-- The code of a sign. -/
def signCode (f : FloatFmt) (neg : Bool) : Nat := if neg then 2 ^ (f.ebits + f.mbits) else 0

/-- The code of ±infinity (formats that have one). -/
def infCode (f : FloatFmt) (neg : Bool) : Nat := signCode f neg + (2 ^ f.ebits - 1) * 2 ^ f.mbits

/-- The overflow and infinity rows of R280 for format f. -/
def overflowCode (code : Nat) (sat neg : Bool) : Nat :=
  let f := floatFmt code
  if f.topNan || (f.hasInf && f.ebits == 5) then
    if sat then signCode f neg + f.maxCode
    else if f.topNan then 0x7F else infCode f neg
  else infCode f neg

/-- R280 from an exact value (also R282's elem for FP8 and R293), with its counters (R296). -/
def cvtNum (code : Nat) (sat : Bool) (x : Num) : Calc Nat := do
  let f := floatFmt code
  let fp8 := f.topNan || f.ebits == 5
  match x with
  | .nan => return f.canon
  | .inf neg =>
    if fp8 && sat then tallySat
    else if f.topNan then tallyOvf
    return overflowCode code sat neg
  | .fin neg m e =>
    let c := roundMag f m e
    if c ≤ f.maxCode then return signCode f neg + c
    else
      if fp8 && sat then tallySat else tallyOvf
      return overflowCode code sat neg

/-- The FP32 code of an exact value by R279, overflow to ±infinity, without the counters of cvt (R285). -/
def roundF32 (x : Num) : Nat :=
  match x with
  | .nan => 0x7FC00000
  | .inf neg => infCode (floatFmt 0) neg
  | .fin neg m e =>
    let c := roundMag (floatFmt 0) m e
    if c ≤ 0x7F7FFFFF then signCode (floatFmt 0) neg + c else infCode (floatFmt 0) neg

/-- An FP32 code read as an exact value. -/
def f32 (x : Nat) : Num := decodeElem 0 x

def isNan32 (x : Nat) : Bool := f32 x == .nan

/-- R281. -/
def widen (code q : Nat) : Nat := roundF32 (decodeElem code q)

/-- R280 on an FP32 value. -/
def cvt (code : Nat) (sat : Bool) (x : Nat) : Calc Nat := cvtNum code sat (f32 x)

/-! ### Exact arithmetic -/

/-- ±m as an integer in units of 2^e. -/
def signedMant (neg : Bool) (m : Nat) : Int := if neg then -(m : Int) else m

/-- The exact product; none for ∞ × 0 or a NaN operand. -/
def numMul (a b : Num) : Num :=
  match a, b with
  | .nan, _ => .nan
  | _, .nan => .nan
  | .inf s, .inf t => .inf (Bool.xor s t)
  | .inf s, .fin t m _ => if m = 0 then .nan else .inf (Bool.xor s t)
  | .fin t m _, .inf s => if m = 0 then .nan else .inf (Bool.xor s t)
  | .fin s m e, .fin t n f => .fin (Bool.xor s t) (m * n) (e + f)

/-- The exact sum, an exact zero sum being +0 unless both are −0 (R284). -/
def numAdd (a b : Num) : Num :=
  match a, b with
  | .nan, _ => .nan
  | _, .nan => .nan
  | .inf s, .inf t => if s == t then .inf s else .nan
  | .inf s, .fin _ _ _ => .inf s
  | .fin _ _ _, .inf s => .inf s
  | .fin s m e, .fin t n f =>
    let g := if e < f then e else f
    let v := signedMant s m * 2 ^ (e - g).toNat + signedMant t n * 2 ^ (f - g).toNat
    if v = 0 then .fin (s && t) 0 g else .fin (decide (v < 0)) v.natAbs g

def numNeg : Num → Num
  | .nan => .nan
  | .inf s => .inf (!s)
  | .fin s m e => .fin (!s) m e

def notNan : Num → Bool
  | .nan => false
  | _ => true

/-- The result of an operation on non-NaN inputs that is NaN counts in OPR_NAN_MADE (R284). -/
def finishOp (ins : List Num) (r : Num) : Calc Nat := do
  if r == .nan && ins.all notNan then tallyNan
  return roundF32 r

/-- fadd of R285. -/
def fadd (a b : Nat) : Calc Nat := finishOp [f32 a, f32 b] (numAdd (f32 a) (f32 b))
/-- fsub of R285. -/
def fsub (a b : Nat) : Calc Nat := finishOp [f32 a, f32 b] (numAdd (f32 a) (numNeg (f32 b)))
/-- fmul of R285. -/
def fmul (a b : Nat) : Calc Nat := finishOp [f32 a, f32 b] (numMul (f32 a) (f32 b))

/-- Numeric order of two values that are not NaN: a < b. -/
def numLt (a b : Num) : Bool :=
  match a, b with
  | .nan, _ => false
  | _, .nan => false
  | .inf s, .inf t => s && !t
  | .inf s, .fin _ _ _ => s
  | .fin _ _ _, .inf t => !t
  | .fin s m e, .fin t n f =>
    let g := if e < f then e else f
    decide (signedMant s m * 2 ^ (e - g).toNat < signedMant t n * 2 ^ (f - g).toNat)

/-- Numeric equality of FP32 values: −0 equals +0, NaN equals nothing (R214). -/
def feq (a b : Nat) : Bool :=
  notNan (f32 a) && notNan (f32 b) && !numLt (f32 a) (f32 b) && !numLt (f32 b) (f32 a)

/-- fmax of R285; equal zeros of different sign give +0. -/
def fmax (a b : Nat) : Nat :=
  if isNan32 a || isNan32 b then 0x7FC00000
  else if numLt (f32 a) (f32 b) then b
  else if numLt (f32 b) (f32 a) then a
  else if a == b then a else a % 2 ^ 31

/-- −∞ and +1.0 of FP32. -/
def negInf : Nat := 0xFF800000
def one32 : Nat := 0x3F800000

/-- R286: the 16 exact products, their exact sum, one rounding. -/
def fused16 (a b : List Num) : Calc Nat := do
  let ps := List.zipWith numMul a b
  if a.any (fun x => !notNan x) || b.any (fun x => !notNan x) then return 0x7FC00000
  let negZero := ps.all fun p => match p with
    | .fin s m _ => s && m == 0
    | _ => false
  let sum := ps.foldl numAdd (.fin true 0 0)
  match sum with
  | .nan => tallyNan; return 0x7FC00000
  | .fin _ 0 _ => return (if negZero then 2 ^ 31 else 0)
  | x => return roundF32 x

/-- The chunks of 16 of two vectors. -/
def pairs16 : Nat → List Num → List Num → List (List Num × List Num)
  | 0, _, _ => []
  | n + 1, a, b => (a.take 16, b.take 16) :: pairs16 n (a.drop 16) (b.drop 16)

/-- dot of R214: chunks in ascending order, each rounded on its own. -/
def dot (a b : List Num) (n : Nat) : Calc Nat := do
  match pairs16 (n / 16) a b with
  | [] => return 0
  | p :: ps =>
    let s ← fused16 p.1 p.2
    ps.foldlM (fun s q => do fadd s (← fused16 q.1 q.2)) s

/-! ### exp2, recip, rsqrt -/

/-- The integer 64th root of v below 2^n. -/
def root64Go (v : Nat) : Nat → Nat → Nat
  | 0, r => r
  | n + 1, r => root64Go v n (if (r + 2 ^ n) ^ 64 ≤ v then r + 2 ^ n else r)

/-- T[i] of R288: the integer nearest to 2^(30 + i/64). -/
def exp2T (i : Nat) : Nat :=
  let v := 2 ^ (1920 + i)
  let r := root64Go v 32 0
  if (2 * r + 1) ^ 64 ≤ v * 2 ^ 64 then r + 1 else r

/-- Nearest integer to ±m · 2^e, ties to even. -/
def rneInt (neg : Bool) (m : Nat) (e : Int) : Int :=
  if 0 ≤ e then signedMant neg (m * 2 ^ e.toNat)
  else
    let d := 2 ^ (-e).toNat
    let n := m / d
    let r := m % d
    signedMant neg (if 2 * r > d || (2 * r == d && n % 2 == 1) then n + 1 else n)

/-- R288. -/
def exp2 (x : Nat) : Nat :=
  match f32 x with
  | .nan => 0x7FC00000
  | .inf neg => if neg then 0 else infCode (floatFmt 0) false
  | .fin neg m e =>
    if !numLt (.fin neg m e) (.fin false 128 0) then infCode (floatFmt 0) false
    else if !numLt (.fin true 160 0) (.fin neg m e) then 0
    else
      let xf := rneInt neg m (e + 24)
      let n := xf / 2 ^ 24
      let fr := (xf % 2 ^ 24).toNat
      let i := fr / 2 ^ 18
      let u := fr % 2 ^ 18
      let q := (0xB17217F8 * u) / 2 ^ 24 + (251896 * u * u) / 2 ^ 36 + (227 * u * u * u) / 2 ^ 52
      roundF32 (.fin false (exp2T i * (2 ^ 32 + q)) (n - 62))

/-- Normalise m · 2^e to 2^23 ≤ m < 2^24 (unpack of R289). -/
def unpack24 (m : Nat) (e : Int) : Nat × Int :=
  let l := Nat.log2 m
  if l ≤ 23 then (m * 2 ^ (23 - l), e - (23 - l : Nat)) else (m / 2 ^ (l - 23), e + (l - 23 : Nat))

/-- R289: 1/x, the floor of 2^48/m with its sticky bit, rounded once. -/
def recip (x : Nat) : Nat :=
  match f32 x with
  | .nan => 0x7FC00000
  | .inf neg => signCode (floatFmt 0) neg
  | .fin neg m e =>
    if m = 0 then infCode (floatFmt 0) neg
    else
      let u := unpack24 m e
      let y := 2 ^ 48 / u.1
      let sticky := if u.1 * y = 2 ^ 48 then 0 else 1
      roundF32 (.fin neg (2 * y + sticky) (-49 - u.2))

/-- R290: 1/√x. -/
def rsqrt (x : Nat) : Calc Nat := do
  match f32 x with
  | .nan => return 0x7FC00000
  | .inf neg => if neg then tallyNan; return 0x7FC00000 else return 0
  | .fin neg m e =>
    if m = 0 then return infCode (floatFmt 0) neg
    else if neg then tallyNan; return 0x7FC00000
    else
      let u := unpack24 m e
      let w : Nat × Int := if u.2 % 2 = 0 then u else (2 * u.1, u.2 - 1)
      let y := Nat.sqrt (2 ^ 74 / w.1)
      let sticky := if w.1 * y * y = 2 ^ 74 then 0 else 1
      return roundF32 (.fin false (2 * y + sticky) (-38 - w.2 / 2))

/-- float(n) of R285. -/
def floatOf (n : Nat) : Nat := roundF32 (.fin false n 0)

/-! ### MX blocks (R277, R278, R282, R283) -/

/-- The exact value of a stored MX element under scale code s (R283). -/
def mxDecode (code s q : Nat) : Num :=
  if s = 255 then .nan
  else match decodeElem code q with
    | .fin neg m e => .fin neg m (e + (s : Int) - 127)
    | x => x

/-- The FP32 view of a stored MX element (R283). -/
def mxDecode32 (code s q : Nat) : Nat := roundF32 (mxDecode code s q)

/-- emax of R282. -/
def mxEmax (code : Nat) : Int :=
  match code with
  | 4 => 8
  | 5 => 15
  | 6 => 4
  | _ => 2

/-- elem of R282. -/
def mxElem (code : Nat) (sat : Bool) (neg : Bool) (m : Nat) (e : Int) : Calc Nat := do
  if code = 4 || code = 5 then cvtNum code sat (.fin neg m e)
  else
    let f := floatFmt code
    let c := roundMag f m e
    if c ≤ f.maxCode then return signCode f neg + c
    else
      tallySat
      return signCode f neg + f.maxCode

/-- ⌊log₂⌋ of the largest magnitude of FP32 values, none when all are zero. -/
def amaxLog (v : List Nat) : Option Int :=
  v.foldl (fun acc x => match f32 x with
    | .fin _ m e => if m = 0 then acc else
        let l : Int := Nat.log2 m + e
        match acc with
        | none => some l
        | some k => some (if k < l then l else k)
    | _ => acc) none

/-- mx_quant of R282: the scale code and the elements of one block of 32. -/
def mxQuant (code : Nat) (sat : Bool) (v : List Nat) : Calc (Nat × List Nat) := do
  let f := floatFmt code
  if v.any (fun x => match f32 x with | .fin _ _ _ => false | _ => true) then
    tallyNanBlock
    return (255, v.map fun _ => 0)
  else match amaxLog v with
    | none => return (0, v.map fun x => signCode f (x.testBit 31))
    | some l =>
      let se := if l - mxEmax code < -127 then -127 else l - mxEmax code
      let qs ← v.mapM fun x => match f32 x with
        | .fin neg m e => mxElem code sat neg m (e - se)
        | _ => pure 0
      return ((se + 127).toNat, qs)

/-- Bytes that n elements of a format occupy (R278). -/
def elemBytes (code n : Nat) : Nat := ceilDiv (n * fmtBits code) 8

/-- Element i of packed data (R278): the bits [w·i + w − 1 : w·i] of the little-endian stream. -/
def elemAt (code : Nat) (bs : List Byte) (i : Nat) : Nat :=
  let w := fmtBits code
  (valAt bs (i * w / 8) (w / 8 + 2) >>> (i * w % 8)) % 2 ^ w

/-- Pack element codes (R278). -/
def packElems (code : Nat) (qs : List Nat) : List Byte :=
  let w := fmtBits code
  toBytes (elemBytes code qs.length) (qs.foldr (fun q acc => acc * 2 ^ w + q % 2 ^ w) 0)

/-! ### The exact accumulator (R291–R293) -/

/-- An accumulator: a finite A · 2^−149, or one of the special values of R291. -/
inductive Acc where
  | nan
  | inf (neg : Bool)
  | fin (a : Int)
  deriving DecidableEq, Repr

/-- A new accumulator is exact zero (R291). -/
def Acc.zero : Acc := .fin 0

/-- eadd of R292. -/
def eadd (a : Acc) (x : Num) : Calc Acc := do
  match a, x with
  | .nan, _ => return .nan
  | _, .nan => return .nan
  | .inf s, .inf t => if s == t then return .inf s else tallyNan; return .nan
  | .inf s, .fin _ _ _ => return .inf s
  | .fin _, .inf t => return .inf t
  | .fin v, .fin s m e =>
    let w := v + signedMant s m * 2 ^ (e + 149).toNat
    if w.natAbs ≥ 2 ^ 309 then
      tallyAcc
      return .inf (decide (w < 0))
    else return .fin w

/-- Two accumulators joined: the sum of two exact sums (the merges of R264 and R269). -/
def eaddAcc (a b : Acc) : Calc Acc :=
  match b with
  | .nan => eadd a .nan
  | .inf s => eadd a (.inf s)
  | .fin v => eadd a (.fin (decide (v < 0)) v.natAbs (-149))

/-- eround of R293. -/
def eround (code : Nat) (a : Acc) (sat : Bool) : Calc Nat :=
  match a with
  | .nan => cvtNum code sat .nan
  | .inf s => cvtNum code sat (.inf s)
  | .fin v => if v = 0 then pure 0 else cvtNum code sat (.fin (decide (v < 0)) v.natAbs (-149))

/-- R291: the 320 stored bits of an accumulator. -/
def Acc.bits : Acc → Nat
  | .nan => 0x7F * 2 ^ 312
  | .inf false => 0x7E * 2 ^ 312
  | .inf true => 0x7D * 2 ^ 312
  | .fin v => ofSigned 320 v

end Sys2Proof.Machine
end

