-- ==== Sys2Proof/Machine/Objects.lean ====
section
/-! DEFINITION. The object dictionary (15_management.md, R383–R386, R429): one constructor of Obj per row of the object
tables of the spec, with its index, sub-index, type, access, layout, power domain, default and valid values. The docstring of a
constructor names its row and the rule that holds the table. -/

namespace Sys2Proof.Machine

/-- Object types (R384). -/
inductive ObjType where
  | u8 | u16 | u32 | u64 | i32 | bits | table | digest
  deriving DecidableEq, Repr

/-- Access classes (R386). -/
inductive Access where
  | ro | wo | rw | rwSecure | rwLocked
  deriving DecidableEq, Repr

/-- The unit whose power decides whether an RO object answers (R429). -/
inductive Holder where
  | aon     -- held in the AON domain: never DOMAIN_OFF
  | core    -- the link core (R416)
  | sport   -- the SPORT domain
  | array   -- any powered cluster
  | seq     -- the SEQ domain
  deriving DecidableEq, Repr

/-- How an object's entries lie in it (R384): count entries of one size, or entries of the sizes listed. -/
inductive Layout where
  | uniform (bytes count : Nat)
  | mixed (sizes : List Nat)
  deriving DecidableEq, Repr

/-- One row of an object table. -/
structure ObjRow where
  index : Nat
  sub : Nat
  ty : ObjType
  access : Access
  layout : Layout
  holder : Holder
  sceneBound : Bool
  deriving DecidableEq, Repr

/-- Sizes of the 35 fields of a gate list (R161). -/
def gateSizes : List Nat := [8, 4, 1] ++ List.replicate 32 4

/-- Sizes of the fields of a port counter block (R177). -/
def portSizes : List Nat := List.replicate 4 8 ++ List.replicate 16 2

/-- Every object of the dictionary. -/
inductive Obj where
  | mgtIdCount
  | mgtFamily
  | mgtSide
  | mgtSerial
  | mgtStepping
  | mgtLanes
  | mgtCells
  | mgtScratchKib
  | mgtSubq
  | phyRateMax
  | phyRate
  | phyWidthMax
  | phyWidthMin
  | phyTxWidth
  | phyRxWidth
  | phyTrnStart
  | phyTrnState
  | phyTrnFails
  | phyCheckErrs
  | phyTxMap
  | phyRxMap
  | phyRxConnect
  | phyTxFailed
  | phyRxFailed
  | phyMapGen
  | phyLaneFailErrs
  | phyRepairEn
  | phyRxRetire
  | phySpliceTimeout
  | phySpliceCount
  | phySpliceFails
  | phyCommitMissed
  | phySbErrs
  | phyGroupOff
  | phyFarConnect
  | phyLatTarget
  | phyLatState
  | phyLatRt
  | phyLatPad
  | phyLatCheckInt
  | phyLcc
  | lnkState
  | lnkDownCause
  | lnkForceDown
  | lnkDownCount
  | lnkTxSeq
  | lnkTxAcked
  | lnkRxExpect
  | lnkAckTimeout
  | lnkNakRepeat
  | lnkAckStallLimit
  | lnkNakReplays
  | lnkTimeoutReplays
  | lnkReplayFlits
  | lnkAckErrs
  | lnkProtoErrs
  | lnkSpillEn
  | lnkSpillBase
  | lnkSpillFa
  | lnkSpillPart
  | lnkSpillTc
  | lnkSpillState
  | lnkRetakeFill
  | lnkSpillFill
  | lnkSpillWrites
  | lnkRetakeEcc
  | lnkXoffHeadroom
  | lnkVcRegion
  | lnkXoffState
  | lnkVcFree
  | lnkVcOverflow
  | lnkWarn
  | lnkDown
  | lnkErrWindow
  | lnkCrcErrs
  | lnkFecCorr
  | lnkFecUncorr
  | lnkDiagState
  | lnkIdleLimit
  | lnkRecordsUsed
  | lnkRecordsWaits
  | lnkSynthCpl
  | lnkDownDrops
  | pktFa
  | pktOwnEp
  | pktReqTimeout
  | pktSlate
  | pktFarSlate
  | pktRouteActive
  | pktRouteA
  | pktRouteB
  | pktDrainA
  | pktDrainB
  | pktOrdOpen
  | pktAdaptBias
  | pktDrainRelayHold
  | pktRouteFlips
  | pktMsgOpen
  | pktHoldUsed
  | pktHoldCount
  | pktMalformed
  | pktHopDrops
  | pktLateCpl
  | pktTimeouts
  | pktNoroute
  | pktSportFclkDiv
  | pktSportLockEn
  | pktSportState
  | pktSportLatIn
  | pktSportLatOut
  | pktSportRestart
  | pktRelayLockEn
  | pktRelayState
  | pktSportDrops
  | pktSportErrs
  | pktRelayErrs
  | tclBucketRate
  | tclBucketBurst
  | tclBucketLevel
  | tclGateVc1
  | tclGateVc2
  | tclGateState
  | tclGateStart
  | tclGateSlips
  | tclFlowTable
  | tclFlowState
  | tclFlowBound
  | tclAdmitResult
  | tclPoliceRefused
  | tclStackAccess
  | tclRelayTransit
  | tclRecheckRate
  | tclRecheckResult
  | tclRegisterUsed
  | tclDlLate
  | tclSampleLog
  | tclQueueSamples
  | tclPortLink
  | tclPortRelay
  | tclPortStream
  | arrClusterEn
  | arrClusterState
  | arrCellState
  | arrCellFails
  | arrIdleGate
  | arrTileLimit
  | arrScratchRed
  | arrScratchStage
  | arrAccCapacity
  | arrStageFree
  | arrQueueCfg
  | arrQueueFill
  | arrQueueWcet
  | arrCheckResult
  | arrSubmitRefused
  | arrStackShare
  | arrDlStackSlots
  | arrRemoteAccess
  | arrRemoteRate
  | arrOwnTags
  | oprUcodeVer
  | oprDescDone
  | oprPassSplits
  | oprTileReruns
  | oprAttnRows
  | oprAttnDataErrs
  | oprAttnEmpty
  | oprTopkNan
  | redOpen
  | redAccFree
  | redTable
  | redRefused
  | redWrBlocked
  | redFlushes
  | redPoisoned
  | oprGemvBytes
  | oprGatherRows
  | oprGatherEmpty
  | oprQuantRmw
  | oprCopySectors
  | oprStreamDataErrs
  | oprCvtSat
  | oprCvtOvf
  | oprNanMade
  | oprNanBlocks
  | oprAccOvf
  | stkSectors
  | stkPartTable
  | stkAccessTable
  | stkPartApply
  | stkPartResult
  | stkPartDegraded
  | stkPartFenced
  | stkDenied
  | stkTagMismatch
  | stkSclkDiv
  | stkSportLockEn
  | stkSportState
  | stkSportLatCmd
  | stkSportLatRsp
  | stkRspTimeout
  | stkPcState
  | stkSportRestart
  | stkLateRsp
  | stkKwkId
  | stkKeyState
  | stkKcv
  | stkRekeyFrames
  | stkKeyCmds
  | stkKeyRefused
  | stkScrubEn
  | stkScrubFrames
  | stkScrubPos
  | stkScrubPasses
  | stkOuterCorr
  | stkInnerCorr
  | stkUncorr
  | stkTransient
  | stkPoisonReads
  | stkMetaFaults
  | stkDigest
  | stkDigestGen
  | stkDigestState
  | stkDigestGenNow
  | redEngState
  | redTakeovers
  | redLastYield
  | redResyncs
  | redFrameErrs
  | redYieldLimit
  | redYieldWindow
  | redYieldCount
  | redHealth
  | redScreenPeriod
  | redFence
  | redFenceCause
  | redFenceAnswered
  | redFenceDrops
  | redSharedCorr
  | redSharedUncorr
  | redSpareRows
  | calEn
  | calPeriod
  | calTemp
  | calTrimSets
  | calTrimOffset
  | calTrimNow
  | calRejects
  | calLastReject
  | calDeskewPeriod
  | calDeskew
  | calLinkRejects
  | calSeqState
  | calSeqRestarts
  | ageEn
  | agePlanInterval
  | ageHorizon
  | ageMinHeight
  | ageMinWidth
  | ageMinSamples
  | ageSpareReserve
  | ageStepEn
  | ageStepGrace
  | ageStepHold
  | ageStepState
  | ageEyeDwell
  | ageEye
  | ageHistory
  | ageForecast
  | ageMonitorState
  | ageRo
  | ageRoLimit
  | ageRetired
  | ageRateSteps
  | scrFieldEn
  | scrFieldPeriod
  | scrExtraLimit
  | scrRun
  | scrState
  | scrResults
  | scrFailed
  | scrAnalog
  | scrScratchBad
  | scrSkips
  | scrZeroise
  | scrZeroRecord
  | mgtSeal
  | mgtDefaultsUsed
  | mgtRingState
  | mgtRingTimeout
  | mgtRingDrops
  | mgtImage
  | mgtScriptLoad
  | mgtSceneLoad
  | mgtLoadResult
  | mgtSceneCommit
  | mgtSceneActive
  | mgtCommitResult
  | mgtSceneStored
  | mgtScriptId
  | mgtCommits
  | mgtCommitRefusals
  | mgtLockState
  | mgtLockForce
  | mgtEvtEn
  | mgtEvtFa
  | mgtEvtBase
  | mgtEvtSize
  | mgtEvtPstate
  | mgtEvtTc
  | mgtEvtPart
  | mgtEvtPidx
  | mgtEvtCidx
  | mgtEvtDropped
  | mgtEvtWriteErrs
  | mgtEvtPath
  | mgtEvtFbFa
  | mgtEvtFbBase
  | mgtEvtMode
  | mgtFaultRecord
  | mgtFaultCount
  | pwrClkState
  | pwrClkCount
  | pwrClkRestart
  | pwrDomainState
  | pwrDomainCtrl
  | pwrCycle
  | pwrReset
  | pwrBringupState
  | pwrBringupTime
  | pwrAutoTrain
  | pwrResetCount
  | pwrFwImage
  | pwrFwLoad
  | pwrFwResult
  deriving DecidableEq, Repr

/-- The rows of the object tables. -/
def Obj.row : Obj → ObjRow
  | .mgtIdCount => ⟨0x1000, 0x00, .u8, .ro, .uniform 1 1, .aon, false⟩
  | .mgtFamily => ⟨0x1000, 0x01, .u8, .ro, .uniform 1 1, .aon, false⟩
  | .mgtSide => ⟨0x1000, 0x02, .u8, .ro, .uniform 1 1, .aon, false⟩
  | .mgtSerial => ⟨0x1000, 0x03, .u64, .ro, .uniform 8 1, .aon, false⟩
  | .mgtStepping => ⟨0x1000, 0x04, .u16, .ro, .uniform 2 1, .aon, false⟩
  | .mgtLanes => ⟨0x1000, 0x05, .bits, .ro, .uniform 4 1, .aon, false⟩
  | .mgtCells => ⟨0x1000, 0x06, .bits, .ro, .uniform 4 1, .aon, false⟩
  | .mgtScratchKib => ⟨0x1000, 0x07, .u32, .ro, .uniform 4 1, .aon, false⟩
  | .mgtSubq => ⟨0x1000, 0x08, .u8, .ro, .uniform 1 1, .aon, false⟩
  | .phyRateMax => ⟨0x2000, 0x01, .u8, .rw, .uniform 1 1, .aon, false⟩
  | .phyRate => ⟨0x2000, 0x02, .u8, .ro, .uniform 1 1, .core, false⟩
  | .phyWidthMax => ⟨0x2000, 0x03, .u8, .rw, .uniform 1 1, .aon, false⟩
  | .phyWidthMin => ⟨0x2000, 0x04, .u8, .rw, .uniform 1 1, .aon, false⟩
  | .phyTxWidth => ⟨0x2000, 0x05, .u8, .ro, .uniform 1 1, .core, false⟩
  | .phyRxWidth => ⟨0x2000, 0x06, .u8, .ro, .uniform 1 1, .core, false⟩
  | .phyTrnStart => ⟨0x2000, 0x07, .u8, .wo, .uniform 1 1, .aon, false⟩
  | .phyTrnState => ⟨0x2000, 0x08, .u8, .ro, .uniform 1 1, .core, false⟩
  | .phyTrnFails => ⟨0x2000, 0x09, .bits, .ro, .uniform 4 1, .core, false⟩
  | .phyCheckErrs => ⟨0x2000, 0x0A, .u16, .rw, .uniform 2 1, .aon, false⟩
  | .phyTxMap => ⟨0x2010, 0x01, .table, .ro, .uniform 1 64, .core, false⟩
  | .phyRxMap => ⟨0x2010, 0x02, .table, .ro, .uniform 1 64, .core, false⟩
  | .phyRxConnect => ⟨0x2010, 0x03, .table, .ro, .uniform 1 72, .core, false⟩
  | .phyTxFailed => ⟨0x2010, 0x04, .table, .ro, .uniform 4 3, .core, false⟩
  | .phyRxFailed => ⟨0x2010, 0x05, .table, .ro, .uniform 4 3, .core, false⟩
  | .phyMapGen => ⟨0x2010, 0x06, .bits, .ro, .uniform 4 1, .core, false⟩
  | .phyLaneFailErrs => ⟨0x2010, 0x07, .u16, .rw, .uniform 2 1, .aon, false⟩
  | .phyRepairEn => ⟨0x2010, 0x08, .u8, .rw, .uniform 1 1, .aon, false⟩
  | .phyRxRetire => ⟨0x2010, 0x09, .u8, .wo, .uniform 1 1, .aon, false⟩
  | .phySpliceTimeout => ⟨0x2010, 0x0A, .u16, .rw, .uniform 2 1, .aon, false⟩
  | .phySpliceCount => ⟨0x2010, 0x0B, .u32, .ro, .uniform 4 1, .core, false⟩
  | .phySpliceFails => ⟨0x2010, 0x0C, .u32, .ro, .uniform 4 1, .core, false⟩
  | .phyCommitMissed => ⟨0x2010, 0x0D, .u32, .ro, .uniform 4 1, .core, false⟩
  | .phySbErrs => ⟨0x2010, 0x0E, .u32, .ro, .uniform 4 1, .aon, false⟩
  | .phyGroupOff => ⟨0x2010, 0x0F, .bits, .rw, .uniform 4 1, .aon, false⟩
  | .phyFarConnect => ⟨0x2010, 0x10, .table, .ro, .uniform 1 72, .core, false⟩
  | .phyLatTarget => ⟨0x2020, 0x01, .u8, .rw, .uniform 1 1, .aon, false⟩
  | .phyLatState => ⟨0x2020, 0x02, .bits, .ro, .uniform 4 1, .core, false⟩
  | .phyLatRt => ⟨0x2020, 0x03, .u16, .ro, .uniform 2 1, .core, false⟩
  | .phyLatPad => ⟨0x2020, 0x04, .u8, .ro, .uniform 1 1, .core, false⟩
  | .phyLatCheckInt => ⟨0x2020, 0x05, .u8, .rw, .uniform 1 1, .aon, false⟩
  | .phyLcc => ⟨0x2020, 0x06, .u64, .ro, .uniform 8 1, .core, false⟩
  | .lnkState => ⟨0x3000, 0x01, .u8, .ro, .uniform 1 1, .core, false⟩
  | .lnkDownCause => ⟨0x3000, 0x02, .u8, .ro, .uniform 1 1, .aon, false⟩
  | .lnkForceDown => ⟨0x3000, 0x03, .u8, .wo, .uniform 1 1, .aon, false⟩
  | .lnkDownCount => ⟨0x3000, 0x04, .u32, .ro, .uniform 4 1, .aon, false⟩
  | .lnkTxSeq => ⟨0x3010, 0x01, .u16, .ro, .uniform 2 1, .core, false⟩
  | .lnkTxAcked => ⟨0x3010, 0x02, .u16, .ro, .uniform 2 1, .core, false⟩
  | .lnkRxExpect => ⟨0x3010, 0x03, .u16, .ro, .uniform 2 1, .core, false⟩
  | .lnkAckTimeout => ⟨0x3010, 0x04, .u16, .rw, .uniform 2 1, .aon, false⟩
  | .lnkNakRepeat => ⟨0x3010, 0x05, .u16, .rw, .uniform 2 1, .aon, true⟩
  | .lnkAckStallLimit => ⟨0x3010, 0x06, .u32, .rw, .uniform 4 1, .aon, false⟩
  | .lnkNakReplays => ⟨0x3010, 0x07, .u32, .ro, .uniform 4 1, .core, false⟩
  | .lnkTimeoutReplays => ⟨0x3010, 0x08, .u32, .ro, .uniform 4 1, .core, false⟩
  | .lnkReplayFlits => ⟨0x3010, 0x09, .u64, .ro, .uniform 8 1, .core, false⟩
  | .lnkAckErrs => ⟨0x3010, 0x0A, .u32, .ro, .uniform 4 1, .core, false⟩
  | .lnkProtoErrs => ⟨0x3010, 0x0B, .u32, .ro, .uniform 4 1, .core, false⟩
  | .lnkSpillEn => ⟨0x3020, 0x01, .u8, .rw, .uniform 1 1, .aon, false⟩
  | .lnkSpillBase => ⟨0x3020, 0x02, .u64, .rw, .uniform 8 1, .aon, true⟩
  | .lnkSpillFa => ⟨0x3020, 0x03, .u16, .rw, .uniform 2 1, .aon, true⟩
  | .lnkSpillPart => ⟨0x3020, 0x04, .u8, .rw, .uniform 1 1, .aon, true⟩
  | .lnkSpillTc => ⟨0x3020, 0x05, .u8, .rw, .uniform 1 1, .aon, true⟩
  | .lnkSpillState => ⟨0x3020, 0x06, .bits, .ro, .uniform 4 1, .core, false⟩
  | .lnkRetakeFill => ⟨0x3020, 0x07, .u16, .ro, .uniform 2 1, .core, false⟩
  | .lnkSpillFill => ⟨0x3020, 0x08, .u16, .ro, .uniform 2 1, .core, false⟩
  | .lnkSpillWrites => ⟨0x3020, 0x09, .u32, .ro, .uniform 4 1, .core, false⟩
  | .lnkRetakeEcc => ⟨0x3020, 0x0A, .u32, .ro, .uniform 4 1, .core, false⟩
  | .lnkXoffHeadroom => ⟨0x3030, 0x01, .u16, .rw, .uniform 2 1, .aon, true⟩
  | .lnkVcRegion => ⟨0x3030, 0x02, .table, .rw, .uniform 2 8, .aon, true⟩
  | .lnkXoffState => ⟨0x3030, 0x03, .bits, .ro, .uniform 4 1, .core, false⟩
  | .lnkVcFree => ⟨0x3030, 0x04, .table, .ro, .uniform 2 8, .core, false⟩
  | .lnkVcOverflow => ⟨0x3030, 0x05, .u32, .ro, .uniform 4 1, .core, false⟩
  | .lnkWarn => ⟨0x3040, 0x01, .u16, .rw, .uniform 2 1, .aon, false⟩
  | .lnkDown => ⟨0x3040, 0x02, .u16, .rw, .uniform 2 1, .aon, false⟩
  | .lnkErrWindow => ⟨0x3040, 0x03, .u16, .ro, .uniform 2 1, .core, false⟩
  | .lnkCrcErrs => ⟨0x3040, 0x04, .u64, .ro, .uniform 8 1, .core, false⟩
  | .lnkFecCorr => ⟨0x3040, 0x05, .u64, .ro, .uniform 8 1, .core, false⟩
  | .lnkFecUncorr => ⟨0x3040, 0x06, .u32, .ro, .uniform 4 1, .core, false⟩
  | .lnkDiagState => ⟨0x3040, 0x07, .bits, .ro, .uniform 4 1, .core, false⟩
  | .lnkIdleLimit => ⟨0x3040, 0x08, .u32, .rw, .uniform 4 1, .aon, false⟩
  | .lnkRecordsUsed => ⟨0x3050, 0x01, .u16, .ro, .uniform 2 1, .core, false⟩
  | .lnkRecordsWaits => ⟨0x3050, 0x02, .u32, .ro, .uniform 4 1, .core, false⟩
  | .lnkSynthCpl => ⟨0x3050, 0x03, .u32, .ro, .uniform 4 1, .core, false⟩
  | .lnkDownDrops => ⟨0x3050, 0x04, .u32, .ro, .uniform 4 1, .core, false⟩
  | .pktFa => ⟨0x4000, 0x01, .u16, .rw, .uniform 2 1, .aon, false⟩
  | .pktOwnEp => ⟨0x4000, 0x02, .u32, .rw, .uniform 4 1, .aon, false⟩
  | .pktReqTimeout => ⟨0x4000, 0x03, .u32, .rw, .uniform 4 1, .aon, false⟩
  | .pktSlate => ⟨0x4000, 0x04, .table, .ro, .uniform 1 48, .aon, false⟩
  | .pktFarSlate => ⟨0x4000, 0x05, .table, .ro, .uniform 1 48, .aon, false⟩
  | .pktRouteActive => ⟨0x4010, 0x01, .u8, .rw, .uniform 1 1, .aon, false⟩
  | .pktRouteA => ⟨0x4010, 0x02, .table, .rw, .uniform 2 64, .aon, false⟩
  | .pktRouteB => ⟨0x4010, 0x03, .table, .rw, .uniform 2 64, .aon, false⟩
  | .pktDrainA => ⟨0x4010, 0x04, .u32, .ro, .uniform 4 1, .core, false⟩
  | .pktDrainB => ⟨0x4010, 0x05, .u32, .ro, .uniform 4 1, .core, false⟩
  | .pktOrdOpen => ⟨0x4010, 0x06, .table, .ro, .uniform 2 2, .core, false⟩
  | .pktAdaptBias => ⟨0x4010, 0x07, .u16, .rw, .uniform 2 1, .aon, false⟩
  | .pktDrainRelayHold => ⟨0x4010, 0x08, .u16, .rw, .uniform 2 1, .aon, false⟩
  | .pktRouteFlips => ⟨0x4010, 0x09, .u32, .ro, .uniform 4 1, .core, false⟩
  | .pktMsgOpen => ⟨0x4020, 0x01, .u16, .ro, .uniform 2 1, .core, false⟩
  | .pktHoldUsed => ⟨0x4020, 0x02, .u8, .ro, .uniform 1 1, .core, false⟩
  | .pktHoldCount => ⟨0x4020, 0x03, .u32, .ro, .uniform 4 1, .core, false⟩
  | .pktMalformed => ⟨0x4030, 0x01, .u32, .ro, .uniform 4 1, .core, false⟩
  | .pktHopDrops => ⟨0x4030, 0x02, .u32, .ro, .uniform 4 1, .core, false⟩
  | .pktLateCpl => ⟨0x4030, 0x03, .u32, .ro, .uniform 4 1, .core, false⟩
  | .pktTimeouts => ⟨0x4030, 0x04, .u32, .ro, .uniform 4 1, .core, false⟩
  | .pktNoroute => ⟨0x4030, 0x05, .u32, .ro, .uniform 4 1, .core, false⟩
  | .pktSportFclkDiv => ⟨0x4100, 0x01, .u8, .rw, .uniform 1 1, .aon, false⟩
  | .pktSportLockEn => ⟨0x4100, 0x02, .u8, .rw, .uniform 1 1, .aon, false⟩
  | .pktSportState => ⟨0x4100, 0x03, .bits, .ro, .uniform 4 1, .sport, false⟩
  | .pktSportLatIn => ⟨0x4100, 0x04, .u16, .ro, .uniform 2 1, .sport, false⟩
  | .pktSportLatOut => ⟨0x4100, 0x05, .u16, .ro, .uniform 2 1, .sport, false⟩
  | .pktSportRestart => ⟨0x4100, 0x06, .u8, .wo, .uniform 1 1, .aon, false⟩
  | .pktRelayLockEn => ⟨0x4100, 0x07, .u8, .rw, .uniform 1 1, .aon, false⟩
  | .pktRelayState => ⟨0x4100, 0x08, .bits, .ro, .uniform 4 1, .core, false⟩
  | .pktSportDrops => ⟨0x4100, 0x09, .u32, .ro, .uniform 4 1, .sport, false⟩
  | .pktSportErrs => ⟨0x4100, 0x0A, .u32, .ro, .uniform 4 1, .sport, false⟩
  | .pktRelayErrs => ⟨0x4100, 0x0B, .u32, .ro, .uniform 4 1, .core, false⟩
  | .tclBucketRate => ⟨0x5000, 0x01, .table, .rw, .uniform 2 4, .aon, true⟩
  | .tclBucketBurst => ⟨0x5000, 0x02, .table, .rw, .uniform 2 4, .aon, true⟩
  | .tclBucketLevel => ⟨0x5000, 0x03, .table, .ro, .uniform 4 4, .core, false⟩
  | .tclGateVc1 => ⟨0x5010, 0x01, .table, .rw, .mixed gateSizes, .aon, true⟩
  | .tclGateVc2 => ⟨0x5010, 0x02, .table, .rw, .mixed gateSizes, .aon, true⟩
  | .tclGateState => ⟨0x5010, 0x03, .bits, .ro, .uniform 4 1, .core, false⟩
  | .tclGateStart => ⟨0x5010, 0x04, .table, .ro, .uniform 8 2, .core, false⟩
  | .tclGateSlips => ⟨0x5010, 0x05, .table, .ro, .uniform 4 2, .core, false⟩
  | .tclFlowTable => ⟨0x5020, 0x01, .table, .rw, .uniform 32 256, .aon, true⟩
  | .tclFlowState => ⟨0x5020, 0x02, .table, .ro, .uniform 1 256, .core, false⟩
  | .tclFlowBound => ⟨0x5020, 0x03, .table, .ro, .uniform 4 256, .core, false⟩
  | .tclAdmitResult => ⟨0x5020, 0x04, .table, .ro, .uniform 16 1, .core, false⟩
  | .tclPoliceRefused => ⟨0x5020, 0x05, .u32, .ro, .uniform 4 1, .core, false⟩
  | .tclStackAccess => ⟨0x5020, 0x06, .u32, .rw, .uniform 4 1, .aon, true⟩
  | .tclRelayTransit => ⟨0x5020, 0x07, .u16, .rw, .uniform 2 1, .aon, true⟩
  | .tclRecheckRate => ⟨0x5020, 0x08, .u8, .wo, .uniform 1 1, .aon, false⟩
  | .tclRecheckResult => ⟨0x5020, 0x09, .bits, .ro, .uniform 4 1, .core, false⟩
  | .tclRegisterUsed => ⟨0x5020, 0x0A, .u16, .ro, .uniform 2 1, .core, false⟩
  | .tclDlLate => ⟨0x5020, 0x0B, .u32, .ro, .uniform 4 1, .core, false⟩
  | .tclSampleLog => ⟨0x5030, 0x01, .u8, .rw, .uniform 1 1, .aon, false⟩
  | .tclQueueSamples => ⟨0x5030, 0x02, .table, .ro, .uniform 16 24, .core, false⟩
  | .tclPortLink => ⟨0x5030, 0x03, .table, .ro, .mixed portSizes, .core, false⟩
  | .tclPortRelay => ⟨0x5030, 0x04, .table, .ro, .mixed portSizes, .core, false⟩
  | .tclPortStream => ⟨0x5030, 0x05, .table, .ro, .mixed portSizes, .core, false⟩
  | .arrClusterEn => ⟨0x6000, 0x01, .bits, .rw, .uniform 4 1, .aon, true⟩
  | .arrClusterState => ⟨0x6000, 0x02, .bits, .ro, .uniform 4 1, .array, false⟩
  | .arrCellState => ⟨0x6000, 0x03, .table, .ro, .uniform 1 136, .array, false⟩
  | .arrCellFails => ⟨0x6000, 0x04, .u32, .ro, .uniform 4 1, .array, false⟩
  | .arrIdleGate => ⟨0x6000, 0x05, .u16, .rw, .uniform 2 1, .aon, false⟩
  | .arrTileLimit => ⟨0x6000, 0x06, .u16, .ro, .uniform 2 1, .array, false⟩
  | .arrScratchRed => ⟨0x6010, 0x01, .bits, .rw, .uniform 4 1, .aon, true⟩
  | .arrScratchStage => ⟨0x6010, 0x02, .bits, .rw, .uniform 4 1, .aon, true⟩
  | .arrAccCapacity => ⟨0x6010, 0x03, .u32, .ro, .uniform 4 1, .array, false⟩
  | .arrStageFree => ⟨0x6010, 0x04, .u8, .ro, .uniform 1 1, .array, false⟩
  | .arrQueueCfg => ⟨0x6020, 0x01, .table, .rw, .uniform 16 64, .aon, true⟩
  | .arrQueueFill => ⟨0x6020, 0x02, .table, .ro, .uniform 2 64, .array, false⟩
  | .arrQueueWcet => ⟨0x6020, 0x03, .table, .ro, .uniform 4 64, .array, false⟩
  | .arrCheckResult => ⟨0x6020, 0x04, .bits, .ro, .uniform 4 1, .array, false⟩
  | .arrSubmitRefused => ⟨0x6020, 0x05, .u32, .ro, .uniform 4 1, .array, false⟩
  | .arrStackShare => ⟨0x6030, 0x01, .u8, .rw, .uniform 1 1, .aon, true⟩
  | .arrDlStackSlots => ⟨0x6030, 0x02, .u8, .ro, .uniform 1 1, .array, false⟩
  | .arrRemoteAccess => ⟨0x6030, 0x03, .u32, .rw, .uniform 4 1, .aon, false⟩
  | .arrRemoteRate => ⟨0x6030, 0x04, .u16, .rw, .uniform 2 1, .aon, false⟩
  | .arrOwnTags => ⟨0x6030, 0x05, .u16, .ro, .uniform 2 1, .array, false⟩
  | .oprUcodeVer => ⟨0x6040, 0x01, .u16, .ro, .uniform 2 1, .array, false⟩
  | .oprDescDone => ⟨0x6040, 0x02, .u64, .ro, .uniform 8 1, .array, false⟩
  | .oprPassSplits => ⟨0x6040, 0x03, .u32, .ro, .uniform 4 1, .array, false⟩
  | .oprTileReruns => ⟨0x6040, 0x04, .u32, .ro, .uniform 4 1, .array, false⟩
  | .oprAttnRows => ⟨0x6050, 0x01, .u64, .ro, .uniform 8 1, .array, false⟩
  | .oprAttnDataErrs => ⟨0x6050, 0x02, .u32, .ro, .uniform 4 1, .array, false⟩
  | .oprAttnEmpty => ⟨0x6050, 0x03, .u32, .ro, .uniform 4 1, .array, false⟩
  | .oprTopkNan => ⟨0x6050, 0x04, .u32, .ro, .uniform 4 1, .array, false⟩
  | .redOpen => ⟨0x6060, 0x01, .u16, .ro, .uniform 2 1, .array, false⟩
  | .redAccFree => ⟨0x6060, 0x02, .u32, .ro, .uniform 4 1, .array, false⟩
  | .redTable => ⟨0x6060, 0x03, .table, .ro, .uniform 16 4096, .array, false⟩
  | .redRefused => ⟨0x6060, 0x04, .u32, .ro, .uniform 4 1, .array, false⟩
  | .redWrBlocked => ⟨0x6060, 0x05, .u32, .ro, .uniform 4 1, .array, false⟩
  | .redFlushes => ⟨0x6060, 0x06, .u32, .ro, .uniform 4 1, .array, false⟩
  | .redPoisoned => ⟨0x6060, 0x07, .u32, .ro, .uniform 4 1, .array, false⟩
  | .oprGemvBytes => ⟨0x6070, 0x01, .u64, .ro, .uniform 8 1, .array, false⟩
  | .oprGatherRows => ⟨0x6070, 0x02, .u64, .ro, .uniform 8 1, .array, false⟩
  | .oprGatherEmpty => ⟨0x6070, 0x03, .u32, .ro, .uniform 4 1, .array, false⟩
  | .oprQuantRmw => ⟨0x6070, 0x04, .u32, .ro, .uniform 4 1, .array, false⟩
  | .oprCopySectors => ⟨0x6070, 0x05, .u64, .ro, .uniform 8 1, .array, false⟩
  | .oprStreamDataErrs => ⟨0x6070, 0x06, .u32, .ro, .uniform 4 1, .array, false⟩
  | .oprCvtSat => ⟨0x6080, 0x01, .u64, .ro, .uniform 8 1, .array, false⟩
  | .oprCvtOvf => ⟨0x6080, 0x02, .u64, .ro, .uniform 8 1, .array, false⟩
  | .oprNanMade => ⟨0x6080, 0x03, .u64, .ro, .uniform 8 1, .array, false⟩
  | .oprNanBlocks => ⟨0x6080, 0x04, .u32, .ro, .uniform 4 1, .array, false⟩
  | .oprAccOvf => ⟨0x6080, 0x05, .u32, .ro, .uniform 4 1, .array, false⟩
  | .stkSectors => ⟨0x7000, 0x01, .u64, .rwLocked, .uniform 8 1, .aon, false⟩
  | .stkPartTable => ⟨0x7000, 0x02, .table, .rwSecure, .uniform 16 256, .aon, false⟩
  | .stkAccessTable => ⟨0x7000, 0x03, .table, .rwSecure, .uniform 16 1024, .aon, false⟩
  | .stkPartApply => ⟨0x7000, 0x04, .u8, .rwSecure, .uniform 1 1, .aon, false⟩
  | .stkPartResult => ⟨0x7000, 0x05, .bits, .ro, .uniform 4 1, .aon, false⟩
  | .stkPartDegraded => ⟨0x7000, 0x06, .table, .ro, .uniform 4 8, .sport, false⟩
  | .stkPartFenced => ⟨0x7000, 0x07, .table, .ro, .uniform 4 8, .aon, false⟩
  | .stkDenied => ⟨0x7000, 0x08, .u32, .ro, .uniform 4 1, .sport, false⟩
  | .stkTagMismatch => ⟨0x7000, 0x09, .u32, .ro, .uniform 4 1, .sport, false⟩
  | .stkSclkDiv => ⟨0x7100, 0x01, .u8, .rw, .uniform 1 1, .aon, false⟩
  | .stkSportLockEn => ⟨0x7100, 0x02, .u8, .rw, .uniform 1 1, .aon, false⟩
  | .stkSportState => ⟨0x7100, 0x03, .bits, .ro, .uniform 4 1, .sport, false⟩
  | .stkSportLatCmd => ⟨0x7100, 0x04, .u16, .ro, .uniform 2 1, .sport, false⟩
  | .stkSportLatRsp => ⟨0x7100, 0x05, .u16, .ro, .uniform 2 1, .sport, false⟩
  | .stkRspTimeout => ⟨0x7100, 0x06, .u16, .rw, .uniform 2 1, .aon, false⟩
  | .stkPcState => ⟨0x7100, 0x07, .bits, .ro, .uniform 4 1, .sport, false⟩
  | .stkSportRestart => ⟨0x7100, 0x08, .u8, .wo, .uniform 1 1, .aon, false⟩
  | .stkLateRsp => ⟨0x7100, 0x09, .u32, .ro, .uniform 4 1, .sport, false⟩
  | .stkKwkId => ⟨0x7200, 0x01, .u64, .ro, .uniform 8 1, .aon, false⟩
  | .stkKeyState => ⟨0x7200, 0x02, .table, .ro, .uniform 1 256, .aon, false⟩
  | .stkKcv => ⟨0x7200, 0x03, .table, .ro, .uniform 8 512, .aon, false⟩
  | .stkRekeyFrames => ⟨0x7200, 0x04, .u16, .rw, .uniform 2 1, .aon, false⟩
  | .stkKeyCmds => ⟨0x7200, 0x05, .u32, .ro, .uniform 4 1, .aon, false⟩
  | .stkKeyRefused => ⟨0x7200, 0x06, .u32, .ro, .uniform 4 1, .aon, false⟩
  | .stkScrubEn => ⟨0x7300, 0x01, .u8, .rw, .uniform 1 1, .aon, false⟩
  | .stkScrubFrames => ⟨0x7300, 0x02, .u16, .rw, .uniform 2 1, .aon, false⟩
  | .stkScrubPos => ⟨0x7300, 0x03, .u64, .ro, .uniform 8 1, .sport, false⟩
  | .stkScrubPasses => ⟨0x7300, 0x04, .u32, .ro, .uniform 4 1, .sport, false⟩
  | .stkOuterCorr => ⟨0x7300, 0x05, .u64, .ro, .uniform 8 1, .sport, false⟩
  | .stkInnerCorr => ⟨0x7300, 0x06, .u64, .ro, .uniform 8 1, .sport, false⟩
  | .stkUncorr => ⟨0x7300, 0x07, .u32, .ro, .uniform 4 1, .sport, false⟩
  | .stkTransient => ⟨0x7300, 0x08, .u32, .ro, .uniform 4 1, .sport, false⟩
  | .stkPoisonReads => ⟨0x7300, 0x09, .u32, .ro, .uniform 4 1, .sport, false⟩
  | .stkMetaFaults => ⟨0x7300, 0x0A, .u32, .ro, .uniform 4 1, .sport, false⟩
  | .stkDigest => ⟨0x7400, 0x01, .digest, .ro, .uniform 48 1, .aon, false⟩
  | .stkDigestGen => ⟨0x7400, 0x02, .u32, .ro, .uniform 4 1, .aon, false⟩
  | .stkDigestState => ⟨0x7400, 0x03, .bits, .ro, .uniform 4 1, .aon, false⟩
  | .stkDigestGenNow => ⟨0x7400, 0x04, .u32, .ro, .uniform 4 1, .aon, false⟩
  | .redEngState => ⟨0x8000, 0x01, .bits, .ro, .uniform 4 1, .aon, false⟩
  | .redTakeovers => ⟨0x8000, 0x02, .u32, .ro, .uniform 4 1, .aon, false⟩
  | .redLastYield => ⟨0x8000, 0x03, .u64, .ro, .uniform 8 1, .core, false⟩
  | .redResyncs => ⟨0x8000, 0x04, .u32, .ro, .uniform 4 1, .core, false⟩
  | .redFrameErrs => ⟨0x8000, 0x05, .u32, .ro, .uniform 4 1, .core, false⟩
  | .redYieldLimit => ⟨0x8000, 0x06, .u8, .rw, .uniform 1 1, .aon, false⟩
  | .redYieldWindow => ⟨0x8000, 0x07, .u16, .rw, .uniform 2 1, .aon, false⟩
  | .redYieldCount => ⟨0x8000, 0x08, .table, .ro, .uniform 1 2, .core, false⟩
  | .redHealth => ⟨0x8010, 0x01, .table, .ro, .uniform 16 2, .aon, false⟩
  | .redScreenPeriod => ⟨0x8010, 0x02, .u16, .rw, .uniform 2 1, .aon, false⟩
  | .redFence => ⟨0x8020, 0x01, .u8, .rwSecure, .uniform 1 1, .aon, false⟩
  | .redFenceCause => ⟨0x8020, 0x02, .u8, .ro, .uniform 1 1, .aon, false⟩
  | .redFenceAnswered => ⟨0x8020, 0x03, .u32, .ro, .uniform 4 1, .core, false⟩
  | .redFenceDrops => ⟨0x8020, 0x04, .u32, .ro, .uniform 4 1, .core, false⟩
  | .redSharedCorr => ⟨0x8030, 0x01, .u32, .ro, .uniform 4 1, .core, false⟩
  | .redSharedUncorr => ⟨0x8030, 0x02, .u32, .ro, .uniform 4 1, .core, false⟩
  | .redSpareRows => ⟨0x8030, 0x03, .table, .ro, .uniform 1 5, .core, false⟩
  | .calEn => ⟨0x8100, 0x01, .u8, .rw, .uniform 1 1, .aon, false⟩
  | .calPeriod => ⟨0x8100, 0x02, .u16, .rw, .uniform 2 1, .aon, false⟩
  | .calTemp => ⟨0x8100, 0x03, .table, .ro, .uniform 4 8, .seq, false⟩
  | .calTrimSets => ⟨0x8110, 0x01, .table, .rw, .uniform 16 1080, .aon, false⟩
  | .calTrimOffset => ⟨0x8110, 0x02, .table, .rw, .uniform 16 72, .aon, false⟩
  | .calTrimNow => ⟨0x8110, 0x03, .table, .ro, .uniform 16 72, .seq, false⟩
  | .calRejects => ⟨0x8110, 0x04, .u32, .ro, .uniform 4 1, .seq, false⟩
  | .calLastReject => ⟨0x8110, 0x05, .bits, .ro, .uniform 4 1, .seq, false⟩
  | .calDeskewPeriod => ⟨0x8120, 0x01, .u16, .rw, .uniform 2 1, .aon, false⟩
  | .calDeskew => ⟨0x8120, 0x02, .table, .ro, .uniform 2 72, .seq, false⟩
  | .calLinkRejects => ⟨0x8120, 0x03, .u32, .ro, .uniform 4 1, .seq, false⟩
  | .calSeqState => ⟨0x8130, 0x01, .bits, .ro, .uniform 4 1, .aon, false⟩
  | .calSeqRestarts => ⟨0x8130, 0x02, .u32, .ro, .uniform 4 1, .aon, false⟩
  | .ageEn => ⟨0x8200, 0x01, .u8, .rw, .uniform 1 1, .aon, false⟩
  | .agePlanInterval => ⟨0x8200, 0x02, .u16, .rw, .uniform 2 1, .aon, false⟩
  | .ageHorizon => ⟨0x8200, 0x03, .u16, .rw, .uniform 2 1, .aon, false⟩
  | .ageMinHeight => ⟨0x8200, 0x04, .u8, .rw, .uniform 1 1, .aon, false⟩
  | .ageMinWidth => ⟨0x8200, 0x05, .u8, .rw, .uniform 1 1, .aon, false⟩
  | .ageMinSamples => ⟨0x8200, 0x06, .u8, .rw, .uniform 1 1, .aon, false⟩
  | .ageSpareReserve => ⟨0x8200, 0x07, .u8, .rw, .uniform 1 1, .aon, false⟩
  | .ageStepEn => ⟨0x8200, 0x08, .u8, .rw, .uniform 1 1, .aon, false⟩
  | .ageStepGrace => ⟨0x8200, 0x09, .u16, .rw, .uniform 2 1, .aon, false⟩
  | .ageStepHold => ⟨0x8200, 0x0A, .u8, .rw, .uniform 1 1, .aon, false⟩
  | .ageStepState => ⟨0x8200, 0x0B, .bits, .ro, .uniform 4 1, .seq, false⟩
  | .ageEyeDwell => ⟨0x8210, 0x01, .u16, .rw, .uniform 2 1, .aon, false⟩
  | .ageEye => ⟨0x8210, 0x02, .table, .ro, .uniform 4 72, .seq, false⟩
  | .ageHistory => ⟨0x8210, 0x03, .table, .rw, .uniform 2 2304, .aon, false⟩
  | .ageForecast => ⟨0x8210, 0x04, .table, .ro, .uniform 4 72, .seq, false⟩
  | .ageMonitorState => ⟨0x8210, 0x05, .bits, .ro, .uniform 4 1, .seq, false⟩
  | .ageRo => ⟨0x8220, 0x01, .table, .ro, .uniform 4 32, .seq, false⟩
  | .ageRoLimit => ⟨0x8220, 0x02, .u16, .rw, .uniform 2 1, .aon, false⟩
  | .ageRetired => ⟨0x8220, 0x03, .u32, .ro, .uniform 4 1, .seq, false⟩
  | .ageRateSteps => ⟨0x8220, 0x04, .u32, .ro, .uniform 4 1, .seq, false⟩
  | .scrFieldEn => ⟨0x8300, 0x01, .u8, .rw, .uniform 1 1, .aon, false⟩
  | .scrFieldPeriod => ⟨0x8300, 0x02, .u16, .rw, .uniform 2 1, .aon, false⟩
  | .scrExtraLimit => ⟨0x8300, 0x03, .u16, .rw, .uniform 2 1, .aon, false⟩
  | .scrRun => ⟨0x8300, 0x04, .bits, .wo, .uniform 4 1, .aon, false⟩
  | .scrState => ⟨0x8300, 0x05, .bits, .ro, .uniform 4 1, .seq, false⟩
  | .scrResults => ⟨0x8310, 0x01, .table, .ro, .uniform 16 19, .aon, false⟩
  | .scrFailed => ⟨0x8310, 0x02, .bits, .ro, .uniform 4 1, .aon, false⟩
  | .scrAnalog => ⟨0x8310, 0x03, .table, .ro, .uniform 4 14, .seq, false⟩
  | .scrScratchBad => ⟨0x8310, 0x04, .table, .ro, .uniform 4 4, .seq, false⟩
  | .scrSkips => ⟨0x8310, 0x05, .u32, .ro, .uniform 4 1, .seq, false⟩
  | .scrZeroise => ⟨0x8320, 0x01, .u8, .rwSecure, .uniform 1 1, .aon, false⟩
  | .scrZeroRecord => ⟨0x8320, 0x02, .table, .ro, .uniform 8 2, .aon, false⟩
  | .mgtSeal => ⟨0x9000, 0x01, .u8, .rwSecure, .uniform 1 1, .aon, false⟩
  | .mgtDefaultsUsed => ⟨0x9000, 0x02, .u8, .ro, .uniform 1 1, .aon, false⟩
  | .mgtRingState => ⟨0x9000, 0x03, .bits, .ro, .uniform 4 1, .aon, false⟩
  | .mgtRingTimeout => ⟨0x9000, 0x04, .u16, .rw, .uniform 2 1, .aon, false⟩
  | .mgtRingDrops => ⟨0x9000, 0x05, .u32, .ro, .uniform 4 1, .aon, false⟩
  | .mgtImage => ⟨0x9010, 0x01, .table, .rwSecure, .uniform 1 65536, .aon, false⟩
  | .mgtScriptLoad => ⟨0x9010, 0x02, .u8, .rwSecure, .uniform 1 1, .aon, false⟩
  | .mgtSceneLoad => ⟨0x9010, 0x03, .u8, .rwSecure, .uniform 1 1, .aon, false⟩
  | .mgtLoadResult => ⟨0x9010, 0x04, .bits, .ro, .uniform 4 1, .aon, false⟩
  | .mgtSceneCommit => ⟨0x9010, 0x05, .u8, .rwSecure, .uniform 1 1, .aon, false⟩
  | .mgtSceneActive => ⟨0x9010, 0x06, .u8, .ro, .uniform 1 1, .aon, false⟩
  | .mgtCommitResult => ⟨0x9010, 0x07, .bits, .ro, .uniform 4 1, .aon, false⟩
  | .mgtSceneStored => ⟨0x9010, 0x08, .bits, .ro, .uniform 4 1, .aon, false⟩
  | .mgtScriptId => ⟨0x9010, 0x09, .u32, .ro, .uniform 4 1, .aon, false⟩
  | .mgtCommits => ⟨0x9010, 0x0A, .u32, .ro, .uniform 4 1, .aon, false⟩
  | .mgtCommitRefusals => ⟨0x9010, 0x0B, .u32, .ro, .uniform 4 1, .aon, false⟩
  | .mgtLockState => ⟨0x9020, 0x01, .table, .ro, .uniform 4 32, .aon, false⟩
  | .mgtLockForce => ⟨0x9020, 0x02, .bits, .rwSecure, .uniform 4 1, .aon, false⟩
  | .mgtEvtEn => ⟨0x9040, 0x01, .u8, .rw, .uniform 1 1, .aon, false⟩
  | .mgtEvtFa => ⟨0x9040, 0x02, .u16, .rw, .uniform 2 1, .aon, false⟩
  | .mgtEvtBase => ⟨0x9040, 0x03, .u64, .rw, .uniform 8 1, .aon, false⟩
  | .mgtEvtSize => ⟨0x9040, 0x04, .u32, .rw, .uniform 4 1, .aon, false⟩
  | .mgtEvtPstate => ⟨0x9040, 0x05, .u64, .rw, .uniform 8 1, .aon, false⟩
  | .mgtEvtTc => ⟨0x9040, 0x06, .u8, .rw, .uniform 1 1, .aon, false⟩
  | .mgtEvtPart => ⟨0x9040, 0x07, .u8, .rw, .uniform 1 1, .aon, false⟩
  | .mgtEvtPidx => ⟨0x9040, 0x08, .u32, .ro, .uniform 4 1, .aon, false⟩
  | .mgtEvtCidx => ⟨0x9040, 0x09, .u32, .rw, .uniform 4 1, .aon, false⟩
  | .mgtEvtDropped => ⟨0x9040, 0x0A, .u32, .ro, .uniform 4 1, .aon, false⟩
  | .mgtEvtWriteErrs => ⟨0x9040, 0x0B, .u32, .ro, .uniform 4 1, .aon, false⟩
  | .mgtEvtPath => ⟨0x9050, 0x01, .table, .rw, .uniform 1 13, .aon, false⟩
  | .mgtEvtFbFa => ⟨0x9050, 0x02, .u16, .rw, .uniform 2 1, .aon, false⟩
  | .mgtEvtFbBase => ⟨0x9050, 0x03, .u64, .rw, .uniform 8 1, .aon, false⟩
  | .mgtEvtMode => ⟨0x9050, 0x04, .bits, .ro, .uniform 4 1, .aon, false⟩
  | .mgtFaultRecord => ⟨0x9060, 0x01, .table, .ro, .uniform 16 16, .aon, false⟩
  | .mgtFaultCount => ⟨0x9060, 0x02, .u32, .ro, .uniform 4 1, .aon, false⟩
  | .pwrClkState => ⟨0x9100, 0x01, .bits, .ro, .uniform 4 1, .aon, false⟩
  | .pwrClkCount => ⟨0x9100, 0x02, .table, .ro, .uniform 4 6, .aon, false⟩
  | .pwrClkRestart => ⟨0x9100, 0x03, .bits, .wo, .uniform 4 1, .aon, false⟩
  | .pwrDomainState => ⟨0x9200, 0x01, .bits, .ro, .uniform 4 1, .aon, false⟩
  | .pwrDomainCtrl => ⟨0x9200, 0x02, .bits, .rwSecure, .uniform 4 1, .aon, false⟩
  | .pwrCycle => ⟨0x9200, 0x03, .bits, .wo, .uniform 4 1, .aon, false⟩
  | .pwrReset => ⟨0x9200, 0x04, .u8, .rwSecure, .uniform 1 1, .aon, false⟩
  | .pwrBringupState => ⟨0x9200, 0x05, .bits, .ro, .uniform 4 1, .aon, false⟩
  | .pwrBringupTime => ⟨0x9200, 0x06, .table, .ro, .uniform 8 10, .aon, false⟩
  | .pwrAutoTrain => ⟨0x9200, 0x07, .u8, .rw, .uniform 1 1, .aon, false⟩
  | .pwrResetCount => ⟨0x9200, 0x08, .u32, .ro, .uniform 4 1, .aon, false⟩
  | .pwrFwImage => ⟨0x9300, 0x01, .table, .rwSecure, .uniform 1 65536, .aon, false⟩
  | .pwrFwLoad => ⟨0x9300, 0x02, .u8, .rwSecure, .uniform 1 1, .aon, false⟩
  | .pwrFwResult => ⟨0x9300, 0x03, .bits, .ro, .uniform 4 1, .aon, false⟩

/-- Part 1 of the list of objects. -/
def Obj.all1 : List Obj :=
  [.mgtIdCount, .mgtFamily, .mgtSide, .mgtSerial, .mgtStepping, .mgtLanes, .mgtCells, .mgtScratchKib, .mgtSubq, .phyRateMax, .phyRate, .phyWidthMax, .phyWidthMin, .phyTxWidth, .phyRxWidth, .phyTrnStart, .phyTrnState, .phyTrnFails, .phyCheckErrs, .phyTxMap, .phyRxMap, .phyRxConnect, .phyTxFailed, .phyRxFailed, .phyMapGen, .phyLaneFailErrs, .phyRepairEn, .phyRxRetire, .phySpliceTimeout, .phySpliceCount, .phySpliceFails, .phyCommitMissed, .phySbErrs, .phyGroupOff, .phyFarConnect, .phyLatTarget, .phyLatState, .phyLatRt, .phyLatPad, .phyLatCheckInt]

/-- Part 2 of the list of objects. -/
def Obj.all2 : List Obj :=
  [.phyLcc, .lnkState, .lnkDownCause, .lnkForceDown, .lnkDownCount, .lnkTxSeq, .lnkTxAcked, .lnkRxExpect, .lnkAckTimeout, .lnkNakRepeat, .lnkAckStallLimit, .lnkNakReplays, .lnkTimeoutReplays, .lnkReplayFlits, .lnkAckErrs, .lnkProtoErrs, .lnkSpillEn, .lnkSpillBase, .lnkSpillFa, .lnkSpillPart, .lnkSpillTc, .lnkSpillState, .lnkRetakeFill, .lnkSpillFill, .lnkSpillWrites, .lnkRetakeEcc, .lnkXoffHeadroom, .lnkVcRegion, .lnkXoffState, .lnkVcFree, .lnkVcOverflow, .lnkWarn, .lnkDown, .lnkErrWindow, .lnkCrcErrs, .lnkFecCorr, .lnkFecUncorr, .lnkDiagState, .lnkIdleLimit, .lnkRecordsUsed]

/-- Part 3 of the list of objects. -/
def Obj.all3 : List Obj :=
  [.lnkRecordsWaits, .lnkSynthCpl, .lnkDownDrops, .pktFa, .pktOwnEp, .pktReqTimeout, .pktSlate, .pktFarSlate, .pktRouteActive, .pktRouteA, .pktRouteB, .pktDrainA, .pktDrainB, .pktOrdOpen, .pktAdaptBias, .pktDrainRelayHold, .pktRouteFlips, .pktMsgOpen, .pktHoldUsed, .pktHoldCount, .pktMalformed, .pktHopDrops, .pktLateCpl, .pktTimeouts, .pktNoroute, .pktSportFclkDiv, .pktSportLockEn, .pktSportState, .pktSportLatIn, .pktSportLatOut, .pktSportRestart, .pktRelayLockEn, .pktRelayState, .pktSportDrops, .pktSportErrs, .pktRelayErrs, .tclBucketRate, .tclBucketBurst, .tclBucketLevel, .tclGateVc1]

/-- Part 4 of the list of objects. -/
def Obj.all4 : List Obj :=
  [.tclGateVc2, .tclGateState, .tclGateStart, .tclGateSlips, .tclFlowTable, .tclFlowState, .tclFlowBound, .tclAdmitResult, .tclPoliceRefused, .tclStackAccess, .tclRelayTransit, .tclRecheckRate, .tclRecheckResult, .tclRegisterUsed, .tclDlLate, .tclSampleLog, .tclQueueSamples, .tclPortLink, .tclPortRelay, .tclPortStream, .arrClusterEn, .arrClusterState, .arrCellState, .arrCellFails, .arrIdleGate, .arrTileLimit, .arrScratchRed, .arrScratchStage, .arrAccCapacity, .arrStageFree, .arrQueueCfg, .arrQueueFill, .arrQueueWcet, .arrCheckResult, .arrSubmitRefused, .arrStackShare, .arrDlStackSlots, .arrRemoteAccess, .arrRemoteRate, .arrOwnTags]

/-- Part 5 of the list of objects. -/
def Obj.all5 : List Obj :=
  [.oprUcodeVer, .oprDescDone, .oprPassSplits, .oprTileReruns, .oprAttnRows, .oprAttnDataErrs, .oprAttnEmpty, .oprTopkNan, .redOpen, .redAccFree, .redTable, .redRefused, .redWrBlocked, .redFlushes, .redPoisoned, .oprGemvBytes, .oprGatherRows, .oprGatherEmpty, .oprQuantRmw, .oprCopySectors, .oprStreamDataErrs, .oprCvtSat, .oprCvtOvf, .oprNanMade, .oprNanBlocks, .oprAccOvf, .stkSectors, .stkPartTable, .stkAccessTable, .stkPartApply, .stkPartResult, .stkPartDegraded, .stkPartFenced, .stkDenied, .stkTagMismatch, .stkSclkDiv, .stkSportLockEn, .stkSportState, .stkSportLatCmd, .stkSportLatRsp]

/-- Part 6 of the list of objects. -/
def Obj.all6 : List Obj :=
  [.stkRspTimeout, .stkPcState, .stkSportRestart, .stkLateRsp, .stkKwkId, .stkKeyState, .stkKcv, .stkRekeyFrames, .stkKeyCmds, .stkKeyRefused, .stkScrubEn, .stkScrubFrames, .stkScrubPos, .stkScrubPasses, .stkOuterCorr, .stkInnerCorr, .stkUncorr, .stkTransient, .stkPoisonReads, .stkMetaFaults, .stkDigest, .stkDigestGen, .stkDigestState, .stkDigestGenNow, .redEngState, .redTakeovers, .redLastYield, .redResyncs, .redFrameErrs, .redYieldLimit, .redYieldWindow, .redYieldCount, .redHealth, .redScreenPeriod, .redFence, .redFenceCause, .redFenceAnswered, .redFenceDrops, .redSharedCorr, .redSharedUncorr]

/-- Part 7 of the list of objects. -/
def Obj.all7 : List Obj :=
  [.redSpareRows, .calEn, .calPeriod, .calTemp, .calTrimSets, .calTrimOffset, .calTrimNow, .calRejects, .calLastReject, .calDeskewPeriod, .calDeskew, .calLinkRejects, .calSeqState, .calSeqRestarts, .ageEn, .agePlanInterval, .ageHorizon, .ageMinHeight, .ageMinWidth, .ageMinSamples, .ageSpareReserve, .ageStepEn, .ageStepGrace, .ageStepHold, .ageStepState, .ageEyeDwell, .ageEye, .ageHistory, .ageForecast, .ageMonitorState, .ageRo, .ageRoLimit, .ageRetired, .ageRateSteps, .scrFieldEn, .scrFieldPeriod, .scrExtraLimit, .scrRun, .scrState, .scrResults]

/-- Part 8 of the list of objects. -/
def Obj.all8 : List Obj :=
  [.scrFailed, .scrAnalog, .scrScratchBad, .scrSkips, .scrZeroise, .scrZeroRecord, .mgtSeal, .mgtDefaultsUsed, .mgtRingState, .mgtRingTimeout, .mgtRingDrops, .mgtImage, .mgtScriptLoad, .mgtSceneLoad, .mgtLoadResult, .mgtSceneCommit, .mgtSceneActive, .mgtCommitResult, .mgtSceneStored, .mgtScriptId, .mgtCommits, .mgtCommitRefusals, .mgtLockState, .mgtLockForce, .mgtEvtEn, .mgtEvtFa, .mgtEvtBase, .mgtEvtSize, .mgtEvtPstate, .mgtEvtTc, .mgtEvtPart, .mgtEvtPidx, .mgtEvtCidx, .mgtEvtDropped, .mgtEvtWriteErrs, .mgtEvtPath, .mgtEvtFbFa, .mgtEvtFbBase, .mgtEvtMode, .mgtFaultRecord]

/-- Part 9 of the list of objects. -/
def Obj.all9 : List Obj :=
  [.mgtFaultCount, .pwrClkState, .pwrClkCount, .pwrClkRestart, .pwrDomainState, .pwrDomainCtrl, .pwrCycle, .pwrReset, .pwrBringupState, .pwrBringupTime, .pwrAutoTrain, .pwrResetCount, .pwrFwImage, .pwrFwLoad, .pwrFwResult]

/-- All objects, by index and sub-index. -/
def Obj.all : List Obj := all1 ++ all2 ++ all3 ++ all4 ++ all5 ++ all6 ++ all7 ++ all8 ++ all9

/-- The place of an object in the tables. -/
def Obj.num (o : Obj) : Nat := o.ctorIdx

/-- The key of entry e of an object in the dictionary store. -/
def Obj.key (o : Obj) (e : Nat) : Nat := e * 1024 + o.num

/-- Bytes of entry e. -/
def Layout.size : Layout → Nat → Nat
  | .uniform b _, _ => b
  | .mixed l, e => l.getD e 1

/-- Number of entries. -/
def Layout.count : Layout → Nat
  | .uniform _ n => n
  | .mixed l => l.length

/-- Offsets of the entries of a mixed table: the lowest multiple of the entry's size at or after the previous end (R384). -/
def mixedOffsets : Nat → List Nat → List Nat
  | _, [] => []
  | at', sz :: rest =>
    let o := ceilDiv at' sz * sz
    o :: mixedOffsets (o + sz) rest

/-- Byte offset of entry e. -/
def Layout.offset : Layout → Nat → Nat
  | .uniform b _, e => b * e
  | .mixed l, e => (mixedOffsets 0 l).getD e 0

/-- Object size in bytes (R384, R387). -/
def Layout.bytes : Layout → Nat
  | .uniform b n => b * n
  | .mixed l => ((mixedOffsets 0 l).getLast?.getD 0) + (l.getLast?.getD 0)

/-- The entry that holds byte off. -/
def Layout.entryAt (l : Layout) (off : Nat) : Nat :=
  match l with
  | .uniform b _ => off / b
  | .mixed sz => ((mixedOffsets 0 sz).filter (· ≤ off)).length - 1

/-- The object at an index and sub-index, if there is one (R383). Sub-index 0 is R385's and no constructor's. -/
def objAt (index sub : Nat) : Option Obj :=
  Obj.all.find? fun o => o.row.index == index && o.row.sub == sub

/-- The highest sub-index present at an index, none when the index holds no object (R385). -/
def highestSub (index : Nat) : Option Nat :=
  let l := Obj.all.filter fun o => o.row.index == index
  if l.isEmpty then none else some (l.foldl (fun m o => max m o.row.sub) 0)

/-- lo ≤ v ≤ hi. -/
def inRange (lo hi v : Nat) : Bool := lo ≤ v && v ≤ hi

/-- The stated valid values of an object, entry by entry (R389). An object for which no table states a range accepts every
value. Values that other objects constrain (R85, R86, R152, R140, R411) are checked where the write is made. -/
def Obj.valid (o : Obj) (e v : Nat) : Bool :=
  match o with
  | .phyRateMax => v ≤ 2
  | .phyWidthMax => v = 64 || v = 48 || v = 32 || v = 16
  | .phyWidthMin => v = 64 || v = 48 || v = 32 || v = 16
  | .phyTrnStart => v = 1 || v = 2
  | .phyRxRetire => v ≤ 71
  | .phySpliceTimeout => inRange 1024 65535 v
  | .phyLatTarget => inRange 8 54 v
  | .phyLatCheckInt => v = 0 || inRange 16 32 v
  | .lnkForceDown => v = 1
  | .lnkAckTimeout => inRange 256 16384 v
  | .lnkAckStallLimit => inRange 8192 (2 ^ 24) v
  | .lnkIdleLimit => inRange 8192 (2 ^ 24) v
  | .lnkSpillTc => v ≤ 7
  | .pktReqTimeout => inRange 8192 (2 ^ 24) v
  | .pktRouteActive => v ≤ 1
  | .pktSportRestart => v = 1
  | .stkSportRestart => v = 1
  | .tclRecheckRate => v ≤ 2
  | .tclSampleLog => inRange 4 20 v
  | .arrStackShare => v ≤ 16
  | .stkSclkDiv => inRange 64 100 v
  | .stkRspTimeout => inRange 256 65535 v
  | .stkPartApply => v = 1
  | .stkRekeyFrames => inRange 2 65535 v
  | .stkScrubFrames => inRange 2 65535 v
  | .redYieldLimit => inRange 1 15 v
  | .redYieldWindow => inRange 1 8760 v
  | .redScreenPeriod => inRange 10 3600 v
  | .redFence => v ≤ 1
  | .calPeriod => inRange 1 3600 v
  | .calDeskewPeriod => inRange 10 60000 v
  | .agePlanInterval => inRange 1 720 v
  | .ageHorizon => inRange 1 365 v
  | .ageMinSamples => inRange 3 32 v
  | .ageSpareReserve => v ≤ 8
  | .ageEyeDwell => inRange 50 10000 v
  | .scrFieldPeriod => inRange 60 65535 v
  | .scrExtraLimit => inRange 640 1000 v
  | .scrZeroise => v = 1
  | .mgtRingTimeout => inRange 10 65535 v
  | .mgtSeal => v ≤ 1
  | .mgtScriptLoad => v = 1
  | .mgtSceneLoad => v ≤ 7
  | .mgtEvtSize => v = 64 || v = 128 || v = 256 || v = 512 || v = 1024 || v = 2048 || v = 4096 || v = 8192 ||
      v = 16384 || v = 32768 || v = 65536
  | .mgtEvtTc => inRange 3 7 v
  | .pwrReset => v = 1
  | .pwrFwLoad => v = 1 || v = 2
  | .calTrimSets => trimCodesOk v
  | .tclGateVc1 => e != 2 || v ≤ 16
  | .tclGateVc2 => e != 2 || v ≤ 16
  | _ => true
where
  /-- Every trim byte of a set entry lies in its code range (R345, R346). -/
  trimCodesOk (v : Nat) : Bool :=
    (List.range 13).all fun k =>
      let c := toSigned 8 (field v (8 * k + 7) (8 * k))
      let lo := [0, -63, -31, -31, -15, 32, -31, -15, 0, -31, -31, -31, -16].getD k 0
      let hi := [30, 63, 31, 31, 0, 63, 0, 15, 31, 31, 31, 31, 15].getD k 0
      decide ((lo : Int) ≤ c ∧ c ≤ hi)

/-- As many ones as the widest entry has bits. -/
def fullMask : Nat := 0xFFFFFFFFFFFFFFFFFFFFFFFFFFFFFFFFFFFFFFFFFFFFFFFFFFFFFFFFFFFFFFFFFFFFFFFFFFFFFFFFFFFFFFFFFFFFFFFF

/-- Bits of an object that its table defines, over all entries alike; the others are reserved: ignored on a write and zero on
a read (R7). -/
def Obj.mask (o : Obj) : Nat :=
  match o with
  | .pktFa => 0xFFF
  | .pktOwnEp => 0xFFFFF
  | .lnkSpillBase => 0xFFFFFFFFC0
  | .lnkSpillFa => 0xFFF
  | .phyGroupOff => 0xFF
  | .arrClusterEn => 0xFF
  | .arrScratchRed => 0xFFFF
  | .arrScratchStage => 0xFFFF
  | .stkSectors => 2 ^ 40 - 1
  | .stkPartTable => 2 ^ 81 - 1
  | .stkAccessTable => 2 ^ 20 - 1 + (2 ^ 20 - 1) * 2 ^ 20 + 255 * 2 ^ 40 + 511 * 2 ^ 64 + 2 ^ 80
  | .arrQueueCfg => 7 + 255 * 2 ^ 32 + (2 ^ 27 - 1) * 2 ^ 48 + (2 ^ 40 - 1) * 2 ^ 88
  | .tclFlowTable => (2 ^ 40 - 1) + (2 ^ 22 - 1) * 2 ^ 52 + (2 ^ 88 - 1) * 2 ^ 80
  | .calTrimSets => 2 ^ 104 - 1
  | .calTrimOffset => 2 ^ 104 - 1
  | .mgtEvtFa => 0xFFF
  | .mgtEvtBase => 2 ^ 40 - 1
  | .mgtEvtPstate => 2 ^ 40 - 1
  | .mgtEvtFbFa => 0xFFF
  | .mgtEvtFbBase => 2 ^ 40 - 1
  | .pwrDomainCtrl => 0xFFFFF
  | .pwrCycle => 0xFFFFF
  | .scrRun => 0xFFFF
  | .pwrClkRestart => 3
  | _ => fullMask

/-- Bits that entry e of an object holds: its width, and R7 for its reserved bits. -/
def Obj.fit (o : Obj) (e v : Nat) : Nat := (v % 2 ^ (8 * o.row.layout.size e)) &&& o.mask

theorem Obj.fit_fit (o : Obj) (e v : Nat) : o.fit e (o.fit e v) = o.fit e v := by
  unfold Obj.fit
  have h : v % 2 ^ (8 * o.row.layout.size e) &&& o.mask < 2 ^ (8 * o.row.layout.size e) :=
    Nat.lt_of_le_of_lt Nat.and_le_left (Nat.mod_lt _ (Nat.two_pow_pos _))
  rw [Nat.mod_eq_of_lt h, Nat.and_assoc, Nat.and_self]

/-- The defaults of the object tables: the reset value of entry e (R4, and the table of each chapter). An object whose
row gives no default reads 0 (assumption 7); fused and factory values are Config's (assumption 5). -/
def Obj.defaultRow : Obj → Nat → Nat
  | .mgtIdCount, _ => 8
  | .mgtFamily, _ => 3
  | .mgtLanes, _ => 0x480040
  | .mgtCells, _ => 0x80880080
  | .mgtScratchKib, _ => 0x2000
  | .mgtSubq, _ => 64
  | .phyRate, _ => 255
  | .phyWidthMax, _ => 64
  | .phyWidthMin, _ => 16
  | .phyCheckErrs, _ => 16
  | .phyTxMap, _ => 255
  | .phyRxMap, _ => 255
  | .phyRxConnect, _ => 255
  | .phyLaneFailErrs, _ => 32
  | .phyRepairEn, _ => 1
  | .phySpliceTimeout, _ => 3125
  | .phyFarConnect, _ => 255
  | .phyLatTarget, _ => 16
  | .phyLatCheckInt, _ => 24
  | .lnkAckTimeout, _ => 1024
  | .lnkNakRepeat, _ => 96
  | .lnkAckStallLimit, _ => 0x10000
  | .lnkSpillEn, _ => 1
  | .lnkSpillTc, _ => 5
  | .lnkXoffHeadroom, _ => 192
  | .lnkVcRegion, _ => 512
  | .lnkWarn, _ => 64
  | .lnkDown, _ => 4096
  | .lnkIdleLimit, _ => 0x10000
  | .pktFa, _ => 4095
  | .pktReqTimeout, _ => 0x2625a
  | .pktAdaptBias, _ => 36
  | .pktDrainRelayHold, _ => 64
  | .pktSportFclkDiv, _ => 160
  | .tclStackAccess, _ => 0x1adb0
  | .tclRelayTransit, _ => 32
  | .tclSampleLog, _ => 10
  | .arrClusterEn, _ => 255
  | .arrIdleGate, _ => 100
  | .arrTileLimit, _ => 4096
  | .arrScratchRed, _ => 80
  | .arrScratchStage, _ => 0x5030
  | .arrAccCapacity, _ => 0x20000
  | .arrStackShare, _ => 8
  | .arrDlStackSlots, _ => 8
  | .arrRemoteAccess, _ => 0x1e8480
  | .arrRemoteRate, _ => 100
  | .redAccFree, _ => 0x20000
  | .stkSclkDiv, _ => 100
  | .stkRspTimeout, _ => 2500
  | .stkRekeyFrames, _ => 4
  | .stkScrubEn, _ => 1
  | .stkScrubFrames, _ => 256
  | .redYieldLimit, _ => 3
  | .redYieldWindow, _ => 24
  | .redScreenPeriod, _ => 60
  | .redHealth, _ => 0xFF0200
  | .scrResults, _ => 0x200000000
  | .calEn, _ => 1
  | .calPeriod, _ => 60
  | .calDeskewPeriod, _ => 1000
  | .ageEn, _ => 1
  | .agePlanInterval, _ => 24
  | .ageHorizon, _ => 90
  | .ageMinHeight, _ => 48
  | .ageMinWidth, _ => 12
  | .ageMinSamples, _ => 7
  | .ageSpareReserve, _ => 2
  | .ageStepEn, _ => 1
  | .ageStepGrace, _ => 600
  | .ageEyeDwell, _ => 100
  | .ageHistory, _ => 0xffff
  | .ageRoLimit, _ => 500
  | .scrFieldEn, _ => 1
  | .scrFieldPeriod, _ => 3600
  | .scrExtraLimit, _ => 1000
  | .mgtRingTimeout, _ => 1000
  | .mgtEvtFa, _ => 4095
  | .mgtEvtSize, _ => 1024
  | .mgtEvtTc, _ => 5
  | .mgtEvtFbFa, _ => 4095
  | .pwrDomainCtrl, _ => 0xfffff
  | .pwrAutoTrain, _ => 1
  | .tclBucketRate, e => ([16, 256, 1024, 1024] : List Nat).getD e 0
  | .tclBucketBurst, e => ([72, 576, 4096, 4096] : List Nat).getD e 0
  | .mgtSerial, _ => Config.serial % 2 ^ 64
  | .mgtStepping, _ => Config.stepping % 2 ^ 16
  | .calTrimSets, e => Config.factoryTrims e % 2 ^ 104
  | _, _ => 0

/-- The default of entry e of an object, in its width. -/
def Obj.default (o : Obj) (e : Nat) : Nat := o.fit e (o.defaultRow e)

end Sys2Proof.Machine
end

