-- ==== Sys2Proof/Machine/State.lean ====
section
/-! DEFINITION. The state of the block as plain data: the queue of waiting commands, the AON domain's own counts, the object
dictionary, and beside the dictionary every piece of state that the rules of spec/ give the block. INVENTORY.md lists each
with the rule that names it and its reset value. -/

namespace Sys2Proof.Machine

/-! ### The dictionary store -/

/-- One listed value of the dictionary: entry e of an object. -/
structure ObjCell where
  obj : Obj
  entry : Nat
  val : Nat
  deriving DecidableEq, Repr

/-- The key by which cells are sorted. -/
def ObjCell.key (c : ObjCell) : Nat := c.obj.key c.entry

/-- Canonical form: keys strictly rising, no cell that holds the object's default, which is what an unlisted entry reads as, and every
value in its entry's width without reserved bits. -/
def CellsCanon (l : List ObjCell) : Prop :=
  l.Pairwise (fun a b => a.key < b.key) ∧ ∀ c ∈ l, c.val ≠ c.obj.default c.entry ∧ c.val = c.obj.fit c.entry c.val

/-- The dictionary store: the cells, and that they are in canonical form. -/
structure Dict where
  cells : List ObjCell
  canon : CellsCanon cells
  deriving DecidableEq, Repr

/-- A dictionary in which every object reads its default. -/
def Dict.empty : Dict := ⟨[], List.Pairwise.nil, by simp⟩

/-! ### Packets -/

/-- The packet header (05, R128). -/
structure Hdr where
  hops : Nat
  aux : Nat
  status : Nat
  addr : Nat
  msgCount : Nat
  msgId : Nat
  part : Nat
  tag : Nat
  ep : Nat
  src : Nat
  dst : Nat
  synth : Bool
  ou : Bool
  len : Nat
  epoch : Nat
  ord : Bool
  last : Bool
  tc : Nat
  type : Nat
  deriving DecidableEq, Repr

/-- A packet: header, payload bytes, and the byte ranges [lo, hi) of the payload that are poisoned (02, R34; 04, R88). -/
structure Packet where
  hdr : Hdr
  payload : List Byte
  poison : List (Nat × Nat)
  deriving DecidableEq, Repr

/-- A packet at an ingress: the VC on which it arrived and the beats or flits of buffer that it takes (R31, R115). -/
structure InPkt where
  pkt : Packet
  vc : Nat
  space : Nat
  deriving DecidableEq, Repr

/-- A packet queued at an egress: its number in this instance and the LCLK in which it was queued (R176). -/
structure QPkt where
  id : Nat
  pkt : Packet
  stamp : Nat
  port : Nat           -- destination sibling of a Relay Port packet (R141)
  deriving DecidableEq, Repr

/-- The phases of a port's latency lock (02, R27 to R29). -/
inductive LockPhase where
  | off | draining | measured | failed | locked | lost | leaving
  deriving DecidableEq, Repr

/-- Lock entry pauses credits and starts on a port (02, R27). -/
def LockPhase.pauses : LockPhase → Bool
  | .draining => true
  | .measured => true
  | .failed => true
  | _ => false

/-- The Stream Port (02, R30 to R35). -/
structure StreamPort where
  up : Bool
  lock : LockPhase
  ingCredits : List Nat          -- beats of each VC that the fabric may send (R31)
  ingOwed : List Nat             -- credits of each VC that Zalry withholds (R27, R140)
  ingress : List InPkt           -- the Stream ingress buffer, oldest first
  egCredits : List Nat           -- egress credits of each VC (R31)
  egress : List QPkt             -- packets queued for egress
  sending : List (Option QPkt)   -- the packet that each sub-port sends
  rrOps : Nat                    -- round robin over VC3, VC4 (R158)
  rrBulk : Nat                   -- round robin over VC5 to VC7
  clkFence : Bool                -- down by loss of FCLK until a restart (R21)
  deriving DecidableEq, Repr

/-- The Relay Port (02, R42 to R45). -/
structure RelayPort where
  lock : LockPhase
  siblings : Nat                 -- RL_I_UP (R42)
  credits : List Nat             -- flit credits of each VC
  ingress : List InPkt
  egress : List QPkt
  holds : List (Nat × Nat)       -- epoch and LCLK of packets whose last flit has left (R151)
  rrOps : Nat
  rrBulk : Nat
  deriving DecidableEq, Repr

/-! ### The link -/

/-- A sequenced flit that is not acknowledged: its number, the number of the packet it belongs to (none for SPLICE), and that
packet's header and DESC_ID (04, R108, R122). -/
structure Unacked where
  seq : Nat
  id : Option Nat
  hdr : Option Hdr
  desc : Nat
  deriving DecidableEq, Repr

/-- A retake buffer entry: flit header and payload (04, R108). -/
structure Retake where
  seq : Nat
  head : Nat
  payload : List Byte
  deriving DecidableEq, Repr

/-- Where the retake spill region lies: sector address, FA, partition and class (04, R111, R127). -/
structure SpillPlace where
  base : Nat
  fa : Nat
  part : Nat
  tc : Nat
  deriving DecidableEq, Repr

/-- The transmitter (04, R98 to R114). N, A are the objects LNK_TX_SEQ and LNK_TX_ACKED. -/
structure LinkTx where
  queue : List QPkt                    -- transmit queues of the eight VCs, in order of arrival
  unacked : List Unacked               -- oldest first
  retake : List Retake                 -- on-chip entries
  spilled : List Nat                   -- blocks whose spill write completed with OK (R109)
  writing : List Nat                   -- blocks whose spill write is in flight
  reading : List Nat                   -- blocks whose record is being read back (R112)
  readBack : List Retake               -- flits of records that have returned
  replay : Option Nat                  -- the next flit of a replay (R104)
  replayBase : Nat                     -- the flit from which the last replay started (R103)
  place : SpillPlace                   -- in force since the last training (R127)
  spillKey : Option Nat                -- drawn at each training (R110)
  draws : Nat                          -- drawings from the random source so far (model's own)
  xoffSeen : Nat                       -- XOFF bits last delivered (R116), LNK_XOFF_STATE [7:0]
  farEmpty : Bool                      -- EMPTY last delivered (R60)
  rrOps : Nat
  rrBulk : Nat
  deriving DecidableEq, Repr

/-- A packet that is being received flit by flit: its header once it is known, payload so far, poisoned ranges, flits, and
whether it has met a full region (R117). -/
structure Partial where
  vc : Nat
  hdr : Hdr
  payload : List Byte
  poison : List (Nat × Nat)
  flits : Nat
  overflow : Bool
  deriving DecidableEq, Repr

/-- Lane-isolation diagnosis (04, R119): flit slots left and the score of each physical receive lane. -/
structure Diagnosis where
  slotsLeft : Nat
  scores : List Nat
  deriving DecidableEq, Repr

/-- The receiver (04, R96 to R107, R115 to R119). E is the object LNK_RX_EXPECT. -/
structure LinkRx where
  discard : Bool                       -- the discard state of R102
  nakNow : Bool                        -- NAK goes in every flit of the next LCLK
  queue : List InPkt                   -- the VC receive pool: whole packets, oldest first
  part : Option Partial                -- the packet whose EOP flit has not arrived
  regions : List Nat                   -- LNK_VC_REGION in force (R127)
  headroom : Nat                       -- LNK_XOFF_HEADROOM in force
  nakRepeat : Nat                      -- LNK_NAK_REPEAT in force
  window : List Nat                    -- the 64 sub-windows of R118, newest first
  slots : Nat                          -- flit slots counted in the newest sub-window
  diag : Option Diagnosis
  fecHits : List (Nat × Nat)           -- lane and LCLK of attributed corrected bytes (R66, R94)
  log : List RxFlit                    -- the receive log of a takeover gap (12, R331)
  deriving DecidableEq, Repr

/-- A crossing record (04, R123): the header of the request message, its DESC_ID, and the packets of its response accepted. -/
structure Crossing where
  hdr : Hdr
  desc : Nat
  got : Nat
  deriving DecidableEq, Repr

/-! ### Lanes, training, latency lock -/

/-- A map that a transmitter has sent in a PREPARE, or that a receiver holds as pending (03, R70). -/
structure SplicePlan where
  gen : Nat
  width : Nat
  map : List Nat
  ready : Bool
  deriving DecidableEq, Repr

/-- The lane controller (03; it lies outside both engines, R322). Maps, widths, failed lanes and generations are objects. -/
structure Lanes where
  txPlan : Option SplicePlan
  prepareDue : Bool                    -- a PREPARE waits for its packet boundary (R70, R74, R75)
  retryDue : Bool                      -- the 1,024 LCLK of R74 step 4 run
  lastGen : Nat                        -- GEN of the previous PREPARE
  readySeen : Option Nat               -- GEN of the ready indication last delivered (R72)
  planF : Nat                          -- F for which the plans of R74 were made
  planFails : Nat                      -- consecutive plans for it that timed out
  planAdded : Nat                      -- lanes that those plans added
  rxPlan : Option SplicePlan           -- the receiver's pending map
  faultsOut : List (Nat × Nat)         -- LANE_FAULT frames not yet acknowledged: lanes and reason (R62)
  scramAge : Nat                       -- LCLK since the scramblers were loaded (R58)
  rateFail : Nat                       -- rate codes whose lane PLL check failed (14, R363), as a mask
  deriving DecidableEq, Repr

/-- Training (03, R63, R64). The state code is the object PHY_TRN_STATE. -/
structure Training where
  running : Bool
  planned : Bool                       -- a planned retrain (R60)
  holding : Bool                       -- waiting for both EMPTY bits (R60 steps 1, 2)
  bootWait : Bool                      -- the first attempt waits in SB_SYNC (R421)
  attempts : Nat
  rate : Nat                           -- rate code of the attempt
  lclkRate : Nat                       -- rate code at whose frequency LCLK runs (R51)
  farState : Nat                       -- state code in the far side's last TRAIN frame
  farFrames : Nat                      -- TRAIN frames received in this attempt
  slateSeen : Bool
  done : Bool                          -- the work of the present state has ended here
  farDone : Nat                        -- the highest state whose work the far side has ended
  activeRate : Option Nat              -- rate code of the last ACTIVE (13, R356)
  lastFrame : Option TrainFrame        -- the TRAIN frame that repeats (R62)
  target : Nat                         -- PHY_LAT_TARGET in force (R85)
  widthMax : Nat                       -- PHY_WIDTH_MAX in force
  widthMin : Nat
  checkErrs : Nat
  deriving DecidableEq, Repr

/-- Latency lock (03, R78 to R84). -/
structure Latency where
  attempt : Nat                        -- attempts made in LATENCY
  seq : Nat                            -- marker number
  sentAt : Nat                         -- LCC at which the last MEASURE or VERIFY left
  waiting : Bool                       -- its answer is due
  rts : List Nat                       -- RT values of the attempt
  padFar : Nat                         -- PAD_N
  lcc : Nat                            -- the link cycle counter, 48 bits (PHY_LCC)
  settled : Bool                       -- the LATENCY state has ended, locked or unlocked
  repeatTry : Bool                     -- a failed check is being repeated (R84)
  deriving DecidableEq, Repr

/-- The sideband (02, R47, R48; 03, R61, R62). -/
structure Sideband where
  rxUsable : Nat                       -- bit i: receive lane i is usable
  farUsable : Nat                      -- bit i: the far instance reports transmit lane i usable
  synced : Bool                        -- character lock, counted as SB_SYNC (R421)
  deriving DecidableEq, Repr

/-! ### Packets and messages -/

/-- A message-table entry (05, R147): the message's identity, what it carries, and counts. -/
structure Msg where
  hdr : Hdr                            -- of the packet that opened it
  arrived : Nat
  forwarded : Nat
  lastSeen : Bool
  complete : Bool                      -- waits only for Stream Port egress
  status : Nat                         -- lowest-precedence status of performed packets (R146)
  ou : Bool
  lastAddr : Nat                       -- ADDR of the LAST packet
  performed : Nat
  fromLink : Bool
  dropped : Bool                       -- its link went down: the response is discarded (04, R122)
  deriving DecidableEq, Repr

/-- Why the instance issued a request of its own (05, R136). -/
inductive OwnUse where
  | spillWrite (block : Nat)
  | spillRead (block : Nat)
  | eventWrite (record : Nat)
  | pstateWrite
  | eventInBand
  | access (id : Nat)                  -- an operand access of the array
  | discard                            -- given up at a link down: its result is discarded (04, R121)
  deriving DecidableEq, Repr

/-- An own request (05, R136, R137). -/
structure OwnReq where
  tag : Nat
  hdr : Hdr
  use : OwnUse
  got : Nat
  status : Nat
  ou : Bool
  data : List Byte
  deriving DecidableEq, Repr

/-- An own request that has completed and whose user has not taken the result. -/
structure OwnDone where
  use : OwnUse
  status : Nat
  data : List Byte
  deriving DecidableEq, Repr

/-- The packet engine (05). -/
structure Packets where
  nextId : Nat                         -- numbers packets inside the instance (model's own)
  nextMsgId : Nat                      -- MSG_ID of the next own message (R136)
  msgs : List Msg                      -- the message table
  hold : List (Option QPkt)            -- the hold store, 32 entries (R148)
  own : List OwnReq
  ownWait : List (OwnUse × Packet)     -- requests that wait for a tag (R136)
  done : List OwnDone                  -- results of spill and event writes and reads
  closed : List Hdr                    -- messages closed before all their packets arrived (R149)
  ordered : List Hdr                   -- open ordered requests (R154)
  routeFenced : Bool                   -- PKT_ROUTE_ACTIVE failed its complement check (R150)
  deriving DecidableEq, Repr

/-! ### Classes and admission -/

/-- A running gate list (06, R162). -/
structure Gate where
  active : Bool                        -- past its start time
  waiting : Bool                       -- before its start time
  phase : Nat
  deriving DecidableEq, Repr

/-- A transit register entry (06, R169): the flow as registered, its slack, the egress that it crosses here (stream: it ends here,
at its destination), and the hop term in ps that this instance answered for it. -/
structure Transit where
  q : HopQuery
  slack : Nat
  egress : Egress
  term : Nat
  deriving DecidableEq, Repr

/-- An admission walk (06, R169): the flows whose paths are asked for, and whether a hop has not answered within 40 µs. -/
structure Walk where
  flows : List Nat
  timedOut : Bool
  fresh : Bool                         -- a route epoch walk (R174), not a commit
  deriving DecidableEq, Repr

/-- The scheduler (06). -/
structure Classes where
  gates : List Gate                    -- VC1 and VC2
  flowBuckets : List Int               -- the bucket of each flow record (R167)
  register : List Transit
  asked : List Transit                 -- candidates answered in walks that are not decided (R169)
  paths : List (Nat × List Nat)        -- flows of this home and the instances on their paths (R169)
  walk : Option Walk
  recheck : Option Nat                 -- rate code whose check runs (R175)
  deriving DecidableEq, Repr

/-! ### The stack, partitions and keys -/

/-- What a sector access is for. -/
inductive StkUse where
  | packet (job idx : Nat)             -- sector idx of the packet job (11, R301, R304)
  | access (id : Nat)                  -- an operand or result access of the array (07, R209)
  | spill (job idx : Nat)              -- sector idx of a spill record (04, R111)
  | scrub
  | rekey (slot : Nat)
  deriving DecidableEq, Repr

/-- The steps of one sector access (11, R301 to R303, R306, R318). -/
inductive StkStep where
  | read
  | reread                             -- step 1 of R302
  | poisonBack (valid : Bool)          -- the write-back of R302, and whether the stored KSEL is valid
  | write
  | writeBack                          -- a scrub correction or a rekey rewrite (R303)
  deriving DecidableEq, Repr

/-- A sector access that waits for, or holds, a command (02, R36 to R38). -/
structure StkOp where
  addr : Nat                           -- stack-local sector address
  part : Nat                           -- partition of the access
  step : StkStep
  use : StkUse
  tc : Nat                             -- traffic class (R197)
  arr : Bool                           -- an array access (R197)
  data : List Byte                     -- plaintext of a write, ciphertext of a write-back
  md : Nat                             -- metadata of a write-back
  poison : Bool
  rmw : Bool                           -- the partial-sector merge of R268, which holds its sector (R303)
  tag : Nat                            -- command tag once it has one (R38)
  deriving DecidableEq, Repr

/-- One pseudo-channel (02, R36 to R41; 07, R197). -/
structure Pc where
  waiting : List StkOp                 -- in the arbiter, oldest first
  queue : List StkOp                   -- written commands that are not accepted, 16 at most
  outstanding : List StkOp
  heldTags : List Nat                  -- tags kept out of use (R39)
  arrUsed : Nat                        -- array slots used in the frame
  pktUsed : Nat                        -- packet slots used in the frame
  slot : Nat                           -- position in the frame of 16 SCLK
  deriving DecidableEq, Repr

/-- A packet that the Stack Port serves sector by sector (11, R310). -/
structure Job where
  id : Nat
  hdr : Hdr
  own : Option OwnUse                  -- a spill record of this instance's own (04, R111)
  left : Nat                           -- sectors that have no status yet
  results : List (Nat × List Byte × Bool)   -- status, bytes and poison mark of each sector (R132)
  ou : Bool
  dropped : Bool                       -- its link went down: the response is discarded (R122)
  fromLink : Bool
  settled : Bool                       -- completed already: fence, restart (R340, R22)
  deriving DecidableEq, Repr

/-- A key slot (11, R315). -/
structure KeySlot where
  slot : Nat
  key0 : Option (List Byte)
  key1 : Option (List Byte)
  writeKey : Nat
  walk : Option Nat                    -- next ADDR of the rekey walk (R318)
  walkDone : Bool
  fenced : Bool
  deriving DecidableEq, Repr

/-- The Stack Port and what it protects (02, 11). -/
structure Stack where
  up : Bool
  lock : LockPhase
  pcs : List Pc
  downPins : Nat                       -- levels of SK_PC_DOWN
  jobs : List Job
  nextJob : Nat
  lockedAddrs : List Nat               -- sectors between a read and its write-back (R303)
  parts : List (Nat × Nat)             -- active partition table: entries that are not zero (R311)
  access : List (Nat × Nat)            -- active access table
  stagedDiffers : Bool                 -- STK_PART_RESULT [31]
  boundsFenced : List Nat              -- partitions whose bounds failed their complement check (R312)
  slots : List KeySlot                 -- slots that are not empty
  scrubBusy : Bool                     -- a scrub read is under way
  rekeyBusy : Bool
  clkFence : Bool                      -- fenced by loss of SCLK (R21)
  selfTestFailed : Bool                -- the secure store test failed (14, R370)
  deriving DecidableEq, Repr

/-! ### The array -/

/-- A merge state or a tile result (07, R192): vectors of FP32 codes, accumulators, bytes to write at an offset, and the events
of R296 that forming it counted. -/
structure Vals where
  words : List (List Nat)
  accs : List Acc
  out : List (Nat × List Byte)
  info : Nat                           -- rows or tokens counted for OP_INFO
  tally : Tally
  deriving DecidableEq, Repr

/-- Where a descriptor stands (07, R194, R209): tiles run, its result is being written, it waits for contributors or for the
reduction that it flushes, or it ends without a further access. -/
inductive DescPhase where
  | queued | running | writing | waiting | ending
  deriving DecidableEq, Repr

/-- A descriptor that a queue holds (07, R184 to R212). -/
structure Desc where
  id : Nat
  queue : Nat
  req : Hdr                            -- header of its OP_SUBMIT
  bytes : List Byte                    -- the 128 bytes of R188
  fromLink : Bool
  passes : Nat                         -- P of R201
  phase : DescPhase
  units : Nat                          -- staging units that it takes (R200)
  mem : List (Nat × List Byte)         -- operand sectors read in this pass: operand address and plaintext
  fails : List Nat                     -- statuses that end it (R209)
  nextTile : Nat                       -- tiles dispatched
  merged : Nat                         -- tiles merged
  ran : Nat                            -- tiles executed (R187)
  rerun : List Nat                     -- tiles to run again (R181)
  results : List (Nat × Vals)          -- the merge buffer (R193)
  acc : Vals
  written : List (Nat × Nat × List Byte)   -- result bytes not yet issued: sector, offset in it, bytes
  issued : List Nat                    -- sectors issued of each result range
  okSectors : List Nat                 -- result sectors written with OK
  inline : List Byte                   -- the inline result (R190)
  info : Nat                           -- heads, outputs, bags or sectors counted for OP_INFO
  ou : Bool
  rerunFlag : Bool
  dropCpl : Bool                       -- its OP_CPL is discarded: link down (R211)
  deriving DecidableEq, Repr

/-- An operand or result access (07, R209): n sectors from an operand address on. -/
structure OpAccess where
  id : Nat
  desc : Nat
  addr : Nat                           -- FA · 2^40 + ADDR
  n : Nat
  write : Bool
  patch : Option (List (Nat × List Byte))   -- the bytes to merge into a partial sector that is being read (R268)
  done : Option (Nat × Bool × List Byte)   -- status, outcome unknown, data
  deriving DecidableEq, Repr

/-- What a cell works on (07, R181, R195; 09, R257). -/
inductive CellWork where
  | tile (desc tile : Nat)
  | redWr (id : Nat) (pkt : Packet)
  deriving DecidableEq, Repr

/-- An open reduction (09, R256). -/
structure Reduction where
  id : Nat
  slot : Nat                           -- its entry of RED_TABLE
  part : Nat
  queue : Nat
  desc : Nat
  target : Nat                         -- ADDR of its first sector
  elements : Nat
  contributors : Nat
  counted : Nat
  state : Nat                          -- 1 open, 2 stopped, 3 writing the target
  outFmt : Nat
  inFmt : Nat
  init : Bool
  poison : Bool
  accs : List (Nat × Acc)              -- accumulators that are not exact zero
  endCode : Nat                        -- 0 count reached, 1 flushed, 2 aborted
  flush : Option Nat                   -- the descriptor of the flush that ends it
  deriving DecidableEq, Repr

/-- The array (07, 08, 09). Cell states are the object ARR_CELL_STATE. -/
structure ArrayUnit where
  submits : List (Packet × Bool)       -- OP_SUBMIT packets handed to the array, and whether they came over the link
  descs : List Desc
  nextDesc : Nat
  accesses : List OpAccess
  nextAccess : Nat
  work : List (Nat × CellWork)
  redIn : List (Packet × Bool)         -- RED_WR packets handed to the array
  redAgain : List (Nat × Packet)       -- RED_WR additions to repeat after a cell fault
  reductions : List Reduction
  gated : Nat                          -- idle-gated clusters
  shares : List Nat                    -- weighted round robin: tiles of each queue in this round (R195)
  clkFence : Bool                      -- fenced by loss of ACLK (R21)
  deriving DecidableEq, Repr

/-! ### Redundancy, calibration, screen test -/

/-- The engines (12). Engine states are the object RED_ENG_STATE. -/
structure Engines where
  store : List (Nat × Nat)             -- state-store words of the stand-in that are not zero (R325)
  held : Option (List Byte)            -- the frame that the stand-in holds (R327)
  fseq : Option Nat
  chunk : Nat                          -- next chunk of a resynchronisation (R338)
  takeover : Bool                      -- a takeover gap runs (R330)
  segTest : Option Nat                 -- segment under test (R335)
  nextSeg : Nat
  passRun : Bool                       -- a full pass on request runs its segments one after the other (14, R366)
  yields : List (Nat × Nat)            -- engine and RCLK of past yields (R337)
  rowErrs : List (Nat × Nat)           -- array and row of corrected errors, twice at most (R324)
  spared : List (Nat × Nat)            -- array and row of the rows that a spare row has replaced
  retest : Option Nat                  -- engine that is screen-tested whole (R337; 14, R364)
  cycled : Nat                         -- engines power-cycled since FENCE_CAUSE became 2 (R339)
  deriving DecidableEq, Repr

/-- Calibration and ageing (13). -/
structure Calib where
  temps : List Int                     -- last value of each sensor, 1/8 degree C
  sensorBad : Nat                      -- sensors found unusable (14, R363)
  setsNow : List (Nat × Nat)           -- CAL_TRIM_SETS entries in force where they differ (R346)
  recal : Option Nat                   -- lane under recalibration
  nextRecal : Nat
  scan : Option Nat                    -- lane under eye scan
  monitor : Option Nat                 -- its monitor lane
  nextScan : Nat
  paused : Bool
  minH : List Nat                      -- smallest height of the interval, 72 entries, 255 none
  minW : List Nat
  stale : Nat                          -- AGE_EYE entries that are STALE
  scanned : Nat                        -- lanes that have an eye result
  planDue : Bool                       -- a plan waits for the sequencer (R360)
  retireDue : List Nat                 -- lanes that the plan retires, in order (R358)
  retireWait : Option Nat              -- the lane whose splice the next retirement waits for
  stepRate : Option Nat                -- rate code of a step in progress (R359)
  stepPhase : Nat                      -- 1, 4 a check runs; 2 grace; 0, 3, 5 the writes that wait for lock 0
  roRaised : Nat                       -- monitors whose event has been raised
  seqDown : Bool
  deriving DecidableEq, Repr

/-- A test that has been granted its power (14, R367, R369). -/
structure Running where
  test : TestUnit
  extra : Nat                          -- mW
  pace : Nat                           -- code of SCR_STATE [14:13]
  on : Bool                            -- the unit is isolated, and the test runs
  deriving DecidableEq, Repr

/-- Screen test and zeroisation (14). -/
structure Screen where
  running : List Running
  waiting : List TestUnit              -- tests that wait for power (R369)
  farRespond : Option Nat              -- the group that answers far-end loopback (R366)
  halted : Bool
  estimate : Nat                       -- mW of the last estimate
  zeroWait : Nat                       -- domains whose clear is not confirmed
  zeroCycled : Bool
  bootQueue : List TestUnit            -- tests of bring-up that have not ended
  deriving DecidableEq, Repr

/-! ### Management -/

/-- The capture and the write buffer of one access path (15, R388). -/
structure Capture where
  obj : Option Obj
  base : Nat                           -- first byte captured
  data : List Byte
  wobj : Option Obj
  wentry : Nat
  wdata : List (Nat × Byte)
  deriving DecidableEq, Repr

/-- A mailbox (15, R403 to R406). -/
structure Mailbox where
  out : List Byte
  inn : List Byte
  outFull : Bool
  inFull : Bool
  outLen : Nat
  inLen : Nat
  lastStatus : Nat
  inStatus : Nat
  taken : Bool                         -- the target has taken a message and has not replied
  deriving DecidableEq, Repr

/-- A message that a sequencer or key unit has taken: the mailbox and whether it came through the tunnel (R403, R406). -/
structure Taken where
  mbx : Nat
  far : Bool
  msg : List Byte
  deriving DecidableEq, Repr

/-- Fragments of one tunnel message (15, R406). -/
structure Tunnel where
  mbx : Nat
  reply : Bool
  next : Nat
  data : List Byte
  deriving DecidableEq, Repr

/-- A commit that waits for its admission (15, R394). -/
structure Commit where
  mask : Nat
  deriving DecidableEq, Repr

/-- An event record (15, R408). -/
structure EventRec where
  type : Nat
  sev : Nat
  src : Nat
  seq : Nat
  rclk : Nat
  obj : Nat
  payload : List Byte
  deriving DecidableEq, Repr

/-- Management (15). -/
structure Mgmt where
  dxSel : Nat
  dxOffset : Nat
  capPort : Capture
  capRing : Capture
  capMbx : Capture
  gwReq : List Byte                    -- request message, 56 bytes
  gwReply : List Byte
  gwBusy : Bool
  gwReady : Bool
  gwStatus : Nat
  gwTag : Nat
  ringTagEvt : Nat                     -- TAG of the EVENT message in flight
  mailboxes : List Mailbox
  taken : List Taken
  tunnels : List Tunnel                -- messages that arrive in fragments
  locks : List (Option Requester)      -- owners of the 32 locks
  lockFault : Nat
  script : List Byte
  scenes : List (List Byte)            -- eight slots, empty when nothing is stored
  commit : Option Commit
  cfgFenced : Bool                     -- configuration is fenced (R396)
  seqLockWait : Option Nat             -- what the sequencer wants lock 0 for (R402)
  events : List EventRec               -- records that wait for delivery
  pairOld : EventRec                   -- the record beside the newest one in its sector (R409)
  recWriting : Bool                    -- a record write is outstanding
  recRetry : Bool
  pstateDue : Bool                     -- a record write has completed since the last producer-state write (R410)
  pstateBusy : Bool
  evtTries : Nat                       -- sends of the record in flight by ring (R412)
  evtProbe : Bool                      -- the next record goes by ring first
  deriving DecidableEq, Repr

/-- Power and bring-up (16). -/
structure Power where
  powered : Nat                        -- PWR_DOMAIN_STATE [19:0]
  ready : Nat                          -- domains that accept work
  fwImage : List Byte                  -- the image store
  resetStep : Nat                      -- step of R419 that waits, 0 none
  resetWaits : Bool                    -- a reset waits for a zeroisation (R427)
  bandgapBad : Bool
  tap : Nat                            -- TAP instruction in force (02, R49)
  wrapper : Nat                        -- 1500 instruction in force (R50)
  boundary : List Bool                 -- the boundary register
  hclkStop : Bool                      -- the Control Port stops (R21)
  mclkStop : Bool                      -- the ring runs from RCLK
  deriving DecidableEq, Repr

/-! ### What leaves the block -/

/-- What leaves the block (assumption 4). -/
inductive Out where
  | flit (slot : Nat) (bytes : List Byte)
  | stream (sub vc : Nat) (bytes : List Byte) (poison : List Nat)
  | streamCredit (vc n : Nat)
  | relay (port vc : Nat) (flits : List (List Byte))
  | relayCredit (vc n : Nat)
  | relayUp (level : Bool)
  | stackCmd (p : Nat) (wr : Bool) (saddr tag : Nat) (data : List Byte) (md : Nat)
  | sideband (type : Nat) (payload : List Byte)
  | train (f : TrainFrame)
  | ring (pos : Nat) (msg : List Byte)    -- a message for the loop position that its hop names
  | reply (status data : Nat)
  | gapPattern
  | hop (a : HopAnswer)
  | ask (q : HopQuery)
  | tell (home : Nat) (u : TransitUpdate)
  | counters (bytes : List Byte)
  | tap (bits : List Bool)
  | tapCode (v : Nat)
  deriving DecidableEq, Repr

/-! ### The machine -/

/-- The supply, the strap and the counts that only time and AON power move. -/
structure Aon where
  up : Bool                            -- AON_PWR_OK high and AON_RST_N released
  side : Nat                           -- MGT_SIDE (01, R10)
  rclk : Nat                           -- local RCLK count (02, R430)
  rclkAbsent : Bool                    -- PWR_CLK_STATE [12]
  ps : Nat                             -- picoseconds since the last RCLK edge counted (model's own)
  lclk : Nat                           -- LCLK since AON power-up (model's own stamp)
  deriving DecidableEq, Repr

/-- The state of the block. -/
structure State where
  pending : List Instr                 -- the commands that wait, front first
  aon : Aon
  dict : Dict                          -- the object dictionary (15, R383)
  sp : StreamPort
  rl : RelayPort
  tx : LinkTx
  rx : LinkRx
  crossings : List Crossing
  lanes : Lanes
  trn : Training
  lat : Latency
  sb : Sideband
  pk : Packets
  cls : Classes
  stk : Stack
  arr : ArrayUnit
  eng : Engines
  cal : Calib
  scr : Screen
  mgt : Mgmt
  pwr : Power
  free : Nat                           -- free values taken so far (model's own, assumption 6)
  outbox : List Out                    -- what has left, oldest first
  deriving DecidableEq, Repr

/-! ### Reset -/

/-- Eight zeros: one count per VC. -/
def eight : List Nat := List.replicate 8 0

/-- A pseudo-channel at reset. -/
def Pc.reset : Pc := ⟨[], [], [], [], 0, 0, 0⟩

/-- A mailbox at reset: no message in either direction. -/
def Mailbox.reset : Mailbox := ⟨zeros 256, zeros 256, false, false, 0, 0, 0, 0, false⟩

/-- A capture that names no object. -/
def Capture.reset : Capture := ⟨none, 0, [], none, 0, []⟩

/-- The NULL record (15, R408). -/
def EventRec.null : EventRec := ⟨0, 0, 0, 0, 0, 0, []⟩

/-- Merge state with nothing in it. -/
def Vals.zero : Vals := ⟨[], [], [], 0, {}⟩

/-- The state right after AON power-up (16, R418) with the side strap at 0: everything clear, every object at its default, no
command waiting. What the spec gives no reset value for is assumption 7. -/
def State.reset : State where
  pending := []
  aon := { up := true, side := 0, rclk := 0, rclkAbsent := false, ps := 0, lclk := 0 }
  dict := Dict.empty
  sp := { up := false, lock := .off, ingCredits := eight, ingOwed := eight, ingress := [], egCredits := eight, egress := [],
          sending := [none, none], rrOps := 0, rrBulk := 0, clkFence := false }
  rl := { lock := .off, siblings := 0, credits := eight, ingress := [], egress := [], holds := [], rrOps := 0, rrBulk := 0 }
  tx := { queue := [], unacked := [], retake := [], spilled := [], writing := [], reading := [], readBack := [], replay := none,
          replayBase := 0, place := ⟨0, 0, 0, 5⟩, spillKey := none, draws := 0, xoffSeen := 0, farEmpty := false, rrOps := 0, rrBulk := 0 }
  rx := { discard := false, nakNow := false, queue := [], part := none, regions := List.replicate 8 512, headroom := 192,
          nakRepeat := 96, window := List.replicate 64 0, slots := 0, diag := none, fecHits := [], log := [] }
  crossings := []
  lanes := { txPlan := none, prepareDue := false, retryDue := false, lastGen := 0, readySeen := none, planF := 0, planFails := 0,
             planAdded := 0, rxPlan := none, faultsOut := [], scramAge := 0, rateFail := 0 }
  trn := { running := false, planned := false, holding := false, bootWait := false, attempts := 0, rate := 0, lclkRate := 0,
           farState := 0, farFrames := 0, slateSeen := false, done := false, farDone := 0, activeRate := none, lastFrame := none, target := 16, widthMax := 64,
           widthMin := 16, checkErrs := 16 }
  lat := { attempt := 0, seq := 0, sentAt := 0, waiting := false, rts := [], padFar := 0, lcc := 0, settled := false,
           repeatTry := false }
  sb := { rxUsable := 3, farUsable := 3, synced := false }
  pk := { nextId := 0, nextMsgId := 0, msgs := [], hold := List.replicate 32 none, own := [], ownWait := [], done := [], closed := [],
          ordered := [], routeFenced := false }
  cls := { gates := [⟨false, false, 0⟩, ⟨false, false, 0⟩], flowBuckets := List.replicate 256 0, register := [], asked := [], paths := [], walk := none,
           recheck := none }
  stk := { up := false, lock := .off, pcs := List.replicate 32 Pc.reset, downPins := 0, jobs := [], nextJob := 0,
           lockedAddrs := [], parts := [], access := [], stagedDiffers := false, boundsFenced := [], slots := [], scrubBusy := false,
           rekeyBusy := false, clkFence := false, selfTestFailed := false }
  arr := { submits := [], descs := [], nextDesc := 0, accesses := [], nextAccess := 0, work := [], redIn := [], redAgain := [],
           reductions := [], gated := 0, shares := List.replicate 64 0, clkFence := false }
  eng := { store := [], held := none, fseq := none, chunk := 0, takeover := false, segTest := none, nextSeg := 0,
           passRun := false, yields := [], rowErrs := [], spared := [], retest := none, cycled := 0 }
  cal := { temps := List.replicate 8 0, sensorBad := 0, setsNow := [], recal := none, nextRecal := 0, scan := none,
           monitor := none, nextScan := 0, paused := false, minH := List.replicate 72 255, minW := List.replicate 72 255,
           stale := 0, scanned := 0, planDue := false, retireDue := [],
           retireWait := none, stepRate := none, stepPhase := 0, roRaised := 0, seqDown := false }
  scr := { running := [], waiting := [], farRespond := none, halted := false, estimate := 0, zeroWait := 0, zeroCycled := false, bootQueue := [] }
  mgt := { dxSel := 0, dxOffset := 0, capPort := Capture.reset, capRing := Capture.reset, capMbx := Capture.reset,
           gwReq := zeros 56, gwReply := zeros 56, gwBusy := false, gwReady := false, gwStatus := 0, gwTag := 0,
           ringTagEvt := 0, mailboxes := List.replicate 6 Mailbox.reset, taken := [], tunnels := [],
           locks := List.replicate 32 none, lockFault := 0, script := [], scenes := List.replicate 8 [], commit := none,
           cfgFenced := false, seqLockWait := none, events := [], pairOld := EventRec.null, recWriting := false,
           recRetry := false, pstateDue := false, pstateBusy := false, evtTries := 0, evtProbe := false }
  pwr := { powered := 0, ready := 0, fwImage := [], resetStep := 0, resetWaits := false, bandgapBad := false,
           tap := 0, wrapper := 0, boundary := [], hclkStop := false, mclkStop := false }
  free := 0
  outbox := []

/-! ### How a step can stop -/

/-- Faults. -/
inductive Fault where
  /-- Raised by a command whose raw pin data has a size that the pins cannot carry (a flit that is not 256 bytes): no hardware
  can meet it. Safe: the model stops where nothing can happen. -/
  | illFormed (command : String)
  deriving DecidableEq, Repr

/-- Refusals. -/
inductive Refusal where
  /-- Raised by the arms of exec that have no meaning yet. Safe: the model stops. -/
  | notModelled (mnemonic : String)
  deriving DecidableEq, Repr

end Sys2Proof.Machine
end

