-- ==== Sys2Proof/Machine/Ops.lean ====
section
/-! DEFINITION. The operations that every family shares: how a command meets the state, the dictionary store, counters, the status
precedence of R8, power and link predicates, event records (R408, R412, R413), fault records (R397), the digest generation
(R320). -/

namespace Sys2Proof.Machine

/-! ### How a command meets the state -/

/-- A command's effect: nothing while the AON supply is off (16, R427). Whatever the effect, the queue of commands and the AON
domain's own counts are not a command's to change (02, R430; 01, R10). -/
def State.run (s : State) (f : State → State) : Host.Outcome State Fault Refusal :=
  if s.aon.up then .next { f s with pending := s.pending, aon := s.aon } else .next s

/-- A command with raw pin data: a fault when the data has a size that the pins cannot carry. -/
def State.runIf (s : State) (ok : Bool) (name : String) (f : State → State) : Host.Outcome State Fault Refusal :=
  if ok then s.run f else .fault (.illFormed name)

/-- f where a condition holds, and no change where it does not. -/
def State.whenOk (s : State) (c : Bool) (f : State → State) : State := if c then f s else s

/-- The path of a requester answers: the Control Port needs HCLK (02, R21), and a sequencer must run for its own requests and for those
of mailboxes 0 to 3. -/
def State.heard (s : State) (r : Requester) : Bool :=
  match r with
  | .port _ => !s.pwr.hclkStop
  | .ring _ _ => true
  | .sequencer => s.pwr.powered.testBit 19
  | .mailbox => s.pwr.powered.testBit 19

/-- An access by a requester. -/
def State.access (s : State) (r : Requester) (f : State → State) : Host.Outcome State Fault Refusal :=
  s.run fun s => s.whenOk (s.heard r) f

/-- Something leaves the block. -/
def State.out (s : State) (o : Out) : State := { s with outbox := s.outbox ++ [o] }

/-- Several things leave, in order. -/
def State.outs (s : State) (l : List Out) : State := { s with outbox := s.outbox ++ l }

/-- A completion status, with read data where there are any (R8, R46). -/
def State.reply (s : State) (status : Nat) : State := s.out (.reply status 0)

/-- A free value of w bits (assumption 6). -/
def State.fresh (s : State) (w : Nat) : Nat × State := (Config.freeValue s.free % 2 ^ w, { s with free := s.free + 1 })

/-! ### Statuses (00, R8) -/

def stOk : Nat := 0x00
def stLinkDown : Nat := 0x01
def stFenced : Nat := 0x02
def stDenied : Nat := 0x03
def stRange : Nat := 0x04
def stUncorrectable : Nat := 0x05
def stExceeds : Nat := 0x06
def stFormat : Nat := 0x07
def stRefused : Nat := 0x08
def stTimeout : Nat := 0x09
def stPoisoned : Nat := 0x0A
def stDomainOff : Nat := 0x0B
def stMalformed : Nat := 0x0C
def stMbxLen : Nat := 0x0D

/-- The precedence numbers of R8; a reserved code ranks behind OK. -/
def precedence (st : Nat) : Nat :=
  match st with
  | 0x02 => 1 | 0x0B => 2 | 0x01 => 3 | 0x0C => 4 | 0x0D => 5 | 0x03 => 6 | 0x07 => 7
  | 0x04 => 8 | 0x06 => 9 | 0x08 => 10 | 0x05 => 11 | 0x0A => 12 | 0x09 => 13 | 0x00 => 14
  | _ => 15

/-- The status of lower precedence number. -/
def worse (a b : Nat) : Nat := if precedence b < precedence a then b else a

/-- The status that R8 reports for several. -/
def worst (l : List Nat) : Nat := l.foldl worse stOk

/-! ### The dictionary store (15, R383 to R389) -/

/-- The cells with those of key k replaced by c. -/
def cellsPut (k : Nat) (c : Option ObjCell) : List ObjCell → List ObjCell
  | [] => c.toList
  | d :: rest =>
    if d.key < k then d :: cellsPut k c rest
    else if d.key = k then c.toList ++ rest
    else c.toList ++ d :: rest

theorem cellsPut_mem {k : Nat} {c : Option ObjCell} {l : List ObjCell} {x : ObjCell} (h : x ∈ cellsPut k c l) :
    x ∈ l ∨ c = some x := by
  induction l with
  | nil => right; simpa [cellsPut] using h
  | cons d rest ih =>
    unfold cellsPut at h
    split at h
    · rcases List.mem_cons.1 h with h | h
      · left; simp [h]
      · rcases ih h with h | h
        · left; simp [h]
        · right; exact h
    · split at h
      · rcases List.mem_append.1 h with h | h
        · right; simpa using h
        · left; simp [h]
      · rcases List.mem_append.1 h with h | h
        · right; simpa using h
        · left; exact h

theorem cellsPut_canon {k : Nat} {c : Option ObjCell} {l : List ObjCell} (hl : CellsCanon l)
    (hc : ∀ x, c = some x → x.key = k ∧ x.val ≠ x.obj.default x.entry ∧ x.val = x.obj.fit x.entry x.val) : CellsCanon (cellsPut k c l) := by
  refine ⟨?_, ?_⟩
  · have hp := hl.1
    clear hl
    induction l with
    | nil => cases c <;> simp [cellsPut]
    | cons d rest ih =>
      have hd := List.pairwise_cons.1 hp
      unfold cellsPut
      split
      · rename_i hlt
        refine List.pairwise_cons.2 ⟨?_, ih hd.2⟩
        intro x hx
        rcases cellsPut_mem hx with hx | hx
        · exact hd.1 x hx
        · rw [(hc x hx).1]; exact hlt
      · split
        · rename_i h1 h2
          cases c with
          | none => simpa using hd.2
          | some x =>
            refine List.pairwise_cons.2 ⟨?_, hd.2⟩
            intro y hy
            rw [(hc x rfl).1, ← h2]; exact hd.1 y hy
        · rename_i h1 h2
          cases c with
          | none => simpa using hp
          | some x =>
            refine List.pairwise_cons.2 ⟨?_, hp⟩
            intro y hy
            rw [(hc x rfl).1]
            rcases List.mem_cons.1 hy with hy | hy
            · rw [hy]; omega
            · have := hd.1 y hy; omega
  · intro x hx
    rcases cellsPut_mem hx with hx | hx
    · exact hl.2 x hx
    · exact (hc x hx).2

/-- The value of entry e of an object: its cell, or its default. -/
def Dict.find (d : Dict) (o : Obj) (e : Nat) : Nat :=
  match d.cells.find? fun c => c.key == o.key e with
  | some c => c.val
  | none => o.default e

/-- The cell that holds v at entry e of an object, none where v is the default. -/
def cellOf (o : Obj) (e v : Nat) : Option ObjCell := if v = o.default e then none else some ⟨o, e, v⟩

/-- A value stored at entry e of an object, in its width and without its reserved bits (R7). -/
def Dict.put (d : Dict) (o : Obj) (e v : Nat) : Dict :=
  ⟨cellsPut (o.key e) (cellOf o e (o.fit e v)) d.cells, cellsPut_canon d.canon (by
    intro x hx
    unfold cellOf at hx
    split at hx
    · cases hx
    · rename_i h; cases hx; exact ⟨rfl, h, (o.fit_fit e v).symm⟩)⟩

/-- Entry e of an object as stored. -/
def State.entry (s : State) (o : Obj) (e : Nat) : Nat := s.dict.find o e

/-- An object that has one entry. -/
def State.obj (s : State) (o : Obj) : Nat := s.dict.find o 0

/-- Entry e of an object set. -/
def State.setEntry (s : State) (o : Obj) (e v : Nat) : State := { s with dict := s.dict.put o e v }

/-- An object of one entry set. -/
def State.setObj (s : State) (o : Obj) (v : Nat) : State := s.setEntry o 0 v

/-- The field [hi:lo] of an object. -/
def State.fld (s : State) (o : Obj) (hi lo : Nat) : Nat := field (s.obj o) hi lo

/-- The field [hi:lo] of an object set. -/
def State.setFld (s : State) (o : Obj) (hi lo v : Nat) : State := s.setObj o (setField (s.obj o) hi lo v)

/-- Entry e of a counter object advanced by n; past its width the spec states no value (assumption 6). -/
def State.countAt (s : State) (o : Obj) (e n : Nat) : State :=
  let v := s.entry o e + n
  if v < 2 ^ (8 * o.row.layout.size e) then s.setEntry o e v else s.setEntry o e (Config.counterPast (o.key e) v)

/-- A counter object advanced by n. -/
def State.count (s : State) (o : Obj) (n : Nat) : State := s.countAt o 0 n

/-- A free-running counter (06, R177): it wraps. -/
def State.countWrap (s : State) (o : Obj) (e n : Nat) : State :=
  s.setEntry o e ((s.entry o e + n) % 2 ^ (8 * o.row.layout.size e))

/-- Every entry of the objects that meet a condition at its default. -/
def Dict.drop (d : Dict) (f : Obj → Bool) : Dict :=
  ⟨d.cells.filter fun c => !f c.obj, d.canon.1.filter _, fun c h => d.canon.2 c (List.mem_filter.1 h).1⟩

/-- Every entry of an object at its default (R429). -/
def State.clearObj (s : State) (o : Obj) : State := { s with dict := s.dict.drop fun x => x == o }

/-- The entries of an object. -/
def State.entries (s : State) (o : Obj) : List Nat := (List.range o.row.layout.count).map fun e => s.entry o e

/-! ### Masks over the 72 lanes, held as three U32 entries -/

def State.lanes72 (s : State) (o : Obj) : Nat := s.entry o 0 + 2 ^ 32 * s.entry o 1 + 2 ^ 64 * s.entry o 2

def State.setLanes72 (s : State) (o : Obj) (m : Nat) : State :=
  ((s.setEntry o 0 (field m 31 0)).setEntry o 1 (field m 63 32)).setEntry o 2 (field m 71 64)

/-- Number of set bits below n. -/
def popcount (n m : Nat) : Nat := ((List.range n).filter fun i => m.testBit i).length

/-! ### Power, link and side predicates -/

def State.sSide (s : State) : Bool := s.aon.side == 1
def State.hSide (s : State) : Bool := s.aon.side == 0
def State.poweredDom (s : State) (d : Nat) : Bool := s.pwr.powered.testBit d
def State.readyDom (s : State) (d : Nat) : Bool := s.pwr.powered.testBit d && s.pwr.ready.testBit d

/-- A domain turned on or off; what is turned on accepts no work yet. -/
def State.switchDom (s : State) (d : Nat) (on : Bool) : State :=
  { s with pwr := { s.pwr with powered := setBit s.pwr.powered d on, ready := setBit s.pwr.ready d false } }

/-- The step of bring-up: 1 while PWR_BRINGUP_STATE is as at reset (16, R420). -/
def State.bringupStep (s : State) : Nat := max 1 (s.fld .pwrBringupState 3 0)

/-- The link core is supplied while either engine island is powered (16, R416). -/
def State.linkCore (s : State) : Bool := s.poweredDom 0 || s.poweredDom 1
def State.seqRuns (s : State) : Bool := s.readyDom 19 && !s.cal.seqDown && !s.pwr.fwImage.isEmpty
def State.fenced (s : State) : Bool := s.obj .redFence == 1

/-- A zeroisation record is present, and external scan is open (14, R373). -/
def State.zeroised (s : State) : Bool := (s.entry .scrZeroRecord 1).testBit 0

/-- The key unit answers every command with 0x06 (11, R317; 14, R370, R373). -/
def State.noKeys (s : State) : Bool := s.hSide || s.zeroised || s.stk.selfTestFailed

/-- LNK_STATE 2 or 3: the link carries flits (04, R127). -/
def State.linkUp (s : State) : Bool := s.obj .lnkState == 2 || s.obj .lnkState == 3

def State.linkActive (s : State) : Bool := s.obj .lnkState == 2

/-- A link is down in LNK_STATE 0, 1 and 4 (05, R143). -/
def State.locked (s : State) : Bool := (s.obj .phyLatState).testBit 0

/-- The sideband is down (02, R48). -/
def State.sbDown (s : State) : Bool := s.sb.rxUsable == 0 || s.sb.farUsable == 0

/-- The sideband has passed SB_SYNC (16, R421). -/
def State.sbUp (s : State) : Bool := s.sb.synced && !s.sbDown

def State.fa (s : State) : Nat := s.obj .pktFa

/-- Picoseconds of one cycle of each clock: LCLK of a rate code (00, R5), ACLK, and the port clocks from their divisors. -/
def lclkPs (rate : Nat) : Nat := match rate with
  | 0 => 640
  | 1 => 800
  | _ => 1000
def State.lclk (s : State) : Nat := lclkPs s.trn.lclkRate
def aclkPs : Nat := 625

/-- n cycles of a clock that counted c over 1,024 RCLK (02, R20), in ps rounded up; 0 for a clock that is absent. -/
def countedPs (c n : Nat) : Nat := if c = 0 then 0 else ceilDiv (10240000 * n) c

/-- n cycles of SCLK and of FCLK as last counted. -/
def State.sclkPs (s : State) (n : Nat) : Nat := countedPs (s.entry .pwrClkCount 2) n
def State.fclkPs (s : State) (n : Nat) : Nat := countedPs (s.entry .pwrClkCount 3) n

/-- D of the Stream Port crossings and of the Stack Port crossings (02, R24). -/
def State.streamLat (s : State) : Nat := if s.entry .pwrClkCount 3 = 0 then 0 else s.fclkPs 3 + 3 * s.lclk
def State.stackLat (s : State) : Nat := if s.entry .pwrClkCount 2 = 0 then 0 else s.sclkPs 3 + 3 * s.lclk

/-- Flits per LCLK of a width (03, R59). -/
def flitsPer (width : Nat) : Nat := width / 16

/-! ### Events (15, R408, R411, R412, R413) -/

/-- This instance is an event gateway (15, R409). -/
def State.evtGateway (s : State) : Bool := s.hSide && s.obj .mgtEvtEn == 1

/-- Records written and not acknowledged (15, R411). -/
def State.evtHeld (s : State) : Nat := (s.obj .mgtEvtPidx + 2 ^ 32 - s.obj .mgtEvtCidx) % 2 ^ 32

/-- The instance has neither a ring gateway nor an egress for its records (15, R412 step 5). -/
def State.evtNoRoute (s : State) : Bool := s.entry .mgtEvtPath 0 == 0 && s.obj .mgtEvtFbFa == 0xFFF

/-! ### Ring messages (15, R377 to R379) -/

def b8 (v : Nat) : Byte := BitVec.ofNat 8 v

/-- Fields of a ring message. -/
def rKind (m : List Byte) : Nat := valAt m 0 1
def rNhops (m : List Byte) : Nat := valAt m 2 1 / 16
def rNext (m : List Byte) : Nat := valAt m 2 1 % 16
def rSec (m : List Byte) : Bool := (valAt m 3 1).testBit 0
def rHop (m : List Byte) (i : Nat) : Nat := valAt m (4 + i) 1
def rTag (m : List Byte) : Nat := valAt m 16 2
def rIndex (m : List Byte) : Nat := valAt m 18 2
def rSub (m : List Byte) : Nat := valAt m 20 1
def rLen (m : List Byte) : Nat := valAt m 21 1
def rOffset (m : List Byte) : Nat := valAt m 22 2
def rData (m : List Byte) : List Byte := (m.drop 24).take (rLen m)

/-- A reply carries KIND + 0x80. -/
def rIsReply (m : List Byte) : Bool := 0x80 ≤ rKind m

/-- What R379 answers with MALFORMED wherever the message is: a reserved KIND or bit, NHOPS or LEN out of range; and a NEXT past NHOPS, or
data that LEN does not cover. A READ carries no data. -/
def rMalformed (m : List Byte) : Bool :=
  !inRange 1 5 (rKind m % 0x80) || 2 ≤ valAt m 3 1 || 12 < rNhops m || 32 < rLen m || rNhops m < rNext m ||
    ((rKind m = 2 || rKind m = 5) && m.length < 24 + rLen m)

/-- The length L of the loop: 0 while the position is not valid; a loop of 64 shows 0 in the six bits. -/
def State.ringLen (s : State) : Nat :=
  if s.fld .mgtRingState 16 16 = 0 then 0 else if s.fld .mgtRingState 13 8 = 0 then 64 else s.fld .mgtRingState 13 8

/-- The status with which an instance cannot execute hop NEXT, by R8 where two apply; none where it can (R379). At the target there is
no hop, and only the message itself counts. -/
def State.hopFault (s : State) (m : List Byte) : Option Nat :=
  let h := rHop m (rNext m)
  if rNext m = rNhops m then (if rMalformed m then some stMalformed else none)
  else if h.testBit 7 && !s.sbUp then some stLinkDown
  else if rMalformed m || (if h.testBit 7 then h != 0x80 else s.ringLen ≤ h) then some stMalformed
  else none

/-- Hop NEXT executed: rewritten with the hop that undoes it, NEXT advanced, and sent over the link or along the loop (R378). -/
def State.emitHop (s : State) (m : List Byte) : State :=
  let n := rNext m
  let h := rHop m n
  let back := if h.testBit 7 then h else s.fld .mgtRingState 5 0
  let m := splice (splice m (4 + n) [b8 back]) 2 [b8 (rNhops m * 16 + (n + 1) % 16)]
  s.out (if h.testBit 7 then .sideband 0x10 m else .ring h m)

/-! ### The delivery of event records (15, R408, R412) -/

/-- The 32 bytes of a record (15, R408). -/
def EventRec.bytes (r : EventRec) : List Byte :=
  toBytes 4 (r.type % 256 + (r.sev % 16) * 256 + (r.src % 4096) * 4096 + (r.seq % 256) * 2 ^ 24) ++ toBytes 8 r.rclk ++
    toBytes 4 r.obj ++ slice r.payload 0 16

/-- A record from its 32 bytes. -/
def EventRec.ofBytes (bs : List Byte) : EventRec :=
  let w := valAt bs 0 4
  { type := field w 7 0, sev := field w 11 8, src := field w 23 12, seq := field w 31 24, rclk := valAt bs 4 8, obj := valAt bs 12 4,
    payload := slice bs 16 16 }

/-- In-band mode, or an instance without a ring gateway. -/
def State.evtInBand (s : State) : Bool := s.fld .mgtEvtMode 1 1 = 1 || s.entry .mgtEvtPath 0 = 0

/-- The EVENT message that carries a record along MGT_EVT_PATH (R377, R412). -/
def State.eventMsg (s : State) (r : EventRec) : List Byte :=
  [b8 5, 0, b8 (s.entry .mgtEvtPath 0 % 16 * 16), 0] ++ (List.range 12).map (fun i => b8 (s.entry .mgtEvtPath (1 + i))) ++
    toBytes 2 s.mgt.ringTagEvt ++ [0, 0, 0, 32, 0, 0] ++ r.bytes

/-- The oldest record leaves by ring; a message whose first hop cannot be executed goes nowhere, and its timeout runs. -/
def State.sendRecord (s : State) (tries : Nat) : State :=
  match s.mgt.events with
  | [] => s
  | r :: _ =>
    let s : State := { s with mgt := { s.mgt with evtTries := tries } }
    let m := s.eventMsg r
    if 12 < s.entry .mgtEvtPath 0 || (s.hopFault m).isSome then s else s.emitHop m

/-- The next record starts by ring, where none is in flight and the ring is the way. -/
def State.nextRecord (s : State) : State :=
  if s.evtGateway || s.mgt.evtTries != 0 || s.mgt.recWriting || s.mgt.events.isEmpty || s.entry .mgtEvtPath 0 = 0 ||
      (s.evtInBand && !s.mgt.evtProbe) then s
  else
    let s : State := { s with mgt := { s.mgt with ringTagEvt := (s.mgt.ringTagEvt + 1) % 65536 } }
    (if s.mgt.evtProbe then s else s.setFld .mgtEvtMode 2 0 1).sendRecord 1

/-- A record queued, or dropped and counted (R411, R412). -/
def State.queueEvent (s : State) (r : EventRec) : State :=
  let full := if s.evtGateway then s.evtHeld == s.obj .mgtEvtSize || s.mgt.events.length ≥ 64
              else s.evtNoRoute || s.mgt.events.length ≥ 16
  if full then (s.count .mgtEvtDropped 1).setFld .mgtEvtMode 2 2 (ofBool (!s.evtGateway && s.evtNoRoute))
  else ({ s with mgt := { s.mgt with events := s.mgt.events ++ [r] } }).nextRecord

/-- A rule raises an event (15, R408). OBJ names the state or counter object that the rule updates. -/
def State.raise (s : State) (type sev : Nat) (o : Option Obj) (payload : List Byte) : State :=
  let seq := s.fld .mgtEvtMode 15 8
  let r : EventRec := { type := type, sev := sev, src := s.fa, seq := seq, rclk := s.aon.rclk,
                        obj := (o.map fun x => x.row.index * 65536 + x.row.sub * 256).getD 0, payload := slice payload 0 16 }
  (s.setFld .mgtEvtMode 15 8 (seq + 1)).queueEvent r

/-- A fault record (15, R397). -/
def State.faultRecord (s : State) (index sub cause detail : Nat) : State :=
  let n := s.obj .mgtFaultCount
  (s.setEntry .mgtFaultRecord (n % 16)
    (detail % 2 ^ 32 + (cause % 256) * 2 ^ 32 + (sub % 256) * 2 ^ 40 + (index % 65536) * 2 ^ 48 + s.aon.rclk % 2 ^ 64 * 2 ^ 64)).count .mgtFaultCount 1

/-- A covered item of the digest changes (11, R320): the generation advances and a computation starts. -/
def State.digestChange (s : State) : State :=
  ((s.count .stkDigestGenNow 1).setObj .stkDigestState 1)

/-- Whether a requester is secure, and its rank (15, R386). -/
def isSecure : Requester → Bool
  | .sequencer => true
  | .ring _ sec => sec
  | .port sec => sec
  | .mailbox => false

def rankOf : Requester → Nat
  | .sequencer => 1
  | .ring _ _ => 2
  | .port sec => if sec then 3 else 4
  | .mailbox => 4

/-- GW of a lock owner code (15, R399). -/
def gwOf : Requester → Nat
  | .ring gw _ => gw
  | _ => 0

/-- The access table of R386 for a write. -/
def State.mayWrite (s : State) (o : Obj) (r : Requester) : Bool :=
  match o.row.access with
  | .ro => false
  | .wo => true
  | .rw => !o.row.sceneBound
  | .rwSecure => isSecure r
  | .rwLocked => s.obj .mgtSeal == 0 && !o.row.sceneBound

end Sys2Proof.Machine
end

