-- ==== Sys2Proof/Machine/Packet.lean ====
section
/-! DEFINITION. Packets: the header of R128, the types of R130, what is malformed (R133), how a packet is cut into flits (R91) and
beats (R30), and the responses that Zalry forms (R131, R134, R187, R341). -/

namespace Sys2Proof.Machine

/-! ### The header (05, R128) -/

/-- The fields of R128 from bit 0 up, as (width, value); the reserved bits are zero. -/
def Hdr.fields (h : Hdr) : List (Nat × Nat) :=
  [(6, h.type), (3, h.tc), (1, ofBool h.last), (1, ofBool h.ord), (1, h.epoch), (9, h.len), (1, ofBool h.ou), (1, ofBool h.synth),
   (1, 0), (12, h.dst), (12, h.src), (20, h.ep), (12, h.tag), (8, h.part), (16, h.msgId), (16, h.msgCount), (40, h.addr),
   (8, h.status), (16, h.aux), (4, h.hops), (4, 0)]

/-- Fields laid one above the other. -/
def packFields : List (Nat × Nat) → Nat
  | [] => 0
  | (w, v) :: rest => v % 2 ^ w + 2 ^ w * packFields rest

/-- The header as a number of 192 bits. -/
def Hdr.pack (h : Hdr) : Nat := packFields h.fields

/-- The header that 192 bits spell; reserved bits are ignored (R7). -/
def Hdr.parse (v : Nat) : Hdr where
  type := field v 5 0
  tc := field v 8 6
  last := bit v 9
  ord := bit v 10
  epoch := field v 11 11
  len := field v 20 12
  ou := bit v 21
  synth := bit v 22
  dst := field v 35 24
  src := field v 47 36
  ep := field v 67 48
  tag := field v 79 68
  part := field v 87 80
  msgId := field v 103 88
  msgCount := field v 119 104
  addr := field v 159 120
  status := field v 167 160
  aux := field v 183 168
  hops := field v 187 184

/-- Every field lies in its width. -/
def Hdr.wf (h : Hdr) : Prop :=
  h.type < 2 ^ 6 ∧ h.tc < 2 ^ 3 ∧ h.epoch < 2 ∧ h.len < 2 ^ 9 ∧ h.dst < 2 ^ 12 ∧ h.src < 2 ^ 12 ∧ h.ep < 2 ^ 20 ∧ h.tag < 2 ^ 12 ∧
  h.part < 2 ^ 8 ∧ h.msgId < 2 ^ 16 ∧ h.msgCount < 2 ^ 16 ∧ h.addr < 2 ^ 40 ∧ h.status < 2 ^ 8 ∧ h.aux < 2 ^ 16 ∧ h.hops < 2 ^ 4

/-- The 24 header bytes. -/
def Hdr.bytes (h : Hdr) : List Byte := toBytes 24 h.pack

/-- The header in bytes 0 to 23. -/
def Hdr.ofBytes (bs : List Byte) : Hdr := Hdr.parse (valAt bs 0 24)

/-- A header of zeros. -/
def Hdr.zero : Hdr := Hdr.parse 0

/-! ### Types (05, R130) -/

def tRdReq : Nat := 0x01
def tWrReq : Nat := 0x02
def tRedWr : Nat := 0x03
def tSubmit : Nat := 0x08
def tRdRsp : Nat := 0x21
def tWrCpl : Nat := 0x22
def tOpCpl : Nat := 0x28
def tErrCpl : Nat := 0x3E

/-- TYPE bit 5 is 0 in every request type. -/
def isRequest (t : Nat) : Bool := !t.testBit 5

def typeKnown (t : Nat) : Bool := [tRdReq, tWrReq, tRedWr, tSubmit, tRdRsp, tWrCpl, tOpCpl, tErrCpl].contains t

/-- A request whose execution can change memory or array state: every request type but reads (04, R122). -/
def isModifying (t : Nat) : Bool := isRequest t && t != tRdReq

/-- The type that answers a request; ERR_CPL for a reserved type. -/
def respType (t : Nat) : Nat :=
  if t = tRdReq then tRdRsp else if t = tWrReq then tWrCpl else if t = tRedWr then tWrCpl
  else if t = tSubmit then tOpCpl else tErrCpl

/-- A packet of the deadline classes. -/
def isDl (tc : Nat) : Bool := tc = 1 || tc = 2

/-- LEN and AUX keep to the type table. -/
def lenAuxOk (h : Hdr) : Bool :=
  if h.type = tRdReq then h.len = 0 && 1 ≤ h.aux && h.aux ≤ 128
  else if h.type = tWrReq then h.len % 2 = 0 && 2 ≤ h.len && h.len ≤ 256 && h.aux = 0
  else if h.type = tRedWr then h.len % 2 = 0 && 2 ≤ h.len && h.len ≤ 256
  else if h.type = tSubmit then h.len = 4 && h.aux / 64 = 0
  else if h.type = tRdRsp then 1 ≤ h.aux && h.aux ≤ 128 && (h.len = 0 || h.len = 2 * h.aux)
  else if h.type = tWrCpl then h.len = 0 && h.aux = 0
  else if h.type = tOpCpl then 2 ≤ h.len && h.aux / 64 = 0
  else if h.type = tErrCpl then h.len = 0 && h.aux = 0
  else false

/-- R133 and the MSG_COUNT rule of R146 for OP_SUBMIT; hTerm: the packet terminates at this H-side instance. -/
def malformed (p : Packet) (vc : Nat) (hTerm : Bool) : Bool :=
  let h := p.hdr
  h.len > 256 || p.payload.length != 32 * h.len || !typeKnown h.type || !lenAuxOk h || h.msgCount = 0 || h.tc != vc ||
    h.dst = 0xFFF || h.src = 0xFFF || (h.type = tSubmit && h.msgCount != 1) ||
    (hTerm && isRequest h.type && h.type != tSubmit)

/-- DESC_ID of an OP_SUBMIT: bytes 2 and 3 of its descriptor when at least 4 bytes arrived (R187). -/
def Packet.descId (p : Packet) : Nat :=
  if p.hdr.type = tSubmit && p.payload.length ≥ 4 then valAt p.payload 2 2 else 0

/-! ### Flits and beats -/

/-- Flits that a packet with P payload bytes takes (04, R91). -/
def flitsOfLen (p : Nat) : Nat := if p ≤ 212 then 1 else 1 + ceilDiv p 236

def Packet.flits (p : Packet) : Nat := flitsOfLen p.payload.length

/-- Stream Port beats of a packet (02, R30). -/
def beatsOfLen (p : Nat) : Nat := ceilDiv (24 + p) 512

def Packet.beats (p : Packet) : Nat := beatsOfLen p.payload.length

/-- A byte of [lo, hi) is poisoned. -/
def poisonIn (poison : List (Nat × Nat)) (lo hi : Nat) : Bool := poison.any fun r => r.1 < hi && lo < r.2

/-- One DATA flit of a packet: the 236 PAYLOAD bytes, SOP, EOP and PSN. -/
structure Cut where
  payload : List Byte
  sop : Bool
  eop : Bool
  psn : Bool
  deriving DecidableEq, Repr

/-- A packet cut into flits (04, R91, R88). -/
def Packet.cut (p : Packet) : List Cut :=
  let n := p.payload.length
  if n ≤ 212 then [⟨slice (p.hdr.bytes ++ p.payload) 0 236, true, true, poisonIn p.poison 0 n⟩]
  else
    let k := ceilDiv n 236
    ⟨slice p.hdr.bytes 0 236, true, false, false⟩ ::
      (List.range k).map fun i => ⟨slice p.payload (236 * i) 236, false, i + 1 == k, poisonIn p.poison (236 * i) (min n (236 * (i + 1)))⟩

/-- The flit header HDR of a DATA flit (04, R88). -/
def Cut.head (c : Cut) (vc : Nat) : Nat :=
  0x1000 + 0x800 + (vc % 8) * 256 + ofBool c.sop * 128 + ofBool c.eop * 64 + ofBool c.psn * 32

/-- The packet of a flit run: a run whose length does not fit LEN keeps all its bytes, and is malformed (05, R133). -/
def Partial.packet (p : Partial) : Packet :=
  let n := 32 * p.hdr.len
  ⟨p.hdr, if p.flits = flitsOfLen n then slice p.payload 0 n else p.payload, p.poison⟩

/-- The 256-byte layout of a flit with CTRL, CRC and FEC zero, as the Relay Port carries it (02, R42). -/
def Cut.relayFlit (c : Cut) (vc : Nat) : List Byte := toBytes 2 (c.head vc) ++ zeros 4 ++ slice c.payload 0 236 ++ zeros 14

/-- The bytes of a packet on the Stream Port, and the beats that SP_O_POISON marks (R132). -/
def Packet.streamBytes (p : Packet) : List Byte := p.hdr.bytes ++ p.payload

def Packet.poisonBeats (p : Packet) : List Nat :=
  (List.range p.beats).filter fun b => poisonIn p.poison (512 * b - 24) (min p.payload.length (512 * (b + 1) - 24))

/-- A packet from bytes: header in bytes 0 to 23, payload after it. -/
def packetOf (bs : List Byte) (poison : List (Nat × Nat)) : Packet := ⟨Hdr.ofBytes bs, bs.drop 24, poison⟩

/-- Sector i of a payload holds a poisoned byte. -/
def Packet.sectorPoison (p : Packet) (i : Nat) : Bool := poisonIn p.poison (64 * i) (64 * (i + 1))

/-! ### Responses (05, R131; 07, R187) -/

/-- The completion record of a synthesised OP_CPL: zero but for STATUS, QUEUE and DESC_ID. -/
def synthRecord (st queue desc : Nat) : List Byte :=
  toBytes 64 (desc % 65536 + (queue % 64) * 2 ^ 16 + (st % 256) * 2 ^ 24)

/-- The header of a response to a request (R131), with the fields that the type table copies (R130). -/
def respHdr (h : Hdr) (st : Nat) (epoch : Nat) : Hdr :=
  let t := respType h.type
  { hops := 0, aux := if t = tRdRsp || t = tOpCpl then h.aux else 0, status := st,
    addr := if t = tRdRsp || t = tWrCpl then h.addr else 0, msgCount := 1, msgId := h.msgId, part := h.part, tag := h.tag, ep := h.ep,
    src := h.dst, dst := h.src, synth := false, ou := false, len := 0, epoch := epoch, ord := false, last := true, tc := h.tc,
    type := t }

/-- A completion that Zalry generates in place of the destination (R122, R134, R144, R341). -/
def synthetic (h : Hdr) (desc st : Nat) (ou : Bool) (epoch : Nat) : Packet :=
  let r := { respHdr h st epoch with synth := true, ou := ou }
  if r.type = tOpCpl then ⟨{ r with len := 2 }, synthRecord st h.aux desc, []⟩ else ⟨r, [], []⟩

/-- Two packets belong to one message: SRC_FA, EP, TAG and MSG_ID (R146). -/
def sameIds (a b : Hdr) : Bool := a.src == b.src && a.ep == b.ep && a.tag == b.tag && a.msgId == b.msgId

/-- One message: the same TYPE too, where an ERR_CPL belongs to the response message of any type. -/
def sameMsg (a b : Hdr) : Bool :=
  sameIds a b && (a.type == b.type || (!isRequest a.type && !isRequest b.type && (a.type == tErrCpl || b.type == tErrCpl)))

/-- The response message that answers a request. -/
def answers (resp req : Hdr) : Bool :=
  !isRequest resp.type && resp.src == req.dst && resp.dst == req.src && resp.ep == req.ep && resp.tag == req.tag &&
    resp.msgId == req.msgId && (resp.type == respType req.type || resp.type == tErrCpl)

end Sys2Proof.Machine
end

