-- ==== Sys2Proof/Machine/Route.lean ====
section
/-! DEFINITION. The packet engine's own operations: egress queues and their depth (05, R143), routing (R141), responses that Zalry
forms and where they go (R131, R142, R147 to R149), and Zalry's own requests (R136, R137). -/

namespace Sys2Proof.Machine

/-! ### Egress queues -/

/-- Packets of a VC in a queue. -/
def ofVc (q : List QPkt) (vc : Nat) : List QPkt := q.filter fun x => x.pkt.hdr.tc == vc

/-- Flits queued for a VC, as R91 cuts packets. -/
def queuedFlits (q : List QPkt) (vc : Nat) : Nat := ((ofVc q vc).map fun x => x.pkt.flits).sum

/-- The queue of an egress. -/
def State.egressQueue (s : State) (e : Egress) : List QPkt :=
  match e with
  | .link => s.tx.queue
  | .relay => s.rl.egress
  | .stream => s.sp.egress

/-- The egress holds fewer credits for a VC than its head packet needs; XOFF on a link (R143). -/
def State.egressHeld (s : State) (e : Egress) (vc : Nat) : Bool :=
  match e with
  | .link => s.tx.xoffSeen.testBit vc
  | .relay => match ofVc s.rl.egress vc with
    | [] => false
    | x :: _ => s.rl.credits.getD vc 0 < x.pkt.flits
  | .stream => match ofVc s.sp.egress vc with
    | [] => false
    | x :: _ => s.sp.egCredits.getD vc 0 < x.pkt.beats

/-- The depth of an egress for a VC (R143). -/
def State.depth (s : State) (e : Egress) (vc : Nat) : Nat :=
  queuedFlits (s.egressQueue e) vc + (if s.egressHeld e vc then 4096 else 0)

/-- A packet of a response message has left the Stream Port, or been discarded there: its entry closes when all have (R147, R148). -/
def State.forwardedPkt (s : State) (h : Hdr) : State :=
  match s.pk.msgs.find? fun m => sameMsg m.hdr h with
  | some m =>
    if isRequest h.type || h.msgCount = 1 then s
    else
      let n := m.forwarded + 1
      let l := if m.complete && h.msgCount ≤ n then s.pk.msgs.filter fun x => !sameMsg x.hdr h
               else s.pk.msgs.map fun x => if sameMsg x.hdr h then ({ m with forwarded := n } : Msg) else x
      { s with pk := { s.pk with msgs := l } }
  | none => s

/-- The port counter block of an egress (06, R177), and the index of its queue samples (R176). -/
def portObj : Egress → Obj
  | .link => .tclPortLink
  | .relay => .tclPortRelay
  | .stream => .tclPortStream

def egressIndex : Egress → Nat
  | .link => 0
  | .relay => 1
  | .stream => 2

/-- The unit of an egress's block: beats on the Stream Port, flits elsewhere. -/
def Packet.units (p : Packet) (e : Egress) : Nat :=
  match e with
  | .stream => p.beats
  | _ => p.flits

/-- Depth of a VC in an egress's block (R177). -/
def State.depthUnits (s : State) (e : Egress) (vc : Nat) : Nat := ((ofVc (s.egressQueue e) vc).map fun x => x.pkt.units e).sum

/-- DEPTH_PEAK after a packet has joined the queue. -/
def State.notePeak (s : State) (e : Egress) (vc : Nat) : State :=
  s.setEntry (portObj e) (12 + vc) (max (s.entry (portObj e) (12 + vc)) (s.depthUnits e vc))

/-- A packet queued at an egress. A Stream Port that is down discards it (02, R21). -/
def State.enqueue (s : State) (e : Egress) (port : Nat) (p : Packet) : State :=
  let q : QPkt := ⟨s.pk.nextId, p, s.aon.lclk, port⟩
  let s := { s with pk := { s.pk with nextId := s.pk.nextId + 1 } }
  match e with
  | .link => ({ s with tx := { s.tx with queue := s.tx.queue ++ [q] } }).notePeak .link p.hdr.tc
  | .relay => ({ s with rl := { s.rl with egress := s.rl.egress ++ [q] } }).notePeak .relay p.hdr.tc
  | .stream => if s.sp.up then ({ s with sp := { s.sp with egress := s.sp.egress ++ [q] } }).notePeak .stream p.hdr.tc else (s.forwardedPkt p.hdr).count .pktSportDrops 1

/-! ### Routing (05, R141, R143) -/

/-- Where a packet goes. -/
inductive Hop where
  | here
  | out (e : Egress) (port : Nat)
  | none
  deriving DecidableEq, Repr

/-- A candidate's egress, if it names one and it is up. -/
def State.candidate (s : State) (c : Nat) : Option (Egress × Nat) :=
  match field c 7 6 with
  | 1 => if s.linkUp then some (.link, 0) else none
  | 2 => if s.linkCore && s.rl.siblings.testBit (field c 5 0) then some (.relay, field c 5 0) else none
  | 3 => if s.sp.up then some (.stream, 0) else none
  | _ => none

/-- The choice of R143. -/
def State.choose (s : State) (h : Hdr) : Hop :=
  let e := s.entry (if h.epoch = 0 then .pktRouteA else .pktRouteB) (field h.dst 11 6)
  if field e 7 6 = 0 then .none
  else
    let c0 := s.candidate (field e 7 0)
    let c1 := s.candidate (field e 15 8)
    if h.ord || isDl h.tc then
      match c0 with
      | some c => .out c.1 c.2
      | none => .none
    else
      match c0, c1 with
      | some a, some b =>
        if s.depth b.1 h.tc + s.obj .pktAdaptBias < s.depth a.1 h.tc then .out b.1 b.2 else .out a.1 a.2
      | some a, none => .out a.1 a.2
      | none, some b => .out b.1 b.2
      | none, none => .none

/-- R141. -/
def State.route (s : State) (h : Hdr) : Hop :=
  if h.dst = s.fa then .here
  else if field h.dst 11 6 = field s.fa 11 6 then .out .relay (field h.dst 5 0)
  else s.choose h

/-- The route epoch that entering packets are stamped with (R150). -/
def State.epochNow (s : State) : Nat := s.obj .pktRouteActive % 2

/-! ### The message table (05, R147) -/

/-- An entry that counts in PKT_MSG_OPEN: a message of more than one packet that has not completed, or that waits for its Stream
Port egress. -/
def Msg.open (m : Msg) : Bool := m.hdr.msgCount > 1 && (!m.complete || !isRequest m.hdr.type)

def State.msgOpen (s : State) : Nat := (s.pk.msgs.filter Msg.open).length

/-- An entry is free for a class: 1,024 of the 8,192 are reserved for TC 1 and TC 2. -/
def State.msgFree (s : State) (tc : Nat) : Bool :=
  let dl := (s.pk.msgs.filter fun m => m.open && isDl m.hdr.tc).length
  let n := s.msgOpen
  if isDl tc then n < 8192 else n - dl + (dl - 1024) < 7168

def State.findMsg (s : State) (h : Hdr) : Option Msg := s.pk.msgs.find? fun m => sameMsg m.hdr h

def State.setMsg (s : State) (m : Msg) : State :=
  { s with pk := { s.pk with msgs := s.pk.msgs.map fun x => if sameMsg x.hdr m.hdr then m else x } }

def State.dropMsg (s : State) (h : Hdr) : State :=
  { s with pk := { s.pk with msgs := s.pk.msgs.filter fun x => !sameMsg x.hdr h } }

/-- The entry that a message's first packet opens. -/
def newMsg (h : Hdr) : Msg := ⟨h, 0, 0, false, false, stOk, false, h.addr, 0, false, false⟩

/-- The message of an arriving packet has been closed (R149). -/
def State.isClosed (s : State) (h : Hdr) : Bool := s.pk.closed.any fun c => sameMsg c h

/-- A message remembered as closed, until its EP and TAG come with another MSG_ID (R136). -/
def State.close (s : State) (h : Hdr) : State :=
  { s with pk := { s.pk with closed := h :: s.pk.closed.filter fun c => !sameMsg c h } }

/-- Closed messages whose EP and TAG pair a packet uses with another MSG_ID are forgotten. -/
def State.reuse (s : State) (h : Hdr) : State :=
  { s with pk := { s.pk with closed := s.pk.closed.filter fun c =>
      !(c.src == h.src && c.ep == h.ep && c.tag == h.tag && isRequest c.type == isRequest h.type && c.msgId != h.msgId) } }

/-- A held LAST packet of a message discarded (R149). -/
def State.dropHeld (s : State) (h : Hdr) : State :=
  { s with pk := { s.pk with hold := s.pk.hold.map fun x =>
      match x with
      | some q => if sameMsg q.pkt.hdr h then none else some q
      | none => none } }

/-- An open ordered request closes when its response message completes (R154). -/
def State.closeOrdered (s : State) (resp : Hdr) : State :=
  { s with pk := { s.pk with ordered := s.pk.ordered.filter fun r => !answers resp r } }

/-! ### Zalry's own requests (05, R136, R137) -/

def OwnUse.isAccess : OwnUse → Bool
  | .access _ => true
  | _ => false

def OwnUse.viaStream : OwnUse → Bool
  | .access _ => true
  | .spillWrite _ => true
  | .spillRead _ => true
  | _ => false

/-- The lowest free tag of a use's range. -/
def State.freeTag (s : State) (u : OwnUse) : Option Nat :=
  let lo := if u.isAccess then 0x100 else 0
  let n := if u.isAccess then 0xF00 else 0x100
  ((List.range n).find? fun i => !(s.pk.own.any fun r => r.tag == lo + i)).map (lo + ·)

/-- Its result goes to the user of an own request: an operand access records it, the dailies producer write clears its flag, and
spill and event results wait to be taken. -/
def State.ownResult (s : State) (u : OwnUse) (status : Nat) (ou : Bool) (data : List Byte) : State :=
  match u with
  | .access id =>
    { s with arr := { s.arr with accesses := s.arr.accesses.map fun a => if a.id == id then { a with done := some (status, ou, data) } else a } }
  | .discard => s
  | .pstateWrite => { s with mgt := { s.mgt with pstateBusy := false } }
  | _ => { s with pk := { s.pk with done := s.pk.done ++ [⟨u, status, data⟩] } }

/-- An own request completes. -/
def State.ownComplete (s : State) (r : OwnReq) (status : Nat) (ou : Bool) (data : List Byte) : State :=
  ({ s with pk := { s.pk with own := s.pk.own.filter fun x => x.tag != r.tag } }).ownResult r.use status ou data

/-- A response with EP = PKT_OWN_EP. -/
def State.ownResponse (s : State) (p : Packet) : State :=
  match s.pk.own.find? fun r => r.tag == p.hdr.tag && r.hdr.msgId == p.hdr.msgId with
  | some r => s.ownComplete r p.hdr.status p.hdr.ou p.payload
  | none => s.count .pktLateCpl 1

/-! ### Responses -/

/-- A response message that an H-side instance delivers through its Stream Port (R147 to R149). The packet is known to find room
in the message table and the hold store. -/
def State.deliver (s : State) (p : Packet) : State :=
  let h := p.hdr
  let s := s.reuse h
  if s.isClosed h then s.count .pktLateCpl 1
  else if h.synth || h.type == tErrCpl then
    -- R149: it closes the message
    let s := (((s.dropHeld h).dropMsg h).close h).closeOrdered h
    s.enqueue .stream 0 { p with hdr := { h with last := true } }
  else if h.msgCount = 1 then (s.closeOrdered h).enqueue .stream 0 p
  else
    let m := (s.findMsg h).getD (newMsg h)
    if m.hdr.msgCount != h.msgCount || m.hdr.tc != h.tc || m.hdr.ord != h.ord || (h.last && m.lastSeen) then s.count .pktMalformed 1
    else
      let s := if (s.findMsg h).isSome then s else { s with pk := { s.pk with msgs := s.pk.msgs ++ [m] } }
      let full := m.arrived + 1 ≥ h.msgCount
      let s := s.setMsg { m with arrived := m.arrived + 1, lastSeen := m.lastSeen || h.last, complete := full }
      let s := s.whenOk full fun t => t.closeOrdered h
      if h.last && m.forwarded < h.msgCount - 1 then
        match (List.range 32).find? fun i => (s.pk.hold.getD i none).isNone with
        | some i =>
          { s.count .pktHoldCount 1 with pk := { s.pk with
              hold := s.pk.hold.set i (some ⟨s.pk.nextId, p, s.aon.lclk, 0⟩), nextId := s.pk.nextId + 1 } }
        | none => s
      else s.enqueue .stream 0 p

/-- A response that terminates here (R142). -/
def State.respHere (s : State) (p : Packet) : State :=
  if p.hdr.ep = s.obj .pktOwnEp then s.ownResponse p
  else if s.hSide then s.deliver p
  else s.count .pktNoroute 1

/-- A response on its way: its route, its discard where it has no egress (R124) or has run out of hops (R144). -/
def State.respond (s : State) (p : Packet) : State :=
  match s.route p.hdr with
  | .here => s.respHere p
  | .none => s.count .lnkDownDrops 1
  | .out .stream _ => s.enqueue .stream 0 p
  | .out e port =>
    if p.hdr.hops = 15 then s.count .pktHopDrops 1
    else s.enqueue e port { p with hdr := { p.hdr with hops := p.hdr.hops + 1 } }

/-- A response that this instance originates: none while it has no address (R140). -/
def State.originate (s : State) (p : Packet) : State :=
  if s.fa = 0xFFF || s.fenced then s.whenOk s.fenced fun t => t.count .redFenceDrops 1
  else s.respond { p with hdr := { p.hdr with epoch := s.epochNow } }

/-- The FENCED answer of R341, which a fenced instance does send. -/
def State.answerFenced (s : State) (h : Hdr) (desc : Nat) (ou : Bool) : State :=
  (s.count .redFenceAnswered 1).whenOk (s.fa != 0xFFF) fun t => t.respond (synthetic h desc stFenced ou s.epochNow)

/-- A request answered in place of its destination (R134, R144, R167, R83, R122). A request of this instance's own hands its status
to the user. -/
def State.answer (s : State) (h : Hdr) (desc st : Nat) (ou : Bool) : State :=
  if s.fenced then s.answerFenced h desc ou else s.originate (synthetic h desc st ou s.epochNow)

/-! ### Requests that leave -/

/-- A request sent to an egress by R141, with R124, R144 and R83. -/
def State.forward (s : State) (p : Packet) (hop : Hop) : State :=
  match hop with
  | .here => s
  | .none => (s.count .pktNoroute 1).answer p.hdr p.descId stLinkDown false
  | .out .stream _ => s.enqueue .stream 0 p
  | .out e port =>
    if p.hdr.hops = 15 then (s.count .pktHopDrops 1).answer p.hdr p.descId stLinkDown false
    else if e = .link && isDl p.hdr.tc && !s.locked then s.answer p.hdr p.descId stRefused false
    else s.enqueue e port { p with hdr := { p.hdr with hops := p.hdr.hops + 1 } }

/-- An own request started with a tag: MSG_ID, epoch and endpoint stamped (R136, R150). -/
def State.startOwn (s : State) (u : OwnUse) (p : Packet) (tag : Nat) : State :=
  let h := { p.hdr with tag := tag, msgId := s.pk.nextMsgId % 65536, ep := s.obj .pktOwnEp, src := s.fa, epoch := s.epochNow }
  let r : OwnReq := ⟨tag, h, u, 0, stOk, false, []⟩
  let s := { s with pk := { s.pk with own := s.pk.own ++ [r], nextMsgId := (s.pk.nextMsgId + 1) % 65536 } }
  -- an H-side instance sends its spill records and operand accesses out of its Stream Port (04, R111; 07, R199)
  if s.hSide && u.viaStream then s.forward { p with hdr := h } (if s.sp.up then .out .stream 0 else .none)
  else s.forward { p with hdr := h } (s.route h)

/-- An own request issued, or kept until a tag of its range is free; none is originated without an address (R140). -/
def State.issueOwn (s : State) (u : OwnUse) (p : Packet) : State :=
  let wait := { s with pk := { s.pk with ownWait := s.pk.ownWait ++ [(u, p)] } }
  -- a fenced instance sends none (12, R340)
  if s.fenced then s.ownResult u stFenced false []
  else if s.fa = 0xFFF || s.pk.ownWait.any fun w => w.1.isAccess == u.isAccess then wait
  else match s.freeTag u with
    | some t => s.startOwn u p t
    | none => wait

/-- The requests that wait, oldest first, while a tag of their range is free. -/
def State.wakeOwnGo : Nat → State → State
  | 0, s => s
  | n + 1, s =>
    match s.pk.ownWait.find? fun w => (s.freeTag w.1).isSome with
    | some w =>
      match s.freeTag w.1 with
      | some t =>
        let s := { s with pk := { s.pk with ownWait := s.pk.ownWait.erase w } }
        State.wakeOwnGo n (s.startOwn w.1 w.2 t)
      | none => s
    | none => s

def State.wakeOwn (s : State) : State := if s.fa = 0xFFF then s else State.wakeOwnGo s.pk.ownWait.length s

/-- A request of this instance's own: header fields that its user sets. -/
def ownHdr (type dst addr aux part tc len : Nat) : Hdr :=
  { Hdr.zero with type := type, dst := dst, addr := addr, aux := aux, part := part, tc := tc, len := len, msgCount := 1, last := true }

/-! ### Holders of packets (05, R151; views PKT_DRAIN_A and PKT_DRAIN_B) -/

/-- The headers of every packet that the instance holds, with the epoch counted. -/
def State.held (s : State) : List Hdr :=
  let q := fun (l : List QPkt) => l.map fun x => x.pkt.hdr
  let sent := ((s.tx.unacked.filterMap fun u => match u.id, u.hdr with
    | some i, some h => some (i, h)
    | _, _ => none).eraseDups.filter fun x => !(s.tx.queue.any fun y => y.id == x.1)).map (·.2)
  (s.sp.ingress.map fun x => x.pkt.hdr) ++ (s.rl.ingress.map fun x => x.pkt.hdr) ++ (s.rx.queue.map fun x => x.pkt.hdr) ++
    (match s.rx.part with
      | some p => [p.hdr]
      | none => []) ++
    q s.tx.queue ++ sent ++ q s.sp.egress ++ q (s.sp.sending.filterMap id) ++ q s.rl.egress ++ q (s.pk.hold.filterMap id)

/-- The drain counter of an epoch. -/
def State.drain (s : State) (e : Nat) : Nat :=
  (s.held.filter fun h => h.epoch == e).length + (s.rl.holds.filter fun h => h.1 == e).length

/-- The instance holds no packet and no open message (R140). -/
def State.idlePackets (s : State) : Bool := s.drain 0 == 0 && s.drain 1 == 0 && s.msgOpen == 0

end Sys2Proof.Machine
end

