-- ==== Sys2Proof/Machine/Flows.lean ====
section
/-! DEFINITION. Classes, token buckets, gate lists and deadline-flow records (06, R156 to R168). -/

namespace Sys2Proof.Machine

/-- The bucket of a VC's class: MGMT, DL, OPS, BULK (R156). -/
def classOf (vc : Nat) : Nat := if vc = 0 then 0 else if vc ≤ 2 then 1 else if vc ≤ 4 then 2 else 3

/-- The level of a bucket, in 1/256 flit. -/
def State.bucket (s : State) (c : Nat) : Int := toSigned 32 (s.entry .tclBucketLevel c)

def State.setBucket (s : State) (c : Nat) (v : Int) : State := s.setEntry .tclBucketLevel c (ofSigned 32 v)

/-- The ceiling of a bucket (R159). -/
def State.bucketCeiling (s : State) (c : Nat) : Int := (256 * s.entry .tclBucketBurst c : Nat)

/-- Every bucket full: at flit sync and after a commit that changes it (R159). -/
def State.fillBuckets (s : State) : State := (List.range 4).foldl (fun t c => t.setBucket c (t.bucketCeiling c)) s

/-- One LCLK's refill of the four buckets (R159). -/
def State.refill (s : State) : State :=
  (List.range 4).foldl (fun t c => t.setBucket c (min (t.bucketCeiling c) (t.bucket c + (t.entry .tclBucketRate c : Nat)))) s

/-- A packet of n flits conforms. -/
def State.conforms (s : State) (vc n : Nat) : Bool := decide (((256 * n : Nat) : Int) ≤ s.bucket (classOf vc))

/-! ### Flow records (R166) -/

def State.flow (s : State) (i : Nat) : Nat := s.entry .tclFlowTable i
def fEpLo (v : Nat) : Nat := field v 19 0
def fEpHi (v : Nat) : Nat := field v 39 20
def fDst (v : Nat) : Nat := field v 63 52
def fTc (v : Nat) : Nat := field v 65 64
def fKind (v : Nat) : Nat := field v 67 66
def fQueue (v : Nat) : Nat := field v 73 68
def fLq (v : Nat) : Nat := field v 87 80
def fLr (v : Nat) : Nat := field v 95 88
def fRate (v : Nat) : Nat := field v 111 96
def fN (v : Nat) : Nat := field v 127 112
def fDeadline (v : Nat) : Nat := field v 159 128
def fSectors (v : Nat) : Nat := field v 167 160

/-- The ceiling of a flow's bucket (R167). -/
def flowCeiling (v : Nat) : Int := (256 * fN v * fLq v : Nat)

/-- One LCLK's refill of the flow buckets (R167). -/
def State.refillFlows (s : State) : State :=
  { s with cls := { s.cls with flowBuckets := s.cls.flowBuckets.zipIdx.map fun x =>
      let v := s.flow x.2
      if v = 0 then x.1 else min (flowCeiling v) (x.1 + (fRate v : Nat)) } }

/-- The flow that a request belongs to: the lowest record with its TC, DST_FA and EP (R167). -/
def State.flowOf (s : State) (h : Hdr) : Option Nat :=
  (List.range 256).find? fun i =>
    let v := s.flow i
    v != 0 && fTc v == h.tc && fDst v == h.dst && fEpLo v ≤ h.ep && h.ep ≤ fEpHi v

/-- Sectors of a request packet. -/
def Packet.sectors (p : Packet) : Nat := if p.hdr.type = tRdReq then p.hdr.aux else p.payload.length / 64

/-- A request passes the police of R167: the flow whose bucket it draws on. -/
def State.police (s : State) (p : Packet) : Option Nat :=
  match s.flowOf p.hdr with
  | none => none
  | some i =>
    let v := s.flow i
    let tooLong := fLq v < p.flits || (fKind v != 2 && fSectors v < p.sectors)
    if s.entry .tclFlowState i = 2 && !tooLong && decide (((256 * p.flits : Nat) : Int) ≤ s.cls.flowBuckets.getD i 0) then some i else none

def State.chargeFlow (s : State) (i n : Nat) : State :=
  { s with cls := { s.cls with flowBuckets := s.cls.flowBuckets.set i (s.cls.flowBuckets.getD i 0 - (256 * n : Nat)) } }

/-! ### Gate lists (R161 to R165) -/

def gateObj (vc : Nat) : Obj := if vc = 1 then .tclGateVc1 else .tclGateVc2

def State.gateBase (s : State) (vc : Nat) : Nat := field (s.entry (gateObj vc) 0) 47 0
def State.gatePeriod (s : State) (vc : Nat) : Nat := s.entry (gateObj vc) 1
def State.gateCount (s : State) (vc : Nat) : Nat := s.entry (gateObj vc) 2

/-- The windows of a gate list. -/
def State.gateWindows (s : State) (vc : Nat) : List (Nat × Nat) :=
  (List.range (min 16 (s.gateCount vc))).map fun i => (s.entry (gateObj vc) (3 + 2 * i), s.entry (gateObj vc) (4 + 2 * i))

def State.gate (s : State) (vc : Nat) : Gate := s.cls.gates.getD (vc - 1) ⟨false, false, 0⟩

def State.setGate (s : State) (vc : Nat) (g : Gate) : State := { s with cls := { s.cls with gates := s.cls.gates.set (vc - 1) g } }

/-- TCL_GATE_STATE as the gates stand. -/
def State.showGates (s : State) : State :=
  let g1 := s.gate 1
  let g2 := s.gate 2
  s.setObj .tclGateState (ofBool g1.active + 2 * ofBool g1.waiting + 4 * ofBool g2.active + 8 * ofBool g2.waiting + 16 * ofBool (!s.locked))

/-- Flits per LCLK of the link egress (R67). -/
def State.txF (s : State) : Nat := flitsPer (s.obj .phyTxWidth)

/-- The gate list of a VC lets a packet of n flits start (R164). Lists do not run on an unlocked link (R165). -/
def State.gateOpen (s : State) (vc n : Nat) : Bool :=
  if (vc != 1 && vc != 2) || s.gateCount vc = 0 || !s.locked then true
  else
    let g := s.gate vc
    g.active && (s.gateWindows vc).any fun w => w.1 ≤ g.phase && g.phase < w.2 && g.phase + ceilDiv n s.txF ≤ w.2

/-- A gate list starts by R162 at the present LCC. -/
def State.startGate (s : State) (vc : Nat) : State :=
  if s.gateCount vc = 0 || !s.locked then (s.setGate vc ⟨false, false, 0⟩).showGates
  else
    let base := s.gateBase vc
    let now := s.lat.lcc
    let p := s.gatePeriod vc
    let late := base < now
    let k := if late && p != 0 then (now - base) / p + 1 else 0
    let s := (s.setEntry .tclGateStart (vc - 1) (base + k * p)).setGate vc ⟨base + k * p = now, base + k * p != now, 0⟩
    let s := if late then
        (s.setEntry .tclGateSlips (vc - 1) k).raise 0x50 1 (some .tclGateSlips) ([b8 vc, 0, 0, 0] ++ toBytes 4 k)
      else s
    s.showGates

/-- Both lists start again from their BASE: a new lock (R165). -/
def State.startGates (s : State) : State := (s.startGate 1).startGate 2

/-- Both lists stop: the link is unlocked (R83, R165). -/
def State.stopGates (s : State) : State :=
  ((s.setGate 1 ⟨false, false, 0⟩).setGate 2 ⟨false, false, 0⟩).showGates

/-- The flows that wait for a gate are ADMITTED once no list on the home's egress is before its start (R168). -/
def State.settlePending (s : State) : State :=
  if (s.gate 1).waiting || (s.gate 2).waiting then s
  else (List.range 256).foldl (fun t i => if t.entry .tclFlowState i = 1 then t.setEntry .tclFlowState i 2 else t) s

/-- The list of a VC reaches its start time (R162). -/
def State.gateStarts (s : State) (vc : Nat) : State :=
  if (s.gate vc).waiting then ((s.setGate vc ⟨true, false, 0⟩).showGates).settlePending else s

/-- One LCLK of a gate list: the phase counts and wraps; before the start time, the LCC is compared (R162, R165). -/
def State.gateTick (s : State) (vc : Nat) : State :=
  let g := s.gate vc
  if g.active then s.setGate vc { g with phase := if g.phase + 1 ≥ s.gatePeriod vc then 0 else g.phase + 1 }
  else if g.waiting && s.lat.lcc = s.entry .tclGateStart (vc - 1) % 2 ^ 48 then s.gateStarts vc
  else s

/-- GATE_START: the list of VC1 or VC2 reaches its start time. -/
def execGateStart (vc : Fin 8) (s : State) : Host.Outcome State Fault Refusal :=
  s.run fun s => s.whenOk ((vc.val = 1 || vc.val = 2) && s.locked) fun s => s.gateStarts vc

end Sys2Proof.Machine
end

