-- ==== Sys2Proof/Machine/Admission.lean ====
section
/-! DEFINITION. Deadline admission (06, R169 to R175; 07, R198): hop terms, the transit register, the checks of R171, the walk of a
commit, and withdrawal. -/

namespace Sys2Proof.Machine

/-! ### The hop of a flow at this instance -/

/-- The far instance's slate (05, R138): its SIDE and its FA. -/
def State.farSlate (s : State) : Nat := ofBytes ((s.entries .pktFarSlate).map b8)
def State.farSide (s : State) : Nat := field s.farSlate 79 72
def State.farFa (s : State) : Nat := field s.farSlate 107 96

/-- A hub-to-stack link's H-side end (04, R123). -/
def State.keepsRecords (s : State) : Bool := s.hSide && s.farSide == 1

/-- Flits of a flow's longest packet in the direction of a query. -/
def queryFlits (q : HopQuery) : Nat := if q.response then q.lr else q.lq

/-- Where a flow leaves this instance: candidate 0 of the active table (R169, R143); stream stands for its end here. -/
def State.flowHop (s : State) (q : HopQuery) : Option (Egress × Nat) :=
  let dst := if q.response then q.home else q.dst
  if dst = s.fa then some (.stream, 0)
  else if field dst 11 6 = field s.fa 11 6 then some (.relay, field dst 5 0)
  else s.candidate (field (s.entry (if s.epochNow = 0 then .pktRouteA else .pktRouteB) (field dst 11 6)) 7 0)

def State.nextFa (s : State) (e : Egress) (port : Nat) : Nat :=
  match e with
  | .link => s.farFa
  | .relay => field s.fa 11 6 * 64 + port
  | .stream => s.fa

/-- The same flow in the same direction. -/
def sameFlow (a b : HopQuery) : Bool := a.home == b.home && a.index == b.index && a.response == b.response

/-- Registered flows and candidates but the flow itself, each once. -/
def State.others (s : State) (q : HopQuery) : List Transit :=
  (s.cls.asked ++ s.cls.register.filter fun t => !(s.cls.asked.any fun a => sameFlow a.q t.q)).filter fun t => !sameFlow t.q q

/-- Flits of other flows that go before a flow on an egress: same egress, VC no higher (sum_c). -/
def State.ahead (s : State) (q : HopQuery) (e : Egress) : Nat :=
  (((s.others q).filter fun t => t.egress == e && t.q.tc ≤ q.tc).map fun t => t.q.n * queryFlits t.q).sum

/-- gate_wait in LCLK (R170). -/
def State.gateWait (s : State) (vc : Nat) : Nat :=
  if s.gateCount vc = 0 then 0
  else
    let w := s.gateWindows vc
    let p := s.gatePeriod vc
    let prev := (w.getLast?.map fun x => x.2).getD 0
    let gaps := (w.zip (((0, 0) :: w).take w.length)).zipIdx.map fun x =>
      if x.2 = 0 then x.1.1.1 + p - prev else x.1.1.1 - x.1.2.2
    gaps.foldl max 0 + ceilDiv 36 s.txF

/-- Serialisation of a flow on the link egress, in LCLK: its own and competing flits. -/
def State.linkSerial (s : State) (q : HopQuery) : Nat := ceilDiv (q.n * queryFlits q + s.ahead q .link) s.txF

/-- hop_time of R170 at an LCLK period, in ps. -/
def State.hopTime (s : State) (q : HopQuery) (e : Egress) (lclk : Nat) : Nat :=
  2 * lclk + match e with
    | .link => lclk * (s.linkSerial q + ceilDiv 36 s.txF + s.gateWait q.tc + s.obj .phyLatTarget)
    | .relay => lclk * (ceilDiv (q.n * queryFlits q + s.ahead q .relay) 2 + 18) + lclk * s.obj .tclRelayTransit + 6 * lclk
    | .stream => 0

/-- Sectors of the other READ and WRITE flows to this stack (sum_s). -/
def State.otherSectors (s : State) (q : HopQuery) : Nat :=
  (((s.others q).filter fun t => t.egress == .stream && !t.q.response && t.q.kind != 2).map fun t => t.q.n * t.q.sectors).sum

/-- dest_time of R170. -/
def State.destTime (s : State) (q : HopQuery) (lclk : Nat) : Nat :=
  if q.kind = 2 then s.entry .arrQueueWcet q.queue + 2 * lclk
  else s.stackLat + s.sclkPs (ceilDiv (s.otherSectors q) 32) + s.obj .tclStackAccess + s.stackLat + 4 * lclk

/-- The term of a flow at this instance. -/
def State.flowTerm (s : State) (q : HopQuery) (e : Egress) (lclk : Nat) : Nat :=
  match e with
  | .stream => if q.response then 0 else s.destTime q lclk
  | e => s.hopTime q e lclk

/-- The usable LCLK of a gate list's windows (R171). -/
def State.usable (s : State) (vc : Nat) : List Nat := (s.gateWindows vc).map fun w => w.2 - w.1 - ceilDiv 36 s.txF

/-- The checks that an instance on the path makes, in code order: the first that fails, or 0 (R171). -/
def State.hopCheck (s : State) (q : HopQuery) (hop : Option (Egress × Nat)) : Nat :=
  match hop with
  | none => 2
  | some (.stream, _) =>
    if q.response then 0
    else if q.kind != 2 && s.hSide then 2
    else if q.kind = 2 && (field (s.entry .arrQueueCfg q.queue) 2 0 != q.tc || field (s.entry .arrQueueCfg q.queue) 74 64 = 0) then 4
    else if s.cls.register.length ≥ 1024 then 9 else 0
  | some (.relay, _) => if s.cls.register.length ≥ 1024 then 9 else 0
  | some (.link, _) =>
    let o := (s.others q).filter fun t => t.egress == .link
    let rates := (o.map fun t => t.q.rate).sum + q.rate
    let vcRates := ((o.filter fun t => t.q.tc == q.tc).map fun t => t.q.rate).sum + q.rate
    let gated := s.gateCount q.tc != 0
    if !s.locked then 3
    else if s.entry .tclBucketRate 1 < rates || (gated && 256 * s.txF * (s.usable q.tc).sum < vcRates * s.gatePeriod q.tc) then 5
    else if s.entry .tclBucketBurst 1 < (o.map fun t => t.q.n * queryFlits t.q).sum + q.n * queryFlits q then 6
    else if gated && (s.usable q.tc).any (fun u => u < s.linkSerial q) then 7
    else if s.keepsRecords && !q.response && 2048 < ((o.filter fun t => !t.q.response).map fun t => t.q.n).sum + q.n then 8
    else if s.cls.register.length ≥ 1024 then 9 else 0

/-- By how much a new flow raises the term of each flow that is registered here (R169 step 3). -/
def State.risesOf (s : State) (q : HopQuery) (e : Egress) : List (Transit × Nat) :=
  let l := (s.cls.asked.filter fun (t : Transit) => !sameFlow t.q q) ++ [⟨q, 0, e, 0⟩]
  let with' : State := { s with cls := { s.cls with asked := l } }
  ((s.others q).map fun t => (t, with'.flowTerm t.q t.egress s.lclk - s.flowTerm t.q t.egress s.lclk)).filter fun x => x.2 != 0

/-- This instance's answer to a query: its term, its first failing check (0x0A where a registered flow's slack is too small), and the
rises. -/
def State.hopAnswer (s : State) (q : HopQuery) : HopAnswer :=
  let hop := s.flowHop q
  let e := (hop.map (·.1)).getD .stream
  let rises := if hop.isSome then s.risesOf q e else []
  let code := s.hopCheck q hop
  -- the slack of a flow of the same home, or of a walk that is not decided, is its home's to check
  let short := rises.filter fun x => x.1.q.home != q.home && !(s.cls.asked.any fun a => sameFlow a.q x.1.q) && x.1.slack < x.2
  let listed := if code = 0 && !short.isEmpty then short else rises
  { index := q.index, response := q.response, fa := s.fa, next := (hop.map fun h => s.nextFa h.1 h.2).getD 0xFFF,
    ps := if code = 2 then 0 else s.flowTerm q e s.lclk, check := if code = 0 && !short.isEmpty then 0x0A else code,
    rises := listed.map fun x => (x.1.q.home, x.1.q.index, x.2) }

/-- A candidate remembered until its walk is decided; a walk's first question forgets the walk before it. -/
def State.remember (s : State) (q : HopQuery) : State :=
  match s.flowHop q with
  | none => s
  | some (e, _) =>
    let later := s.cls.asked.filter fun (t : Transit) => !(t.q.home == q.home && (t.q.index > q.index || sameFlow t.q q))
    { s with cls := { s.cls with asked := later ++ [⟨q, 0, e, s.flowTerm q e s.lclk⟩] } }

/-- ADMISSION_HOP_QUERY: another home's walk asks for this instance's terms. -/
def execAdmissionHopQuery (q : HopQuery) (s : State) : Host.Outcome State Fault Refusal :=
  s.run fun s => s.whenOk (s.linkCore && s.fa != 0xFFF && !s.fenced) fun s => (s.out (.hop (s.hopAnswer q))).remember q

/-! ### s_dl (07, R198) -/

/-- Σ of RATE · SECTORS / REQ_FLITS over the admitted READ and WRITE flows to this stack, as a fraction. -/
def rateSum : List HopQuery → Nat × Nat
  | [] => (0, 1)
  | q :: rest =>
    let (n, d) := rateSum rest
    if q.lq = 0 then (n, d) else (n * q.lq + q.rate * q.sectors * d, d * q.lq)

def State.dlSlots (s : State) : Nat :=
  let (n, d) := rateSum ((s.cls.register.filter fun t => t.egress == .stream && !t.q.response && t.q.kind != 2).map (·.q))
  -- f_L / f_S = (1 / lclk) · (10,240,000 / count): the SCLK period over the LCLK period
  let c := s.entry .pwrClkCount 2
  if n = 0 || c = 0 then 0 else ceilDiv (16 * n * 10240000) (256 * 32 * d * c * s.lclk)

/-- ARR_DL_STACK_SLOTS, and the size of the register. -/
def State.showRegister (s : State) : State :=
  (s.setObj .arrDlStackSlots (s.obj .arrStackShare - s.dlSlots)).setObj .tclRegisterUsed s.cls.register.length

/-! ### Registration and withdrawal (R169 step 4, R174) -/

def State.unregister (s : State) (home index : Nat) : State :=
  let l := s.cls.register.filter fun (t : Transit) => !(t.q.home == home && t.q.index == index)
  ({ s with cls := { s.cls with register := l } }).showRegister

/-- The query of a flow record. -/
def State.queryOf (s : State) (i : Nat) (response : Bool) : HopQuery :=
  let v := s.flow i
  { home := s.fa, index := i, tc := fTc v, n := fN v, lq := fLq v, lr := fLr v, rate := fRate v, sectors := fSectors v, kind := fKind v,
    queue := fQueue v, dst := fDst v, response := response }

/-- A flow of this home withdrawn: its registrations go, here and at every instance on its paths. -/
def State.withdrawOwn (s : State) (i cause : Nat) : State :=
  if s.entry .tclFlowState i = 1 || s.entry .tclFlowState i = 2 then
    let hops := ((s.cls.paths.find? fun p => p.1 == i).map (·.2)).getD []
    let s := (s.setEntry .tclFlowState i 3).unregister s.fa i
    let s := s.raise 0x51 1 (some .tclFlowState) (toBytes 2 i ++ toBytes 2 s.fa ++ [b8 cause])
    (s.outs (hops.map fun h => .tell h (.remove s.fa i)))
  else s

/-- A flow that crosses this instance withdrawn: its home is told. -/
def State.withdraw (s : State) (home index cause : Nat) : State :=
  if home = s.fa then s.withdrawOwn index cause
  else
    let s := s.unregister home index
    (s.raise 0x51 1 (some .tclRegisterUsed) (toBytes 2 index ++ toBytes 2 home ++ [b8 cause])).out (.tell home (.withdraw index cause))

/-- Every flow that crosses the link withdrawn (R83, R174). -/
def State.withdrawLink (s : State) (cause : Nat) : State :=
  let l := ((s.cls.register.filter fun t => t.egress == .link).map fun t => (t.q.home, t.q.index)).eraseDups
  l.foldl (fun t x => t.withdraw x.1 x.2 cause) s

/-- The slack of a flow of this home. -/
def State.slackOf (s : State) (i : Nat) : Nat := fDeadline (s.flow i) - s.entry .tclFlowBound i

/-- A flow's slack in the register. -/
def State.setSlack (s : State) (home index slack : Nat) : State :=
  let l := s.cls.register.map fun (t : Transit) => if t.q.home == home && t.q.index == index then { t with slack := slack } else t
  { s with cls := { s.cls with register := l } }

/-- A flow of this home loses slack: its bound rises, and its hops learn the new slack; below zero it is withdrawn. -/
def State.reduceSlack (s : State) (i ps : Nat) : State :=
  if s.slackOf i < ps then s.withdrawOwn i 2
  else
    let s := s.setEntry .tclFlowBound i (min 0xFFFFFFFF (s.entry .tclFlowBound i + ps))
    let slack := s.slackOf i
    let hops := ((s.cls.paths.find? fun p => p.1 == i).map (·.2)).getD []
    let s := s.setSlack s.fa i slack
    s.outs (hops.map fun h => .tell h (.slack s.fa i slack))

/-- TRANSIT_REGISTER_UPDATE: what another instance asks of this register, or of a flow of this home. -/
def State.transitUpdate (s : State) (u : TransitUpdate) : State :=
  match u with
  | .register q slack =>
    match s.flowHop q with
    | none => s
    | some (e, _) =>
      let keep := fun (t : Transit) => !sameFlow t.q q
      let term := s.flowTerm q e s.lclk
      let reg := s.cls.register.filter keep ++ [⟨q, slack, e, term⟩]
      let asked := s.cls.asked.filter keep
      ({ s with cls := { s.cls with register := reg, asked := asked } }).showRegister
  | .slack home index slack => s.setSlack home index slack
  | .remove home index =>
    -- an index of no record ends a walk that was refused
    if index ≥ 256 then
      let asked := s.cls.asked.filter fun (t : Transit) => t.q.home != home
      { s with cls := { s.cls with asked := asked } }
    else s.unregister home index
  | .withdraw index cause => s.withdrawOwn index cause
  | .reduce index ps => s.reduceSlack index ps

def execTransitRegisterUpdate (u : TransitUpdate) (s : State) : Host.Outcome State Fault Refusal :=
  s.run fun s => s.whenOk s.linkCore fun s => s.transitUpdate u

/-! ### Recomputation (R174, R175) -/

/-- The flows whose term has risen since it was answered. -/
def State.risen (s : State) (lclk : Nat) (l : List Transit) : List (Transit × Nat) :=
  (l.map fun t => (t, s.flowTerm t.q t.egress lclk - t.term)).filter fun x => x.2 != 0

/-- This instance's terms anew; each registered flow loses the increase, and is withdrawn below zero. -/
def State.recomputeFlows (s : State) : State :=
  let up := s.risen s.lclk s.cls.register
  let l := s.cls.register.map fun (t : Transit) => ({ t with term := s.flowTerm t.q t.egress s.lclk } : Transit)
  let s : State := { s with cls := { s.cls with register := l } }
  up.foldl (fun t x =>
    if x.1.slack < x.2 then t.withdraw x.1.q.home x.1.q.index 2
    else if x.1.q.home = t.fa then t.reduceSlack x.1.q.index x.2
    else t.out (.tell x.1.q.home (.reduce x.1.q.index x.2))) s

/-- FLOW_RECOMPUTE. -/
def execFlowRecompute (s : State) : Host.Outcome State Fault Refusal :=
  s.run fun s => s.whenOk s.linkCore fun s => s.recomputeFlows

/-- The flows that a rate code would withdraw. -/
def State.wouldWithdraw (s : State) (rate : Nat) : List Transit :=
  ((s.risen (lclkPs rate) (s.cls.register.filter fun t => t.egress == .link)).filter fun x => x.1.slack < x.2).map (·.1)

/-- The recheck of a rate code starts (TCL_RECHECK_RATE). -/
def State.startRecheck (s : State) (rate : Nat) : State :=
  ({ s with cls := { s.cls with recheck := some rate } }).setObj .tclRecheckResult 0

/-! ### The walk of a home instance (R169 to R171) -/

/-- The records that are not empty. -/
def State.flowsUsed (s : State) : List Nat := (List.range 256).filter fun i => s.flow i != 0

/-- FIELD of R171. -/
def State.flowFieldBad (s : State) (i : Nat) : Bool :=
  let v := s.flow i
  s.sSide || fTc v = 0 || fTc v = 3 || fKind v = 3 || !inRange 1 36 (fLq v) || !inRange 1 36 (fLr v) || !inRange 1 1024 (fRate v) ||
    !inRange 1 1024 (fN v) || (fKind v != 2 && !inRange 1 128 (fSectors v)) || fEpHi v < fEpLo v || fDeadline v = 0

/-- The answer of the instance at an FA: this instance's own, or one that was given. -/
def State.answerOf (s : State) (answers : List HopAnswer) (i : Nat) (response : Bool) (fa : Nat) : Option HopAnswer :=
  if fa = s.fa then some (s.hopAnswer (s.queryOf i response))
  else answers.find? fun a => a.index == i && a.response == response && a.fa == fa

/-- The answers along a path from an FA until the one that names itself as next, at most n; none where one is missing. -/
def State.walkPath (s : State) (answers : List HopAnswer) (i : Nat) (response : Bool) : Nat → Nat → Option (List HopAnswer)
  | 0, _ => none
  | n + 1, fa =>
    match s.answerOf answers i response fa with
    | none => none
    | some a =>
      if a.check != 0 || a.next = fa then some [a]
      else (s.walkPath answers i response n a.next).map (a :: ·)

/-- Beats of a packet of L flits (b(L) of R170). -/
def beatsOfFlits (l : Nat) : Nat := ceilDiv (236 * l) 512

/-- The last term of the bound: beats on the Stream Port, with those of the other flows whose responses leave there (sum_o). -/
def State.beatTerm (s : State) (i : Nat) : Nat :=
  let v := s.flow i
  let o := ((s.flowsUsed.filter fun j => j != i && s.entry .tclFlowState j != 3).map fun j => fN (s.flow j) * beatsOfFlits (fLr (s.flow j))).sum
  s.fclkPs (ceilDiv (fN v * beatsOfFlits (fLr v) + o) 2 + 17)

/-- The FA of the first answer with the largest term. -/
def largestTerm (fa ps : Nat) : List HopAnswer → Nat
  | [] => fa
  | a :: rest => if ps < a.ps then largestTerm a.fa a.ps rest else largestTerm fa ps rest

/-- The verdict on one flow. -/
structure Verdict where
  code : Nat
  fa : Nat
  bound : Nat
  existing : Option Nat
  hops : List HopAnswer
  deriving DecidableEq, Repr

def State.verdict (s : State) (answers : List HopAnswer) (i : Nat) : Verdict :=
  if s.flowFieldBad i then ⟨1, s.fa, 0, none, []⟩
  else
    let req := s.walkPath answers i false 16 s.fa
    let rsp := s.walkPath answers i true 16 (fDst (s.flow i))
    match req, rsp with
    | some r, some p =>
      let hops := r ++ p
      match (List.range 11).findSome? fun c => if c = 0 then none else (hops.find? fun a => a.check == c) with
      | some a => ⟨a.check, a.fa, 0, if a.check = 0x0A then a.rises.head?.map fun x => x.2.1 else none, hops⟩
      | none =>
        let bound := s.streamLat + (hops.map fun a => a.ps).sum + s.streamLat + s.beatTerm i
        if fDeadline (s.flow i) < bound then
          -- the instance that contributed the largest term
          ⟨0x0A, largestTerm s.fa 0 hops, bound, none, hops⟩
        else ⟨0, 0xFFF, bound, none, hops⟩
    | _, _ => ⟨2, 0xFFF, 0, none, []⟩

/-- TCL_ADMIT_RESULT of a failing verdict (R171). -/
def State.admitResult (s : State) (i : Nat) (v : Verdict) : Nat :=
  (match v.existing with
    | some j => j % 4096 + 0xF000
    | none => i) + v.code * 2 ^ 16 + (min v.bound 0xFFFFFFFF) * 2 ^ 32 + fDeadline (s.flow i) * 2 ^ 64 + v.fa * 2 ^ 96

/-- The questions of a walk: every flow in both directions. Another instance on a path answers each with its HopAnswer. -/
def State.askWalk (s : State) (flows : List Nat) : State :=
  s.outs ((flows.map fun i => [Out.ask (s.queryOf i false), Out.ask (s.queryOf i true)]).flatten)

/-- A flow admitted: its registrations on every hop, its bound, its state; the flows whose terms rose lose slack. -/
def State.admitFlow (s : State) (i : Nat) (v : Verdict) : State :=
  let slack := fDeadline (s.flow i) - v.bound
  let hops := ((v.hops.map fun a => a.fa).eraseDups).filter fun f => f != s.fa
  let gated := ((s.gate 1).waiting && fTc (s.flow i) = 1) || ((s.gate 2).waiting && fTc (s.flow i) = 2)
  let s := (s.setEntry .tclFlowBound i (min v.bound 0xFFFFFFFF)).setEntry .tclFlowState i (if gated then 1 else 2)
  let paths := (s.cls.paths.filter fun (p : Nat × List Nat) => p.1 != i) ++ [(i, hops)]
  let buckets := s.cls.flowBuckets.set i (flowCeiling (s.flow i))
  let s : State := { s with cls := { s.cls with paths := paths, flowBuckets := buckets } }
  let s := (s.transitUpdate (.register (s.queryOf i false) slack)).transitUpdate (.register (s.queryOf i true) slack)
  let s := v.hops.foldl (fun t a => if a.fa = t.fa then t else t.out (.tell a.fa (.register (t.queryOf i a.response) slack))) s
  v.hops.foldl (fun t a => a.rises.foldl (fun t x =>
      if x.1 = t.fa then (if x.2.1 < i then t.reduceSlack x.2.1 x.2.2 else t) else t.out (.tell x.1 (.reduce x.2.1 x.2.2))) t) s

/-- The walk of a route epoch (R174): flows that fail are withdrawn, the rest registered on their new paths. -/
def State.rewalk (s : State) (answers : List HopAnswer) (flows : List Nat) : State :=
  flows.foldl (fun t i =>
    if t.entry .tclFlowState i = 1 || t.entry .tclFlowState i = 2 then
      let v := t.verdict answers i
      if v.code = 0 then
        let old := ((t.cls.paths.find? fun p => p.1 == i).map (·.2)).getD []
        ((t.outs (old.map fun h => .tell h (.remove t.fa i))).unregister t.fa i).admitFlow i v
      else t.withdrawOwn i 3
    else t) s

/-- ADMISSION_HOP_TIMEOUT: a hop has not answered within 40 µs. The walk counts only this instance's own answers, so that a flow
with another instance on its path has NO_PATH (R169). -/
def execAdmissionHopTimeout (s : State) : Host.Outcome State Fault Refusal :=
  s.run fun s =>
    match s.cls.walk with
    | some w => { s with cls := { s.cls with walk := some { w with timedOut := true } } }
    | none => s

end Sys2Proof.Machine
end

