-- ==== Sys2Proof/Machine/Flit.lean ====
section
/-! DEFINITION. Flits (04, R87 to R97): building one with its CTRL, CRC-48 and FEC parity, decoding and classifying a received
one, the payloads of SPLICE (03, R69) and MARKER (03, R78), and the lanes of a flit byte (03, R57). -/

namespace Sys2Proof.Machine

/-! ### Building a flit -/

/-- Flit headers without a VC (R88). -/
def headIdle : Nat := 0
def headPrepare : Nat := 0x2800
def headCommit : Nat := 0x2000
def headMarker : Nat := 0x3000

/-- Bytes 0 to 241: HDR, CTRL and PAYLOAD (R87). -/
def flitBody (head ctrl : Nat) (payload : List Byte) : List Byte := toBytes 2 head ++ toBytes 4 ctrl ++ slice payload 0 236

/-- The CRC-48 of a flit body under a sequence number (R95). -/
def flitCrc (body : List Byte) (seq : Nat) : Nat := crc48 (toBytes 2 seq ++ body)

/-- Symbols i < 62 of codeword c of the 248 data bytes (R93). -/
def codeword (n : Nat) (bytes : List Byte) (c : Nat) : List Nat := (List.range n).map fun i => ((bytes[4 * i + c]?).getD 0).toNat

/-- FEC parity bytes 248 to 255 (R93). -/
def flitParity (data : List Byte) : List Byte :=
  let p := (List.range 4).map fun c => rsRemainder flitGen (codeword 62 data c)
  (p.map fun l => b8 (l.getD 0 0)) ++ p.map fun l => b8 (l.getD 1 0)

/-- A flit with its CRC and parity: seq is its number when its SQ bit is 1, and 0 otherwise (R95). -/
def mkFlit (head ctrl : Nat) (payload : List Byte) (seq : Nat) : List Byte :=
  let body := flitBody head ctrl payload
  let data := body ++ toBytes 6 (flitCrc body (if bit head 11 then seq else 0))
  data ++ flitParity data

/-! ### Decoding a flit -/

/-- A flit after FEC: its bytes, the byte positions corrected, and the uncorrectable codewords (R94). -/
structure FecOut where
  bytes : List Byte
  fixed : List Nat
  bad : Nat
  deriving DecidableEq, Repr

def fecStep (bs : List Byte) (o : FecOut) (c : Nat) : FecOut :=
  match flitDecodeWord (codeword 64 bs c) with
  | .clean => o
  | .fixed errs =>
    errs.foldl (fun o e =>
      let i := 4 * e.1 + c
      { o with bytes := o.bytes.set i (((o.bytes[i]?).getD 0) ^^^ b8 e.2), fixed := o.fixed ++ [i] }) o
  | .uncorrectable => { o with bad := o.bad + 1 }

/-- The four codewords of a received flit decoded. -/
def fecDecode (bs : List Byte) : FecOut := (List.range 4).foldl (fecStep bs) ⟨bs, [], 0⟩

def flitHead (bs : List Byte) : Nat := valAt bs 0 2
def flitCtrl (bs : List Byte) : Nat := valAt bs 2 4
def flitType (bs : List Byte) : Nat := field (flitHead bs) 15 12
def flitSq (bs : List Byte) : Bool := bit (flitHead bs) 11
def flitVc (bs : List Byte) : Nat := field (flitHead bs) 10 8
def flitPayload (bs : List Byte) : List Byte := slice bs 6 236

/-- A flit passes (R96): no codeword uncorrectable and its CRC matches, with S = E when SQ is 1. -/
def flitPasses (o : FecOut) (expect : Nat) : Bool :=
  o.bad == 0 && flitCrc (o.bytes.take 242) (if flitSq o.bytes then expect else 0) == valAt o.bytes 242 6

/-- How the receiver takes a flit that passes (R97), SPLICE and MARKER by their payload. -/
inductive FlitKind where
  | data | idle | prepare | cancel | commit | measure | ret | set | verify | verifyReturn | proto
  deriving DecidableEq, Repr

/-- PHASE 0x03 is CANCEL; a sequenced SPLICE with any other PHASE is an invalid PREPARE (R70). A MARKER of an unknown KIND is used
like IDLE. -/
def kindOf (bs : List Byte) : FlitKind :=
  let p := valAt (flitPayload bs) 0 1
  match flitType bs, flitSq bs with
  | 0, false => .idle
  | 1, true => .data
  | 2, true => if p = 3 then .cancel else .prepare
  | 2, false => if p = 2 then .commit else .proto
  | 3, false =>
    if p = 1 then .measure else if p = 2 then .ret else if p = 3 then .set else if p = 4 then .verify
    else if p = 5 then .verifyReturn else .idle
  | _, _ => .proto

/-! ### SPLICE and MARKER payloads -/

/-- WIDTH code of R69. -/
def widthCode (w : Nat) : Nat := w / 16 - 1

/-- A SPLICE payload (R69). -/
def splicePayload (phase gen width : Nat) (map : List Nat) : List Byte :=
  [b8 phase, b8 (gen % 16), b8 (widthCode width), 0] ++ (List.range 64).map fun l => b8 (map.getD l 0xFF)

def spliceMap (p : List Byte) : List Nat := (List.range 64).map fun l => valAt p (4 + l) 1
def spliceGen (p : List Byte) : Nat := valAt p 1 1 % 16
def spliceWidth (p : List Byte) : Nat := valAt p 2 1

/-- A MARKER payload (R78). -/
structure Marker where
  kind : Nat
  seq : Nat
  lcc : Nat
  padM : Nat
  padN : Nat
  target : Nat
  deriving DecidableEq, Repr

def Marker.payload (m : Marker) : List Byte :=
  [b8 m.kind, b8 m.seq] ++ toBytes 6 m.lcc ++ [b8 m.padM, b8 m.padN, b8 m.target]

def Marker.parse (p : List Byte) : Marker := ⟨valAt p 0 1, valAt p 1 1, valAt p 2 6, valAt p 8 1, valAt p 9 1, valAt p 10 1⟩

/-- The logical lane of byte b of a flit in slot q (R57, R93). -/
def laneOfByte (q b : Nat) : Nat := 16 * q + (b % 16 + 16 - b / 16 % 16) % 16

end Sys2Proof.Machine
end

