-- ==== Sys2Proof/Machine/Results.lean ====
section
/-! DEFINITION. The results of screen test (14, R375): entries of SCR_RESULTS, SCR_STATE, lanes recorded as failing (R370), and tests
that are abandoned (R371). -/

namespace Sys2Proof.Machine

/-- The entry of SCR_RESULTS of a unit; an analogue check has none. -/
def resultEntry : TestUnit → Option Nat
  | .cluster k => some k
  | .laneGroup g => some (8 + g)
  | .lane p => some (8 + p / 9)
  | .farTest g => some (8 + g)
  | .scratchUnit _ => some 16
  | .scratch => some 16
  | .storageBank _ _ => some 17
  | .storage => some 17
  | .secureStore => some 18
  | .analog _ => none

/-- Result codes. -/
def resPassed : Nat := 0
def resFailed : Nat := 1
def resNeverRun : Nat := 2
def resAbandoned : Nat := 3
def resSkipped : Nat := 4

/-- The failure map of an entry. -/
def State.resultMap (s : State) (e : Nat) : Nat := field (s.entry .scrResults e) 31 0

/-- A result at the end of a test. -/
def State.setResult (s : State) (e res map : Nat) : State :=
  s.setEntry .scrResults e (map % 2 ^ 32 + res * 2 ^ 32 + s.aon.rclk % 2 ^ 64 * 2 ^ 64)

/-- The lanes of a direction that screen test has recorded as failing: bits 0 to 8 of a group's map for TX, 9 to 17 for RX. -/
def State.screenLanes (s : State) (rx : Bool) : Nat :=
  (List.range 8).foldl (fun m g => m + field (s.resultMap (8 + g)) (if rx then 17 else 8) (if rx then 9 else 0) * 2 ^ (9 * g)) 0

/-- SCR_STATE. -/
def State.showScreen (s : State) : State :=
  let c := s.scr.running.find? fun r => match r.test with
    | .cluster _ => true
    | _ => false
  let l := s.scr.running.find? fun r => match r.test with
    | .lane _ => true
    | _ => false
  let k := match c.map (fun r => r.test) with
    | some (.cluster k) => k.val
    | _ => 0
  let p := match l.map (fun r => r.test) with
    | some (.lane p) => p.val
    | _ => 0
  s.setObj .scrState (k + ofBool c.isSome * 2 ^ 4 + p * 2 ^ 5 + ofBool l.isSome * 2 ^ 12 + ((c.map fun r => r.pace).getD 0) * 2 ^ 13 +
    ofBool s.scr.halted * 2 ^ 15 + ofBool (!s.scr.bootQueue.isEmpty) * 2 ^ 16)

/-- Tests abandoned: they end without a result of their unit's. -/
def State.abandonTests (s : State) (f : TestUnit → Bool) : State :=
  let gone := s.scr.running.filter fun r => f r.test
  if gone.isEmpty then s
  else
    let run := s.scr.running.filter fun r => !f r.test
    let s : State := { s with scr := { s.scr with running := run } }
    (gone.foldl (fun t r => match resultEntry r.test with
      | some e => t.setResult e resAbandoned (t.resultMap e)
      | none => t) s).showScreen

/-- A test of one lane. -/
def isLaneTest : TestUnit → Bool
  | .lane _ => true
  | _ => false

/-- The tests of single lanes in a mask. -/
def lanesIn (m : Nat) : TestUnit → Bool
  | .lane p => m.testBit p
  | _ => false

/-- Some running test is of a kind. -/
def State.tests (s : State) (f : TestUnit → Bool) : Bool := s.scr.running.any fun r => f r.test

end Sys2Proof.Machine
end

