-- ==== Sys2Proof/Machine/Crypto.lean ====
section
/-! DEFINITION. The standard algorithms that the spec names and does not restate (assumption 8): AES-256 (FIPS 197),
XTS of IEEE 1619 on a 64-byte data unit (R299), AES Key Wrap of NIST SP 800-38F (R316), SHA-384 of FIPS 180-4
(R315, R319), and the key check value of R315. -/

namespace Sys2Proof.Machine

/-! ### AES -/

/-- Multiplication by x modulo x^8 + x^4 + x^3 + x + 1. -/
def aesDouble (a : Nat) : Nat := if a.testBit 7 then (a <<< 1) ^^^ 0x11B else a <<< 1

def aesMulGo : Nat → Nat → Nat → Nat
  | 0, _, _ => 0
  | n + 1, a, b => (if b.testBit 0 then a else 0) ^^^ aesMulGo n (aesDouble a) (b >>> 1)

def aesMul (a b : Nat) : Nat := aesMulGo 8 a b

/-- a^254, the inverse in the AES field (0 for 0). -/
def aesInv (a : Nat) : Nat :=
  let a2 := aesMul a a
  let a3 := aesMul a2 a
  let a6 := aesMul a3 a3
  let a12 := aesMul a6 a6
  let a15 := aesMul a12 a3
  let a30 := aesMul a15 a15
  let a60 := aesMul a30 a30
  let a63 := aesMul a60 a3
  let a126 := aesMul a63 a63
  let a127 := aesMul a126 a
  aesMul a127 a127

/-- Rotation of a byte to the left. -/
def rotl8 (a n : Nat) : Nat := ((a <<< n) ||| (a >>> (8 - n))) % 256

/-- The AES substitution of one byte. -/
def aesSub (a : Nat) : Nat :=
  let b := aesInv a
  b ^^^ rotl8 b 1 ^^^ rotl8 b 2 ^^^ rotl8 b 3 ^^^ rotl8 b 4 ^^^ 0x63

/-- The inverse substitution. -/
def aesInvSub (a : Nat) : Nat := aesInv (rotl8 a 1 ^^^ rotl8 a 3 ^^^ rotl8 a 6 ^^^ 0x05)

def xorList (a b : List Nat) : List Nat := List.zipWith (fun x y => x ^^^ y) a b

/-- The 60 words of the AES-256 key schedule, newest first, from n words on. -/
def aesExpandGo : Nat → Nat → Nat → List (List Nat) → List (List Nat)
  | 0, _, _, ws => ws
  | n + 1, i, rc, ws =>
    let prev := ws.headD []
    let old := ws.getD 7 []
    if i % 8 = 0 then
      let t := (prev.drop 1 ++ prev.take 1).map aesSub
      let t := xorList t [rc, 0, 0, 0]
      aesExpandGo n (i + 1) (aesDouble rc) (xorList old t :: ws)
    else if i % 8 = 4 then aesExpandGo n (i + 1) rc (xorList old (prev.map aesSub) :: ws)
    else aesExpandGo n (i + 1) rc (xorList old prev :: ws)

def chunks4 : List Nat → List (List Nat)
  | a :: b :: c :: d :: rest => [a, b, c, d] :: chunks4 rest
  | _ => []

/-- The 15 round keys (16 bytes each) of a 32-byte key. -/
def aesRoundKeys (key : List Nat) : List (List Nat) :=
  let ws := (aesExpandGo 52 8 1 (chunks4 key).reverse).reverse
  (List.range 15).map fun r => ((ws.drop (4 * r)).take 4).flatten

def aesShiftRows (s : List Nat) : List Nat :=
  (List.range 16).map fun i => s.getD ((i + 4 * (i % 4)) % 16) 0

def aesInvShiftRows (s : List Nat) : List Nat :=
  (List.range 16).map fun i => s.getD ((i + 16 - 4 * (i % 4)) % 16) 0

def aesMixCol (c0 c1 c2 c3 : Nat) (s : List Nat) : List Nat :=
  (chunks4 s).flatMap fun col =>
    let a := col.getD 0 0
    let b := col.getD 1 0
    let c := col.getD 2 0
    let d := col.getD 3 0
    [aesMul c0 a ^^^ aesMul c1 b ^^^ aesMul c2 c ^^^ aesMul c3 d,
     aesMul c3 a ^^^ aesMul c0 b ^^^ aesMul c1 c ^^^ aesMul c2 d,
     aesMul c2 a ^^^ aesMul c3 b ^^^ aesMul c0 c ^^^ aesMul c1 d,
     aesMul c1 a ^^^ aesMul c2 b ^^^ aesMul c3 c ^^^ aesMul c0 d]

/-- AES-256 encryption of one 16-byte block under the round keys. -/
def aesEncrypt (rks : List (List Nat)) (blk : List Nat) : List Nat :=
  let s := xorList blk (rks.getD 0 [])
  let s := (List.range 13).foldl
    (fun s r => xorList (aesMixCol 2 3 1 1 (aesShiftRows (s.map aesSub))) (rks.getD (r + 1) [])) s
  xorList (aesShiftRows (s.map aesSub)) (rks.getD 14 [])

/-- AES-256 decryption of one 16-byte block under the round keys. -/
def aesDecrypt (rks : List (List Nat)) (blk : List Nat) : List Nat :=
  let s := xorList blk (rks.getD 14 [])
  let s := (List.range 13).foldl
    (fun s r => aesMixCol 14 11 13 9 (xorList ((aesInvShiftRows s).map aesInvSub) (rks.getD (13 - r) []))) s
  xorList ((aesInvShiftRows s).map aesInvSub) (rks.getD 0 [])

def natsOf (bs : List Byte) : List Nat := bs.map (·.toNat)
def bytesOf (ns : List Nat) : List Byte := ns.map (BitVec.ofNat 8 ·)

/-! ### XTS on a sector (R299) -/

/-- Multiplication of the tweak by α in GF(2^128), as IEEE 1619 orders the bytes (little-endian value). -/
def xtsDouble (t : Nat) : Nat :=
  let d := t <<< 1
  if t.testBit 127 then (d % 2 ^ 128) ^^^ 0x87 else d % 2 ^ 128

/-- Four blocks under a running tweak. -/
def xtsBlocks (f : List Nat → List Nat) : Nat → Nat → List Byte → List Byte
  | 0, _, _ => []
  | n + 1, t, bs =>
    let tw := natsOf (toBytes 16 t)
    bytesOf (xorList (f (xorList (natsOf (slice bs 0 16)) tw)) tw) ++ xtsBlocks f n (xtsDouble t) (bs.drop 16)

/-- The first tweak of a sector: its ADDR as a 128-bit little-endian value, encrypted under Key2 (R299). -/
def xtsTweak (key : List Byte) (addr : Nat) : Nat :=
  ofBytes (bytesOf (aesEncrypt (aesRoundKeys (natsOf (slice key 32 32))) (natsOf (toBytes 16 addr))))

/-- R299: a 64-byte sector encrypted under a 64-byte key (Key1 in bytes 0–31, Key2 in bytes 32–63). -/
def xtsEncrypt (key : List Byte) (addr : Nat) (plain : List Byte) : List Byte :=
  xtsBlocks (aesEncrypt (aesRoundKeys (natsOf (slice key 0 32)))) 4 (xtsTweak key addr) plain

/-- R299: the decryption of a sector. -/
def xtsDecrypt (key : List Byte) (addr : Nat) (cipher : List Byte) : List Byte :=
  xtsBlocks (aesDecrypt (aesRoundKeys (natsOf (slice key 0 32)))) 4 (xtsTweak key addr) cipher

/-! ### AES Key Wrap (R316) -/

/-- One unwrapping step of SP 800-38F: t counts down from 6n to 1; A and the registers R_1 … R_n. -/
def kwUnwrapGo (rks : List (List Nat)) (n : Nat) : Nat → List Byte → List (List Byte) → List Byte × List (List Byte)
  | 0, a, rs => (a, rs)
  | t + 1, a, rs =>
    let i := t % n
    let tb := (toBytes 8 (t + 1)).reverse
    let b := bytesOf (aesDecrypt rks (natsOf (List.zipWith (fun x y => x ^^^ y) (slice a 0 8) tb ++ rs.getD i [])))
    kwUnwrapGo rks n t (b.take 8) (rs.set i (b.drop 8))

/-- R316: unwrap 72 bytes under a 32-byte key-wrapping key; none when the integrity check fails. -/
def kwUnwrap (kek wrapped : List Byte) : Option (List Byte) :=
  let rs := chunks 8 (wrapped.drop 8)
  let r := kwUnwrapGo (aesRoundKeys (natsOf kek)) rs.length (6 * rs.length) (wrapped.take 8) rs
  if r.1 = List.replicate 8 0xA6#8 then some r.2.flatten else none

/-! ### SHA-384 (R315, R319) -/

/-- The integer k-th root of v, by bisection on n bits. -/
def rootGo (k v : Nat) : Nat → Nat → Nat
  | 0, r => r
  | n + 1, r => rootGo k v n (if (r + 2 ^ n) ^ k ≤ v then r + 2 ^ n else r)

/-- True when n has no divisor from 2 to d. -/
def noDivisor (n : Nat) : Nat → Bool
  | 0 => true
  | 1 => true
  | d + 2 => n % (d + 2) ≠ 0 && noDivisor n (d + 1)

/-- The first 80 primes are those up to 409. -/
def primes80 : List Nat := (List.range 410).filter fun n => n ≥ 2 && noDivisor n (Nat.sqrt n)

/-- FIPS 180-4: the first 64 bits of the fractional part of the cube root of the t-th prime. -/
def shaK : List Nat := primes80.map fun p => rootGo 3 (p * 2 ^ 192) 68 0 % 2 ^ 64

/-- FIPS 180-4: the SHA-384 starting value, from the square roots of the 9th to 16th primes. -/
def sha384Init : List Nat := ((primes80.drop 8).take 8).map fun p => rootGo 2 (p * 2 ^ 128) 68 0 % 2 ^ 64

def rotr64 (x n : Nat) : Nat := ((x >>> n) ||| (x <<< (64 - n))) % 2 ^ 64

/-- The message schedule, newest word first. -/
def shaSchedule : Nat → List Nat → List Nat
  | 0, w => w
  | n + 1, w =>
    let a := w.getD 1 0
    let b := w.getD 14 0
    let s1 := rotr64 a 19 ^^^ rotr64 a 61 ^^^ (a >>> 6)
    let s0 := rotr64 b 1 ^^^ rotr64 b 8 ^^^ (b >>> 7)
    shaSchedule n (((s1 + w.getD 6 0 + s0 + w.getD 15 0) % 2 ^ 64) :: w)

structure ShaRegs where
  a : Nat
  b : Nat
  c : Nat
  d : Nat
  e : Nat
  f : Nat
  g : Nat
  h : Nat
  deriving DecidableEq, Repr

def shaRound (r : ShaRegs) (kw : Nat × Nat) : ShaRegs :=
  let s1 := rotr64 r.e 14 ^^^ rotr64 r.e 18 ^^^ rotr64 r.e 41
  let ch := (r.e &&& r.f) ^^^ ((2 ^ 64 - 1 - r.e) &&& r.g)
  let t1 := (r.h + s1 + ch + kw.1 + kw.2) % 2 ^ 64
  let s0 := rotr64 r.a 28 ^^^ rotr64 r.a 34 ^^^ rotr64 r.a 39
  let maj := (r.a &&& r.b) ^^^ (r.a &&& r.c) ^^^ (r.b &&& r.c)
  { a := (t1 + s0 + maj) % 2 ^ 64, b := r.a, c := r.b, d := r.c, e := (r.d + t1) % 2 ^ 64, f := r.e, g := r.f, h := r.g }

def beWord (bs : List Byte) : Nat := bs.foldl (fun v b => v * 256 + b.toNat) 0

def shaBlock (ks : List Nat) (hv : List Nat) (blk : List Byte) : List Nat :=
  let w := (shaSchedule 64 ((chunks 8 blk).map beWord).reverse).reverse
  let r0 : ShaRegs := ⟨hv.getD 0 0, hv.getD 1 0, hv.getD 2 0, hv.getD 3 0, hv.getD 4 0, hv.getD 5 0, hv.getD 6 0, hv.getD 7 0⟩
  let r := (ks.zip w).foldl shaRound r0
  List.zipWith (fun x y => (x + y) % 2 ^ 64) hv [r.a, r.b, r.c, r.d, r.e, r.f, r.g, r.h]

/-- SHA-384 of a message, 48 bytes. -/
def sha384 (msg : List Byte) : List Byte :=
  let z := (128 - (msg.length + 17) % 128) % 128
  let padded := msg ++ [0x80#8] ++ zeros z ++ (toBytes 16 (8 * msg.length)).reverse
  let ks := shaK
  (((chunks 128 padded).foldl (shaBlock ks) sha384Init).take 6).flatMap fun x => (toBytes 8 x).reverse

/-- R315: the key check value: bytes 0–7 of the SHA-384 digest, byte 0 in bits [7:0]. -/
def kcv (key : List Byte) : Nat := ofBytes ((sha384 key).take 8)

end Sys2Proof.Machine
end

