-- ==== Sys2Proof/Machine/Sectors.lean ====
section
/-! DEFINITION. Sectors: the stored sector (11, R297 to R300), partitions and rights (R308 to R312), key slots (R315), sector accesses on
their way to a pseudo-channel (02, R36; 11, R301 step 1), and what their end gives the packet, the array, the spill or the walk
that made them (05, R132, R146; 11, R305). -/

namespace Sys2Proof.Machine

/-! ### The stored sector -/

/-- PARITY over a ciphertext: symbols 64 to 67 in bytes 0 to 3 (R298). -/
def outerParity (cipher : List Byte) : Nat :=
  ofBytes ((rsRemainder outerGen ((slice cipher 0 64).map (·.toNat))).map (BitVec.ofNat 8 ·))

/-- The metadata field of R297. -/
def metaOf (cipher : List Byte) (tag ksel form : Nat) (poison : Bool) : Nat :=
  outerParity cipher + (tag % 256) * 2 ^ 32 + (if poison then 15 else 0) * 2 ^ 40 + (form % 4) * 2 ^ 44 + (ksel % 4) * 2 ^ 46

def metaTag (md : Nat) : Nat := field md 39 32
def metaPoison (md : Nat) : Nat := field md 43 40
def metaForm (md : Nat) : Nat := field md 45 44
def metaKsel (md : Nat) : Nat := field md 47 46

/-- KSEL, FORM or POISON holds a fault value (R297). -/
def metaFault (md : Nat) : Bool :=
  metaKsel md = 1 || metaKsel md = 2 || metaForm md = 1 || metaForm md = 2 || (metaPoison md != 0 && metaPoison md != 15)

/-- The outer code on a received sector: corrected ciphertext, corrected parity, symbols changed; none when uncorrectable (R298). -/
def outerFix (cipher : List Byte) (md : Nat) : Option (List Byte × Nat × Nat) :=
  let sym := ((slice cipher 0 64) ++ toBytes 4 md).map (·.toNat)
  match outerDecode sym with
  | .clean => some (slice cipher 0 64, md % 2 ^ 32, 0)
  | .fixed errs =>
    let f := (applyFix errs sym).map (BitVec.ofNat 8 ·)
    some (f.take 64, ofBytes (f.drop 64), errs.length)
  | .uncorrectable => none

/-! ### Partitions, rights and keys -/

/-- An active partition entry. -/
def State.partEntry (s : State) (p : Nat) : Nat := ((s.stk.parts.find? fun x => x.1 == p).map (·.2)).getD 0

def State.partValid (s : State) (p : Nat) : Bool := bit (s.partEntry p) 80
def State.partBase (s : State) (p : Nat) : Nat := field (s.partEntry p) 39 0
def State.partLimit (s : State) (p : Nat) : Nat := field (s.partEntry p) 79 40

/-- An endpoint holds a right in a partition (R309). -/
def State.holds (s : State) (ep part right : Nat) : Bool :=
  s.stk.access.any fun x => bit x.2 80 && field x.2 47 40 == part && field x.2 19 0 ≤ ep && ep ≤ field x.2 39 20 && (field x.2 72 64).testBit right

/-- A partition counts as valid: on H-side, when any valid access entry names it (R310). -/
def State.partKnown (s : State) (p : Nat) : Bool :=
  if s.sSide then s.partValid p else s.stk.access.any fun x => bit x.2 80 && field x.2 47 40 == p

/-- The slot of a partition (R315); a slot that holds nothing is empty. -/
def State.slot (s : State) (p : Nat) : KeySlot :=
  (s.stk.slots.find? fun k => k.slot == p).getD ⟨p, none, none, 0, none, false, false⟩

/-- Partition p is fenced, by its bounds or by its slot (R312). -/
def State.partFenced (s : State) (p : Nat) : Bool := s.stk.boundsFenced.contains p || (s.slot p).fenced

def State.setSlot (s : State) (k : KeySlot) : State :=
  { s with stk := { s.stk with slots := k :: s.stk.slots.filter fun x => x.slot != k.slot } }

def KeySlot.key (k : KeySlot) (pos : Nat) : Option (List Byte) := if pos = 0 then k.key0 else k.key1

/-- The key that KSEL names. -/
def KeySlot.named (k : KeySlot) (ksel : Nat) : Option (List Byte) :=
  if ksel = 0 then k.key0 else if ksel = 3 then k.key1 else none

def KeySlot.writeKeyBytes (k : KeySlot) : Option (List Byte) := k.key k.writeKey
def KeySlot.writeKsel (k : KeySlot) : Nat := if k.writeKey = 0 then 0 else 3

/-- The Stack Port is fenced: by loss of SCLK (02, R21) or with the instance (12, R340). -/
def State.stackFenced (s : State) : Bool := s.stk.clkFence || s.fenced

/-- Sectors that an open reduction's target takes (09, R254). -/
def Reduction.sectors (r : Reduction) : Nat := ceilDiv (r.elements * (fmtBits r.outFmt / 8)) 64

/-- A write touches a target sector of an open reduction (09, R261). -/
def State.inTarget (s : State) (addr n : Nat) : Bool :=
  s.arr.reductions.any fun r => addr < r.target + r.sectors && r.target < addr + n

/-- The checks of R310 on a request, with the states in which the whole Stack Port answers: R8 selects. -/
def State.accessStatus (s : State) (h : Hdr) (sectors : Nat) : Nat :=
  let right := if h.type = tRdReq then 0 else if h.type = tWrReq then 1 else 2
  worst [if s.stackFenced || s.partFenced h.part then stFenced else stOk,
         if s.poweredDom 18 then stOk else stDomainOff,
         if s.partValid h.part && s.holds h.ep h.part right && s.partBase h.part ≤ h.addr && h.addr ≤ s.partLimit h.part then stOk else stDenied,
         if s.partLimit h.part < h.addr + sectors - 1 then stRange else stOk,
         if h.type = tWrReq && ((s.slot h.part).writeKeyBytes.isNone || s.inTarget h.addr sectors) then stDenied else stOk]

/-! ### Answers of requests served here -/

/-- A contribution message counts when its WR_CPL is formed with OK; the count stops the reduction (09, R258). -/
def State.contribution (s : State) (h : Hdr) (st : Nat) : State :=
  if h.type = tRedWr && st = stOk then
    { s with arr := { s.arr with reductions := s.arr.reductions.map fun r =>
        if r.id == h.aux && r.state == 1 then
          { r with counted := r.counted + 1, state := if r.counted + 1 ≥ r.contributors then 2 else 1 } else r } }
  else s

/-- A request served here has been performed (05, R146): RD_RSP per packet; a WR_CPL when the whole message has been. -/
def State.performed (s : State) (h : Hdr) (st : Nat) (ou dropped : Bool) (payload : List Byte) (poison : List (Nat × Nat)) : State :=
  let dropped := dropped || ((s.findMsg h).map (·.dropped)).getD false
  let send := fun (t : State) (p : Packet) => if dropped then t.count .lnkDownDrops 1 else t.originate p
  let base := { respHdr h st s.epochNow with ou := ou }
  if h.type = tRdReq then
    let r := { base with msgCount := h.msgCount, len := payload.length / 32 }
    if h.msgCount = 1 then send s ⟨r, payload, poison⟩
    else match s.findMsg h with
      | none => s
      | some m =>
        let n := m.performed + 1
        let s := if n ≥ m.hdr.msgCount then s.dropMsg h else s.setMsg { m with performed := n }
        send s ⟨{ r with last := n ≥ m.hdr.msgCount }, payload, poison⟩
  else match s.findMsg h with
    | none => s
    | some m =>
      let m := { m with performed := m.performed + 1, status := worse m.status st, ou := m.ou || ou,
                        lastAddr := if h.last then h.addr else m.lastAddr }
      if m.performed ≥ m.hdr.msgCount then
        send ((s.dropMsg h).contribution h m.status) ⟨{ base with status := m.status, ou := m.ou, addr := m.lastAddr }, [], []⟩
      else s.setMsg m

/-- The bytes of a sector of a response, and its poison mark (R132). -/
def sectorBytes (r : Nat × List Byte × Bool) : List Byte := if r.1 = stOk || r.2.2 then slice r.2.1 0 64 else zeros 64

/-- Every sector of a job has its status. -/
def State.jobDone (s : State) (j : Job) : State :=
  let s := { s with stk := { s.stk with jobs := s.stk.jobs.filter fun x => x.id != j.id } }
  let st := worst (j.results.map (·.1))
  match j.own with
  | some u => s.ownResult u st j.ou ((j.results.map fun r => sectorBytes r).flatten)
  | none =>
    if j.settled then s
    else
      let carries := j.hdr.type = tRdReq && (st = stOk || st = stUncorrectable || st = stPoisoned)
      let payload := if carries then (j.results.map sectorBytes).flatten else []
      let poison := if carries then
          ((List.range j.results.length).filter fun i => ((j.results[i]?).map fun r => r.1 != stOk).getD false).map fun i => (64 * i, 64 * i + 64)
        else []
      s.performed j.hdr st j.ou j.dropped payload poison

/-- The walk's next sector after addr on a pseudo-channel that is up, within [addr, limit] (R305). -/
def nextUp (down : Nat) (limit : Nat) : Nat → Nat → Option Nat
  | 0, _ => none
  | n + 1, a => if limit < a then none else if down.testBit (a % 32) then nextUp down limit n (a + 1) else some a

/-- Walks skip down pseudo-channels: within 32 consecutive sectors every pseudo-channel occurs once. -/
def State.walkFrom (s : State) (p a : Nat) : Option Nat := nextUp (s.obj .stkPcState) (s.partLimit p) 33 a

/-- The valid partitions, ascending. -/
def State.validParts (s : State) : List Nat := (List.range 256).filter fun p => s.partValid p

/-- The first sector that the scrubber may read in the partitions of a list. -/
def State.firstScrub (s : State) : List Nat → Option (Nat × Nat)
  | [] => none
  | p :: rest =>
    match s.walkFrom p (s.partBase p) with
    | some a => some (p, a)
    | none => s.firstScrub rest

/-- The scrub position after a sector; a pass is counted after the last sector of the highest valid partition (R306). -/
def State.scrubNext (s : State) (part addr : Nat) : State :=
  let next := match s.walkFrom part (addr + 1) with
    | some a => some (part, a)
    | none => s.firstScrub (s.validParts.filter fun p => part < p)
  match next with
  | some (p, a) => s.setObj .stkScrubPos (a + p * 2 ^ 40)
  | none =>
    let s := s.count .stkScrubPasses 1
    match s.firstScrub s.validParts with
    | some (p, a) => s.setObj .stkScrubPos (a + p * 2 ^ 40)
    | none => s.setObj .stkScrubPos 0

/-- The rekey walk of a slot after a sector (R318 step 4). -/
def State.rekeyNext (s : State) (slot addr : Nat) : State :=
  let k := s.slot slot
  match s.walkFrom slot (addr + 1) with
  | some a => s.setSlot { k with walk := some a }
  | none => (s.setSlot { k with walk := none, walkDone := true }).digestChange

/-- The end of a sector access: its lock is given up (R303) and its user takes the result. -/
def State.finishOp (s : State) (op : StkOp) (st : Nat) (ou : Bool) (data : List Byte) (poison : Bool) : State :=
  let plain := op.step = .read || op.step = .write
  let own := op.use = .scrub || (match op.use with
    | .rekey _ => true
    | _ => false)
  let orphan := match op.use with
    | .access id => !(s.arr.accesses.any fun a => a.id == id)
    | _ => false
  let release := if op.rmw then op.step = .write || st != stOk || orphan else !plain || own
  let s := if release then { s with stk := { s.stk with lockedAddrs := s.stk.lockedAddrs.erase op.addr } } else s
  let s := s.whenOk (st = stDenied && !own) fun t => t.count .stkDenied 1
  match op.use with
  | .packet job idx | .spill job idx =>
    match s.stk.jobs.find? fun j => j.id == job with
    | none => s
    | some j =>
      let j := { j with left := j.left - 1, results := j.results.set idx (st, data, poison), ou := j.ou || ou }
      let s := { s with stk := { s.stk with jobs := s.stk.jobs.map fun x => if x.id == job then j else x } }
      if j.left = 0 then s.jobDone j else s
  | .access id => s.ownResult (.access id) st ou data
  | .scrub => ({ s with stk := { s.stk with scrubBusy := false } }).scrubNext op.part op.addr
  | .rekey slot => ({ s with stk := { s.stk with rekeyBusy := false } }).rekeyNext slot op.addr

/-- An access given to its pseudo-channel's arbiter; one on a pseudo-channel that is down ends at once (R301 step 1, R305). -/
def State.pushOp (s : State) (op : StkOp) : State :=
  let p := op.addr % 32
  if (s.obj .stkPcState).testBit p then s.finishOp op stUncorrectable false (zeros 64) true
  else { s with stk := { s.stk with pcs := modifyPc s.stk.pcs p fun c => { c with waiting := c.waiting ++ [op] } } }
where
  modifyPc (l : List Pc) (p : Nat) (f : Pc → Pc) : List Pc := l.set p (f (l.getD p Pc.reset))

/-- Pseudo-channel p replaced. -/
def State.setPc (s : State) (p : Nat) (c : Pc) : State := { s with stk := { s.stk with pcs := s.stk.pcs.set p c } }

def State.pc (s : State) (p : Nat) : Pc := s.stk.pcs.getD p Pc.reset

/-- A job opened. -/
def State.openJob (s : State) (h : Hdr) (own : Option OwnUse) (n : Nat) (fromLink : Bool) : State :=
  { s with stk := { s.stk with
      jobs := s.stk.jobs ++ [⟨s.stk.nextJob, h, own, n, List.replicate n (stOk, zeros 64, false), false, false, fromLink, false⟩],
      nextJob := s.stk.nextJob + 1 } }

/-- A request that has passed its checks is served sector by sector (R301, R304). -/
def State.serve (s : State) (p : Packet) (fromLink : Bool) : State :=
  let wr := p.hdr.type != tRdReq
  let n := if wr then p.payload.length / 64 else p.hdr.aux
  let id := s.stk.nextJob
  (List.range n).foldl (fun t i =>
      t.pushOp ⟨p.hdr.addr + i, p.hdr.part, if wr then .write else .read, .packet id i, p.hdr.tc, false,
                if wr then slice p.payload (64 * i) 64 else [], 0, wr && p.sectorPoison i, false, 0⟩)
    (s.openJob p.hdr none n fromLink)

/-- A spill record written to, or read from, the local stack (04, R111): 64 sectors from LNK_SPILL_BASE on. -/
def State.serveSpill (s : State) (u : OwnUse) (addr : Nat) (data : Option (List Byte)) : State :=
  let id := s.stk.nextJob
  (List.range 64).foldl (fun t i =>
      t.pushOp ⟨addr + i, s.tx.place.part, if data.isSome then .write else .read, .spill id i, 5, false,
                slice (data.getD []) (64 * i) 64, 0, false, false, 0⟩)
    (s.openJob Hdr.zero (some u) 64 false)

/-- An operand or result access of the array in the local stack (07, R197). -/
def State.arrayOp (s : State) (id addr part tc : Nat) (data : Option (List Byte)) (poison rmw : Bool) : State :=
  s.pushOp ⟨addr, part, if data.isSome then .write else .read, .access id, tc, true, data.getD [], 0, poison, rmw, 0⟩

end Sys2Proof.Machine
end

