-- ==== Sys2Proof/Machine/TakeOn.lean ====
section
/-! DEFINITION. Packets that reach the packet engine (05, R133, R134, R140 to R149, R154; 06, R167; 12, R340), and the timers of
requests and messages (R137, R149, R151). -/

namespace Sys2Proof.Machine

/-! ### Queues before the packet engine -/

def State.ingressOf (s : State) (src : Ingress) : List InPkt :=
  match src with
  | .stream => s.sp.ingress
  | .link => s.rx.queue
  | .relay => s.rl.ingress

/-- Flits of a receive region in use, and free_v (04, R115; view LNK_VC_FREE). -/
def State.regionUsed (s : State) (v : Nat) : Nat :=
  ((s.rx.queue.filter fun p => p.vc == v).map (·.space)).sum +
    (match s.rx.part with
      | some p => if p.vc = v && !p.overflow then p.flits else 0
      | none => 0)

def State.regionFree (s : State) (v : Nat) : Nat := s.rx.regions.getD v 0 - s.regionUsed v

/-- The XOFF bits that this receiver raises (04, R115): set below the headroom, cleared at min(H + 64, region). -/
def State.updateXoff (s : State) : State :=
  let old := s.fld .lnkXoffState 15 8
  let new := (List.range 8).foldl (fun m v =>
      let free := s.regionFree v
      if free < s.rx.headroom then setBit m v true
      else if min (s.rx.headroom + 64) (s.rx.regions.getD v 0) ≤ free then setBit m v false
      else m) old
  s.setFld .lnkXoffState 15 8 new

/-- Ingress credits of the Stream Port returned, or withheld. -/
def State.giveCredits (s : State) (vc n : Nat) : State :=
  if n = 0 then s
  else if s.sp.up && s.fa != 0xFFF && !s.sp.lock.pauses then
    let c := s.sp.ingCredits.set vc (s.sp.ingCredits.getD vc 0 + n)
    ({ s with sp := { s.sp with ingCredits := c } }).out (.streamCredit vc n)
  else
    let o := s.sp.ingOwed.set vc (s.sp.ingOwed.getD vc 0 + n)
    { s with sp := { s.sp with ingOwed := o } }

/-- A packet leaves its queue; its space goes back to the sender (02, R31, R42): a Stream Port that is in lock entry, or that has no
address, withholds the credits (R27, R140). -/
def State.popIngress (s : State) (src : Ingress) (p : InPkt) : State :=
  match src with
  | .link => ({ s with rx := { s.rx with queue := s.rx.queue.erase p } }).updateXoff
  | .relay =>
    ({ s with rl := { s.rl with ingress := s.rl.ingress.erase p } }).out (.relayCredit p.vc p.space)
  | .stream => ({ s with sp := { s.sp with ingress := s.sp.ingress.erase p } }).giveCredits p.vc p.space

/-- Withheld credits are returned. -/
def State.releaseCredits (s : State) : State :=
  if s.sp.up && s.fa != 0xFFF && !s.sp.lock.pauses then
    let owed := s.sp.ingOwed
    let s := { s with sp := { s.sp with ingCredits := List.zipWith (fun a b => a + b) s.sp.ingCredits owed, ingOwed := eight } }
    s.outs (((List.range 8).filter fun v => owed.getD v 0 != 0).map fun v => .streamCredit v (owed.getD v 0))
  else s

/-! ### Waits at the head of a queue -/

/-- A first packet of a message that finds no free entry, or a LAST packet that must be held and finds no free slot (R147, R148). -/
def State.noRoom (s : State) (h : Hdr) : Bool :=
  s.route h = .here && h.msgCount > 1 &&
    (match s.findMsg h with
      | none => !s.isClosed h && !h.synth && h.type != tErrCpl && (isRequest h.type || h.ep != s.obj .pktOwnEp) && !s.msgFree h.tc
      | some _ => false)
  || (s.route h = .here && s.hSide && !isRequest h.type && h.ep != s.obj .pktOwnEp && h.msgCount > 1 && h.last && !h.synth &&
      h.type != tErrCpl && !s.isClosed h && ((s.findMsg h).map (·.forwarded)).getD 0 < h.msgCount - 1 &&
      !(s.pk.hold.any fun x => x.isNone))

/-- An ordered request that waits for the open ordered requests of the other epoch (R154). -/
def State.ordWaits (s : State) (h : Hdr) : Bool :=
  isRequest h.type && h.ord && s.pk.ordered.any fun r => r.epoch != s.epochNow

/-! ### Requests that terminate here (R142) -/

/-- A packet's place in its message's entry (R147): none where it is inconsistent. A WR_REQ or RED_WR message has an entry even with
one packet, for its WR_CPL; such an entry does not count. -/
def State.admitReq (s : State) (h : Hdr) (fromLink : Bool) : Option State :=
  if h.msgCount = 1 && (h.type = tRdReq || h.type = tSubmit) then some s
  else
    let m := (s.findMsg h).getD { newMsg h with fromLink := fromLink }
    if m.hdr.msgCount != h.msgCount || m.hdr.tc != h.tc || m.hdr.ord != h.ord || (h.last && m.lastSeen) then none
    else
      let s := if (s.findMsg h).isSome then s else { s with pk := { s.pk with msgs := s.pk.msgs ++ [m] } }
      some (s.setMsg { m with arrived := m.arrived + 1, lastSeen := m.lastSeen || h.last, complete := m.arrived + 1 ≥ h.msgCount })

/-- A request at its terminating instance. -/
def State.reqHere (s : State) (p : Packet) (fromLink : Bool) : State :=
  let h := p.hdr
  let s := s.reuse h
  if s.isClosed h then s.count .pktLateCpl 1
  else match s.admitReq h fromLink with
    | none => (s.count .pktMalformed 1).answer h p.descId stMalformed false
    | some s =>
      if h.type = tSubmit then { s with arr := { s.arr with submits := s.arr.submits ++ [(p, fromLink)] } }
      else
        -- the last sector of a contribution depends on the formats of its reduction (09, R257)
        let st := s.accessStatus h (if h.type = tRedWr then 1 else p.sectors)
        if h.type = tRedWr && st = stOk then
          { s with arr := { s.arr with redIn := s.arr.redIn ++ [(p, fromLink)] } }
        else if st = stOk then s.serve p fromLink
        else
          let s := s.whenOk (st = stDenied) fun t => t.count .stkDenied 1
          let s := s.whenOk (h.type = tWrReq && s.inTarget h.addr p.sectors) fun t => t.count .redWrBlocked 1
          s.performed h st false false [] []

/-! ### PACKET_TAKE_ON -/

/-- A packet without stamp rules: from a link or the Relay Port. -/
def State.dispatch (s : State) (p : Packet) (fromLink : Bool) : State :=
  let hop := s.route p.hdr
  if isRequest p.hdr.type then
    if hop = .here then s.reqHere p fromLink else s.forward p hop
  else if hop = .here then s.respHere p
  else s.respond p

/-- The stamp of R150 on a packet that enters from the Stream Port, the record of R154, and the police of R167. -/
def State.enterStream (s : State) (p : Packet) : State :=
  let p := { p with hdr := { p.hdr with epoch := s.epochNow } }
  let h := p.hdr
  if s.pk.routeFenced && isRequest h.type && h.dst != s.fa && field h.dst 11 6 != field s.fa 11 6 then
    s.answer h p.descId stFenced false
  else
    let s := if isRequest h.type && h.ord && !(s.pk.ordered.any fun r => sameMsg r h) then
        { s with pk := { s.pk with ordered := s.pk.ordered ++ [h] } } else s
    if isRequest h.type && isDl h.tc then
      match s.police p with
      | some i => (s.chargeFlow i p.flits).dispatch p false
      | none => (s.count .tclPoliceRefused 1).answer h p.descId stRefused false
    else s.dispatch p false

/-- A packet enters the engine: no address (R140), the fence (R340), the checks of R133, then its route. -/
def State.enter (s : State) (src : Ingress) (p : InPkt) : State :=
  let h := p.pkt.hdr
  if s.fa = 0xFFF then s.count .pktNoroute 1
  else if s.fenced then
    if isRequest h.type then s.answerFenced h p.pkt.descId false else s.count .redFenceDrops 1
  else if malformed p.pkt p.vc (s.hSide && h.dst = s.fa) then
    let s := s.count .pktMalformed 1
    if isRequest h.type && h.src != 0xFFF then s.answer h p.pkt.descId stMalformed false else s
  else match src with
    | .stream => s.enterStream p.pkt
    | .link => if s.pk.routeFenced && isRequest h.type && h.dst != s.fa && field h.dst 11 6 != field s.fa 11 6 then
        s.answer h p.pkt.descId stFenced false else s.dispatch p.pkt true
    | .relay => if s.pk.routeFenced && isRequest h.type && h.dst != s.fa && field h.dst 11 6 != field s.fa 11 6 then
        s.answer h p.pkt.descId stFenced false else s.dispatch p.pkt false

/-- The head packet of a VC waits (R140, R147, R148, R154). -/
def State.waits (s : State) (src : Ingress) (p : InPkt) : Bool :=
  if s.fa = 0xFFF then src = .stream
  else if s.fenced || malformed p.pkt p.vc (s.hSide && p.pkt.hdr.dst = s.fa) then false
  else s.noRoom p.pkt.hdr || (src = .stream && s.ordWaits p.pkt.hdr)

/-- PACKET_TAKE_ON: the packet engine takes on the oldest packet of a VC at an ingress. -/
def execPacketTakeOn (src : Ingress) (vc : Fin 8) (s : State) : Host.Outcome State Fault Refusal :=
  s.run fun s => s.whenOk s.linkCore fun s =>
    match (s.ingressOf src).find? fun x => x.vc == vc.val with
    | none => s
    | some p => if s.waits src p then s else (s.popIngress src p).enter src p

/-! ### Timers -/

/-- REQ_TIMEOUT (R137): PKT_REQ_TIMEOUT LCLK without a response. -/
def execReqTimeout (tag : Fin 4096) (s : State) : Host.Outcome State Fault Refusal :=
  s.run fun s =>
    match s.pk.own.find? fun r => r.tag == tag.val with
    | some r => ((s.count .pktTimeouts 1).ownComplete r stTimeout false []).wakeOwn
    | none => s

/-- MSG_TIMEOUT (R149): entry n has been open for PKT_REQ_TIMEOUT LCLK. A message that only waits for Stream Port egress does not
time out. -/
def execMsgTimeout (n : Nat) (s : State) : Host.Outcome State Fault Refusal :=
  s.run fun s =>
    match s.pk.msgs[n]? with
    | none => s
    | some m =>
      s.whenOk (!m.complete && m.hdr.msgCount > 1) fun s =>
        let h := m.hdr
        let s := (((s.count .pktTimeouts 1).dropHeld h).dropMsg h).close h
        if isRequest h.type then s.answer h 0 stTimeout false
        else
          let r := { h with status := stTimeout, synth := true, last := true, msgCount := 1, len := if h.type = tOpCpl then 2 else 0 }
          (s.closeOrdered h).enqueue .stream 0 ⟨r, if h.type = tOpCpl then synthRecord stTimeout h.aux 0 else [], []⟩

/-- HOLD_RELEASE (R148): MSG_COUNT − 1 packets of the held packet's message have been forwarded. -/
def execHoldRelease (slot : Fin 32) (s : State) : Host.Outcome State Fault Refusal :=
  s.run fun s =>
    match s.pk.hold.getD slot.val none with
    | none => s
    | some q =>
      match s.findMsg q.pkt.hdr with
      | some m =>
        s.whenOk (m.forwarded ≥ q.pkt.hdr.msgCount - 1) fun s =>
          ({ s with pk := { s.pk with hold := s.pk.hold.set slot.val none } }).enqueue .stream 0 q.pkt
      | none => s

/-- DRAIN_RELAY_HOLD_END (R151): PKT_DRAIN_RELAY_HOLD LCLK since the last flit of the oldest relayed packet left. -/
def execDrainRelayHoldEnd (s : State) : Host.Outcome State Fault Refusal :=
  s.run fun s => { s with rl := { s.rl with holds := s.rl.holds.drop 1 } }

end Sys2Proof.Machine
end

