-- ==== Sys2Proof/Machine/LinkDown.lean ====
section
/-! DEFINITION. The link as a whole: slots and CTRL of the flits that leave (03, R67; 04, R89, R90), the loss of lock (03, R83),
the link going down and what it settles (04, R120 to R125), and the start of training (03, R63, R64). -/

namespace Sys2Proof.Machine

/-! ### Slots and CTRL -/

/-- Flit slots of a width that hold no Failed lane (03, R67). -/
def freeSlots (width : Nat) (map : List Nat) (failed : Nat) : List Nat :=
  (List.range (flitsPer width)).filter fun q => !((List.range 16).any fun j => failed.testBit (map.getD (16 * q + j) 255))

def State.txSlots (s : State) : List Nat := freeSlots (s.obj .phyTxWidth) (s.entries .phyTxMap) (s.lanes72 .phyTxFailed)
def State.rxSlots (s : State) : List Nat := freeSlots (s.obj .phyRxWidth) (s.entries .phyRxMap) (s.lanes72 .phyRxFailed)

/-- SRDY and SGEN of the lane controller (03, R71). -/
def State.readyBits (s : State) : Nat :=
  match s.lanes.rxPlan with
  | some p => if p.ready then 2 ^ 22 + (p.gen % 16) * 2 ^ 18 else 0
  | none => 0

/-- EMPTY (04, R89). -/
def State.sendsEmpty (s : State) : Bool := s.tx.unacked.isEmpty && (s.tx.queue.isEmpty || s.trn.holding)

/-- CTRL of a flit that enters the transmit pipe (04, R89, R90); during a takeover gap by R332. -/
def State.ctrl (s : State) (nak : Bool) : Nat :=
  if s.eng.takeover then s.obj .lnkRxExpect + s.readyBits + 255 * 2 ^ 24
  else s.obj .lnkRxExpect + ofBool s.sendsEmpty * 2 ^ 17 + s.readyBits + ofBool nak * 2 ^ 23 + s.fld .lnkXoffState 15 8 * 2 ^ 24

/-- Flits leave in the unmasked slots, from an LCLK boundary on; IDLE flits fill the last LCLK. The first LCLK carries a NAK that is
due (04, R102). A flit is its header, payload and number. -/
def State.emit (s : State) (l : List (Nat × List Byte × Nat)) : State :=
  let slots := s.txSlots
  let n := slots.length
  if n = 0 then s
  else
    let total := max n (ceilDiv l.length n * n)
    let flits := (List.range total).map fun i =>
      let f := l.getD i (headIdle, [], 0)
      Out.flit (slots.getD (i % n) 0) (mkFlit f.1 (s.ctrl (s.rx.nakNow && i < n)) f.2.1 f.2.2)
    ({ s with rx := { s.rx with nakNow := false } }).outs flits

/-! ### Training starts (03, R63, R64) -/

/-- The receive lanes of a mask in the far side's transmit numbering (03, R54, R66). -/
def State.farLanes (s : State) (m : Nat) : Nat :=
  (List.range 72).foldl (fun a i =>
    let c := s.entry .phyRxConnect i
    if m.testBit i && c != 255 then setBit a (c % 128) true else a) 0

/-- The TRAIN frame of a state (03, R61, R63): the result of a state whose work has ended here. The offsets of EQUALISE are its
command's to add (13, R347). -/
def State.trainFrame (s : State) (st : Nat) : TrainFrame where
  state := st
  done := s.trn.done
  attempt := s.trn.attempts
  cause := 0
  connect := if st = 3 && s.trn.done then s.entries .phyRxConnect else []
  offsets := []
  failed := if st = 5 && s.trn.done then s.farLanes (s.lanes72 .phyRxFailed) else 0
  rate := s.trn.rate
  map := if st = 6 && s.trn.done then s.entries .phyTxMap else []

/-- A TRAIN frame leaves and is repeated from then on (03, R62). -/
def State.sendTrain (s : State) (f : TrainFrame) : State :=
  let s : State := { s with trn := { s.trn with lastFrame := some f } }
  if s.sbUp then s.out (.train f) else s

/-- Training enters a state. -/
def State.enterTraining (s : State) (st : Nat) : State :=
  let s : State := { s with trn := { s.trn with done := false } }
  (s.setObj .phyTrnState st).sendTrain (s.trainFrame st)

/-- An attempt of training begins in SB_SYNC. -/
def State.startAttempt (s : State) : State :=
  let t : Training := { s.trn with running := true, planned := false, holding := false, farState := 0, farFrames := 0, slateSeen := false,
                                   done := false, farDone := 0 }
  let s : State := { s with trn := t }
  s.enterTraining 1

/-- Some rate code no faster than r has passed its lane PLL check (14, R363). -/
def State.rateLeft (s : State) (r : Nat) : Option Nat := (List.range 3).find? fun c => r ≤ c && !s.lanes.rateFail.testBit c

/-- Engine e's state code in RED_ENG_STATE (12, R344). -/
def State.engState (s : State) (e : Nat) : Nat := s.fld .redEngState (4 * e + 2) (4 * e)

/-- Some engine leads. -/
def State.engineLeads (s : State) : Bool := s.engState 0 = 1 || s.engState 1 = 1

/-- Training can start: the link core has power, the bandgap is good (14, R363), and after a loss of both engines both islands have been
power-cycled and one engine leads (12, R339). -/
def State.mayTrain (s : State) : Bool :=
  s.linkCore && !s.pwr.bandgapBad && !(s.obj .redFenceCause = 2 && (s.eng.cycled != 3 || !s.engineLeads))

/-- Training starts: the objects of R85 and R127 come into force. It cannot where mayTrain says so, or with no rate code left (14,
R363). -/
def State.startTraining (s : State) (boot : Bool) : State :=
  match s.rateLeft (s.obj .phyRateMax) with
  | none => s.setObj .lnkState 4
  | some r =>
    if !s.mayTrain then s
    else
      let t : Training := { s.trn with bootWait := boot, attempts := 0, rate := r, target := s.obj .phyLatTarget,
                                       widthMax := s.obj .phyWidthMax, widthMin := s.obj .phyWidthMin, checkErrs := s.obj .phyCheckErrs }
      let x : LinkRx := { s.rx with regions := s.entries .lnkVcRegion, headroom := s.obj .lnkXoffHeadroom, nakRepeat := s.obj .lnkNakRepeat }
      let p : SpillPlace := ⟨s.obj .lnkSpillBase, s.obj .lnkSpillFa, s.obj .lnkSpillPart, s.obj .lnkSpillTc⟩
      let s : State := { s with trn := t, rx := x, tx := { s.tx with place := p } }
      ((s.setObj .lnkState 1).setObj .phyTrnFails 0).startAttempt

/-- Training is given up: lanes off, no frame repeated. -/
def State.stopTraining (s : State) : State :=
  ({ s with trn := { s.trn with running := false, planned := false, holding := false, bootWait := false, lastFrame := none } }).setObj .phyTrnState 0

/-! ### Loss of lock (03, R83) -/

/-- Deadline requests that wait for the link are not sent: QUEUE_REFUSED, once for each message. -/
def State.refuseDl (s : State) : State :=
  let dl := s.tx.queue.filter fun x => isRequest x.pkt.hdr.type && isDl x.pkt.hdr.tc
  let keep := s.tx.queue.filter fun x => !(isRequest x.pkt.hdr.type && isDl x.pkt.hdr.tc)
  let s : State := { s with tx := { s.tx with queue := keep } }
  ((dl.map fun x => (x.pkt.hdr, x.pkt.descId)).foldl (fun (l : List (Hdr × Nat)) (x : Hdr × Nat) =>
      if l.any fun y => sameMsg y.1 x.1 then l else l ++ [x]) []).foldl (fun t x => t.answer x.1 x.2 stRefused false) s

/-- R83 on a link that comes up or turns unlocked: flows withdrawn, requests refused, gate lists stopped, an event. -/
def State.unlocked (s : State) : State :=
  ((s.stopGates.withdrawLink 1).refuseDl).raise 0x24 1 (some .phyLatState) [b8 (s.obj .phyLatState)]

/-! ### What a link down settles (04, R122) -/

/-- One completion for each message: outcome unknown when any of its packets is marked so. -/
def mergeSettle (l : List (Hdr × Nat × Bool)) : List (Hdr × Nat × Bool) :=
  l.foldl (fun (acc : List (Hdr × Nat × Bool)) x =>
    if acc.any fun y => sameMsg y.1 x.1 then acc.map fun y => if sameMsg y.1 x.1 then (y.1, y.2.1, y.2.2 || x.2.2) else y
    else acc ++ [x]) []

/-- The requests that the transmitter holds: queued, sent in part or not acknowledged, and acknowledged with a crossing record. -/
def State.settleRequests (s : State) : List (Hdr × Nat × Bool) :=
  let queued := (s.tx.queue.filter fun x => isRequest x.pkt.hdr.type).map fun x => (x.pkt.hdr, x.pkt.descId, false)
  let sent := s.tx.unacked.filterMap fun u => u.hdr.bind fun h => if isRequest h.type then some (h, u.desc, isModifying h.type) else none
  let open' := s.crossings.map fun c => (c.hdr, c.desc, isModifying c.hdr.type)
  mergeSettle (queued ++ sent ++ open')

/-- The response packets that the transmitter holds. -/
def State.heldResponses (s : State) : Nat :=
  let queued := (s.tx.queue.filter fun x => !isRequest x.pkt.hdr.type).map (·.id)
  let sent := s.tx.unacked.filterMap fun u => match u.id, u.hdr with
    | some i, some h => if isRequest h.type then none else some i
    | _, _ => none
  (queued ++ sent).eraseDups.length

/-- Own spill requests are given up: their results are discarded (R121 step 3). -/
def State.dropSpillRequests (s : State) : State :=
  let f : OwnUse → OwnUse := fun u => match u with
    | .spillWrite _ => .discard
    | .spillRead _ => .discard
    | u => u
  let own := s.pk.own.map fun r => ({ r with use := f r.use } : OwnReq)
  let wait := s.pk.ownWait.filter fun w => f w.1 != OwnUse.discard
  let done := s.pk.done.filter fun d => f d.use != OwnUse.discard
  let jobs := s.stk.jobs.map fun j => ({ j with own := j.own.map f } : Job)
  { s with pk := { s.pk with own := own, ownWait := wait, done := done }, stk := { s.stk with jobs := jobs } }

/-- A stack command of the job has been issued, or a sector has ended. -/
def State.jobStarted (s : State) (j : Job) : Bool :=
  j.left < j.results.length || s.stk.pcs.any fun c => (c.queue ++ c.outstanding).any fun o => match o.use with
    | .packet id _ => id == j.id
    | _ => false

/-- Requests that came over the link and end at this instance: what has not started is discarded and counted; what has started runs,
and its response is discarded (R122). -/
def State.dropFromLink (s : State) : State :=
  let late := s.rx.queue.filter fun p => isRequest p.pkt.hdr.type && s.route p.pkt.hdr = .here
  let gone := s.stk.jobs.filter fun j => j.fromLink && !j.settled && j.own.isNone && !s.jobStarted j
  let goneId := fun (u : StkUse) => match u with
    | .packet id _ => gone.any fun j => j.id == id
    | _ => false
  let queuedDescs := s.arr.descs.filter fun d => d.fromLink && d.phase = .queued
  let submits := s.arr.submits.filter fun x => x.2
  let reds := s.arr.redIn.filter fun x => x.2
  let n := late.length + gone.length + queuedDescs.length + submits.length + reds.length
  let rxq := s.rx.queue.filter fun p => !(isRequest p.pkt.hdr.type && s.route p.pkt.hdr = .here)
  let jobs := (s.stk.jobs.filter fun j => !(gone.any fun g => g.id == j.id)).map fun j =>
    ({ j with dropped := j.dropped || (j.fromLink && j.own.isNone) } : Job)
  let pcs := s.stk.pcs.map fun c => ({ c with waiting := c.waiting.filter fun o => !goneId o.use } : Pc)
  let descs := (s.arr.descs.filter fun d => !(d.fromLink && d.phase = .queued)).map fun d => ({ d with dropCpl := d.dropCpl || d.fromLink } : Desc)
  let adds := (s.arr.work.filterMap fun w => match w.2 with
    | .redWr _ p => some p.hdr
    | _ => none) ++ s.arr.redAgain.map fun x => x.2.hdr
  let started := fun (h : Hdr) => (jobs.filter fun j => j.own.isNone && !j.settled && sameMsg j.hdr h).length + (adds.filter fun a => sameMsg a h).length
  let msgs := s.pk.msgs.filterMap fun m =>
    if m.fromLink && isRequest m.hdr.type && !m.dropped then
      if started m.hdr = 0 then none
      else some ({ m with dropped := true, complete := true, hdr := { m.hdr with msgCount := m.performed + started m.hdr } } : Msg)
    else some m
  let redIn := s.arr.redIn.filter fun x => !x.2
  let subs := s.arr.submits.filter fun x => !x.2
  let s : State := { s with rx := { s.rx with queue := rxq, part := none }, stk := { s.stk with jobs := jobs, pcs := pcs },
                            arr := { s.arr with descs := descs, submits := subs, redIn := redIn }, pk := { s.pk with msgs := msgs } }
  s.count .lnkDownDrops n

/-- A request that came over the link still runs: the link does not leave LATENCY before it ends (R125). -/
def State.linkHeld (s : State) : Bool :=
  (s.stk.jobs.any fun j => j.dropped && !j.settled) || (s.arr.descs.any fun d => d.dropCpl) || s.pk.msgs.any fun m => m.dropped

/-- The transmitter emptied: queues, retake buffer, spill state and spill key (R121 step 3, R110). -/
def State.emptyTx (s : State) : State :=
  let t : LinkTx := { s.tx with queue := [], unacked := [], retake := [], spilled := [], writing := [], reading := [], readBack := [],
                                replay := none, spillKey := none }
  ({ s with tx := t, crossings := [] }).setObj .lnkSpillState 0

/-- Pending maps discarded (03, R76). -/
def State.dropPlans (s : State) : State :=
  { s with lanes := { s.lanes with txPlan := none, rxPlan := none, prepareDue := false, retryDue := false, readySeen := none } }

/-- R122 on what this instance holds. -/
def State.settleLink (s : State) : State :=
  let reqs := s.settleRequests
  let drops := s.heldResponses
  let s := (((s.dropSpillRequests.emptyTx).dropFromLink).count .lnkDownDrops drops).updateXoff
  reqs.foldl (fun t x => (t.count .lnkSynthCpl 1).answer x.1 x.2.1 stLinkDown x.2.2) s

/-- Codes of R120. -/
def downErrorRate : Nat := 1
def downNoFlit : Nat := 2
def downAckStall : Nat := 3
def downWidth : Nat := 4
def downMap : Nat := 5
def downRetrain : Nat := 6
def downClock : Nat := 7
def downRetake : Nat := 8
def downFar : Nat := 9
def downForced : Nat := 10
def downEngine : Nat := 11
def downSideband : Nat := 12

/-- What the objects show of a link that is down: rate and widths (03, R85), the lock bit. -/
def State.showDown (s : State) : State :=
  let s := ((s.setObj .phyRate 0xFF).setObj .phyTxWidth 0).setObj .phyRxWidth 0
  s.setFld .phyLatState 0 0 0

/-- Calibration and screen test on a link that goes down (13, R360; 14, R371): recalibration, retirements, a rate step and lane tests
are abandoned. -/
def State.dropCal (s : State) : State :=
  let c : Calib := { s.cal with recal := none, retireDue := [], retireWait := none, stepRate := none, stepPhase := 0 }
  (({ s with cal := c }).setFld .ageStepState 1 0 0).abandonTests isLaneTest

/-- The link goes down (R120 to R125): the cause is recorded, the far side told, everything held is settled, flows that cross the
link are withdrawn (06, R174), and recovery training starts. -/
def State.linkDown (s : State) (cause : Nat) : State :=
  if !s.linkUp then s
  else
    let s := ((s.setObj .lnkDownCause cause).count .lnkDownCount 1).setObj .lnkState 0
    let s := (s.raise 0x30 2 (some .lnkDownCause) [b8 cause]).faultRecord 0x3000 2 4 cause
    let s := s.stopTraining.out .gapPattern
    let s := if cause = downFar || !s.sbUp then s
             else s.out (.train { state := 0, done := true, attempt := 0, cause := cause, connect := [], offsets := [], failed := 0, rate := s.trn.rate, map := [] })
    let s := (s.showDown.dropPlans.dropCal).stopGates.withdrawLink 0
    (s.settleLink).startTraining false

end Sys2Proof.Machine
end

