-- ==== Sys2Proof/Machine/Telemetry.lean ====
section
/-! DEFINITION. The egress scheduler's choice (06, R157, R158), queue sampling and port telemetry (06, R176, R177). -/

namespace Sys2Proof.Machine

/-! ### The choice among VCs (R157, R158) -/

/-- The first of a round robin's VCs from its pointer on that passes. -/
def roundRobin (base n ptr : Nat) (ok : Nat → Bool) : Option Nat := ((List.range n).map fun i => base + (ptr + i) % n).find? ok

/-- The VC of the highest level that holds an eligible packet: elig for its eligibility, conf for its bucket. -/
def pickVc (elig conf : Nat → Bool) (rrOps rrBulk : Nat) : Option Nat :=
  let both := fun v => elig v && conf v
  if both 1 then some 1
  else if both 2 then some 2
  else if both 0 then some 0
  else match roundRobin 3 2 rrOps both, roundRobin 5 3 rrBulk both, roundRobin 3 2 rrOps elig, roundRobin 5 3 rrBulk elig with
    | some v, _, _, _ => some v
    | none, some v, _, _ => some v
    | none, none, some v, _ => some v
    | none, none, none, o => o

/-- The pointers of the two round robins after a packet of a VC. -/
def nextOps (vc ptr : Nat) : Nat := if vc = 3 || vc = 4 then (vc - 3 + 1) % 2 else ptr
def nextBulk (vc ptr : Nat) : Nat := if 5 ≤ vc then (vc - 5 + 1) % 3 else ptr

/-! ### Queue samples (R176) -/

/-- COUNT, DELAY_SUM and DELAY_MAX after a packet has started; COUNT past 32 bits is an unstated value. -/
def State.sampleStart (s : State) (e : Egress) (vc delay : Nat) : State :=
  let k := egressIndex e * 8 + vc
  let v := s.entry .tclQueueSamples k
  let n := field v 127 96 + 1
  let n := if n < 2 ^ 32 then n else Config.counterPast (Obj.tclQueueSamples.key k) n
  let v := setField v 127 96 n
  let v := setField v 95 64 (min 0xFFFFFFFF (field v 95 64 + delay))
  s.setEntry .tclQueueSamples k (setField v 63 32 (max (field v 63 32) (min 0xFFFFFFFF delay)))

/-- A packet starts at an egress: its delay, and its flits or beats in the port's block. -/
def State.noteStart (s : State) (e : Egress) (q : QPkt) : State :=
  (s.sampleStart e q.pkt.hdr.tc (s.aon.lclk - q.stamp)).countWrap (portObj e) 0 (q.pkt.units e)

/-- Flits or beats received (R177). -/
def State.noteIn (s : State) (e : Egress) (n : Nat) : State := s.countWrap (portObj e) 1 n

/-- One queue's depth sampled. -/
def State.sampleDepth (s : State) (e : Egress) (vc : Nat) : State :=
  let k := egressIndex e * 8 + vc
  let v := s.entry .tclQueueSamples k
  let d := min 0xFFFF (queuedFlits (s.egressQueue e) vc)
  s.setEntry .tclQueueSamples k (setField (setField v 15 0 d) 31 16 (max (field v 31 16) d))

/-- QUEUE_SAMPLE: every 2^TCL_SAMPLE_LOG LCLK. -/
def execQueueSample (s : State) : Host.Outcome State Fault Refusal :=
  s.run fun s => s.whenOk s.linkCore fun s =>
    [Egress.link, .relay, .stream].foldl (fun t e => (List.range 8).foldl (fun t vc => t.sampleDepth e vc) t) s

/-- The bytes of every entry of an object, in order. -/
def State.objBytes (s : State) (o : Obj) : List Byte :=
  (List.range o.row.layout.count).flatMap fun e => toBytes (o.row.layout.size e) (s.entry o e)

/-- A read of TCL_QUEUE_SAMPLES: the snapshot, and COUNT, DELAY_SUM, DELAY_MAX and DEPTH_MAX cleared. -/
def State.readSamples (s : State) : State :=
  (List.range 24).foldl (fun t k => t.setEntry .tclQueueSamples k (field (t.entry .tclQueueSamples k) 15 0)) s

/-- QUEUE_SAMPLES_READ. The object answers while the link core is powered (15, R429). -/
def execQueueSamplesRead (r : Requester) (s : State) : Host.Outcome State Fault Refusal :=
  s.access r fun s =>
    if !s.linkCore then s.reply stDomainOff
    else ((s.out (.counters (s.objBytes .tclQueueSamples))).readSamples).reply stOk

/-- A port counter block as it is read: the stored counts and peaks, with the current depths. -/
def State.portBlock (s : State) (e : Egress) : List Byte :=
  let o := portObj e
  ((List.range 4).flatMap fun i => toBytes 8 (s.entry o i)) ++ ((List.range 8).flatMap fun v => toBytes 2 (s.depthUnits e v)) ++
    ((List.range 8).flatMap fun v => toBytes 2 (s.entry o (12 + v)))

def State.readPort (s : State) (e : Egress) : State := (List.range 8).foldl (fun t v => t.setEntry (portObj e) (12 + v) 0) s

/-- PORT_COUNTERS_READ. -/
def execPortCountersRead (r : Requester) (e : Egress) (s : State) : Host.Outcome State Fault Refusal :=
  s.access r fun s =>
    if !s.linkCore then s.reply stDomainOff
    else ((s.out (.counters (s.portBlock e))).readPort e).reply stOk

/-- One LCLK in which an egress sends no packet flit: IDLE, and STALL where only XOFF or credits hold a packet back (R177). -/
def State.idleEgress (s : State) (e : Egress) (stalled : Bool) : State :=
  let s := s.countWrap (portObj e) 3 1
  if stalled then s.countWrap (portObj e) 2 1 else s

end Sys2Proof.Machine
end

