-- ==== Sys2Proof/Machine/LinkTx.lean ====
section
/-! DEFINITION. The link transmitter (04, R92, R98 to R116, R123; 06, R157): replays, new packets, and the retake spill region. -/

namespace Sys2Proof.Machine

/-! ### Numbers and the retake buffer -/

def State.txN (s : State) : Nat := s.obj .lnkTxSeq
def State.txA (s : State) : Nat := s.obj .lnkTxAcked
/-- (N − A) mod 65,536. -/
def State.inFlight (s : State) : Nat := (s.txN + 65536 - s.txA) % 65536

/-- The block of a flit (R108). -/
def blockOf (seq : Nat) : Nat := seq % 65536 / 16

/-- Blocks that on-chip entries occupy, oldest first. -/
def State.onChip (s : State) : List Nat := (s.tx.retake.map fun r => blockOf r.seq).eraseDups

/-- On-chip entries that new flits can take. -/
def State.retakeFree (s : State) : Nat :=
  let l := s.onChip
  let free := 16 * (64 - l.length)
  if l.contains (blockOf s.txN) then free + (16 - s.txN % 16) else free - s.txN % 16

/-- The spill objects: usable, and whether blocks are held there. -/
def State.showSpill (s : State) : State :=
  let failed := s.fld .lnkSpillState 1 1
  s.setObj .lnkSpillState (ofBool (s.obj .lnkSpillEn = 1 && failed = 0) + 2 * failed + 4 * ofBool (!s.tx.spilled.isEmpty))

/-- R92: window and retake space for n flits. -/
def State.hasWindow (s : State) (n : Nat) : Bool := s.inFlight + n ≤ 32767 && n ≤ s.retakeFree

/-- A sequenced flit takes the number N and enters the retake buffer (R98, R108). -/
def State.addFlit (s : State) (head : Nat) (payload : List Byte) (id : Option Nat) (hdr : Option Hdr) (desc : Nat) : State :=
  let n := s.txN
  let t : LinkTx := { s.tx with unacked := s.tx.unacked ++ [⟨n, id, hdr, desc⟩], retake := s.tx.retake ++ [⟨n, head, payload⟩] }
  ({ s with tx := t }).setObj .lnkTxSeq ((n + 1) % 65536)

/-! ### Replay (R103 to R105, R112) -/

/-- The stored flit of a number: on chip, or read back. -/
def State.stored (s : State) (n : Nat) : Option Retake := (s.tx.retake ++ s.tx.readBack).find? fun r => r.seq == n

/-- The stored flits from a number on, without a gap, at most k. -/
def State.storedRun (s : State) : Nat → Nat → List Retake
  | 0, _ => []
  | k + 1, n => match s.stored n with
    | some r => r :: s.storedRun k ((n + 1) % 65536)
    | none => []

/-- The header of a spill record's packets, and of their reads (R111). -/
def State.spillHdr (s : State) (type block n len : Nat) : Hdr :=
  ownHdr type s.tx.place.fa (s.tx.place.base + block % 2048 * 64) n s.tx.place.part s.tx.place.tc len

/-- Where a record lies. -/
def State.spillAddr (s : State) (block : Nat) : Nat := s.tx.place.base + block % 2048 * 64

/-- A record is read back (R112). -/
def State.readSpill (s : State) (block : Nat) : State :=
  let s : State := { s with tx := { s.tx with reading := s.tx.reading ++ [block] } }
  if s.sSide then s.serveSpill (.spillRead block) (s.spillAddr block) none
  else s.issueOwn (.spillRead block) ⟨s.spillHdr tRdReq block 64 0, [], []⟩

/-- A replay from v: the spilled blocks from its block on are read in order. -/
def State.startReplay (s : State) (v : Nat) : State :=
  let s : State := { s with tx := { s.tx with replay := some v, replayBase := v, readBack := [], reading := [] } }
  let off := fun (b : Nat) => (b * 16 + 65536 + 15 - v) % 65536
  let blocks := s.tx.spilled.filter fun b => off b < 32767 + 16
  blocks.foldl (fun t b => t.readSpill b) s

/-- R103 step 2: none while a replay from v has started and flit v has not been sent in it; none when v is N. -/
def State.nakReplay (s : State) (v : Nat) : State :=
  if v = s.txN || s.tx.replay = some v && s.tx.replayBase = v then s
  else (s.startReplay v).count .lnkNakReplays 1

/-- ACK_TIMEOUT_REPLAY (R105). -/
def execAckTimeoutReplay (s : State) : Host.Outcome State Fault Refusal :=
  s.run fun s => s.whenOk (s.linkUp && s.inFlight != 0) fun s => (s.startReplay s.txA).count .lnkTimeoutReplays 1

/-! ### ACK (R99) -/

/-- Blocks, and records, whose flits are all acknowledged are freed. -/
def State.freeTo (s : State) (v : Nat) : State :=
  let live := fun (n : Nat) => (n + 65536 - v) % 65536 < (s.txN + 65536 - v) % 65536
  let un := s.tx.unacked.filter fun u => live u.seq
  let liveBlock := fun (b : Nat) => un.any fun u => blockOf u.seq == b
  let keep := s.tx.retake.filter fun r => live r.seq
  let back := s.tx.readBack.filter fun r => live r.seq
  let sp := s.tx.spilled.filter liveBlock
  let rd := s.tx.reading.filter liveBlock
  let wr := s.tx.writing.filter liveBlock
  let next := s.tx.replay.bind fun n => if v = s.txN then none else if live n then some n else some v
  let t : LinkTx := { s.tx with unacked := un, retake := keep, readBack := back, spilled := sp, reading := rd, writing := wr, replay := next }
  (({ s with tx := t }).setObj .lnkTxAcked v).showSpill

def State.ackDelivered (s : State) (v : Nat) : State :=
  let d := (v + 65536 - s.txA) % 65536
  if d = 0 then s else if d ≤ s.inFlight then s.freeTo v else s.count .lnkAckErrs 1

/-! ### LINK_PACKET_START -/

/-- A crossing record is needed and none is free (R123): 2,048 of the 16,384 are kept for TC 1 and TC 2. -/
def State.recordFree (s : State) (tc : Nat) : Bool :=
  let dl := (s.crossings.filter fun c => isDl c.hdr.tc).length
  if isDl tc then s.crossings.length < 16384 else s.crossings.length - dl + (dl - 2048) < 14336

def State.needsRecord (s : State) (h : Hdr) : Bool :=
  s.keepsRecords && isRequest h.type && !(s.crossings.any fun c => sameMsg c.hdr h)

/-- The head packet of a VC, and whether it may start (R92, R116, R164; 06, R157). -/
def State.linkHead (s : State) (vc : Nat) : Option QPkt := (ofVc s.tx.queue vc).head?

def State.linkEligible (s : State) (vc : Nat) : Bool :=
  match s.linkHead vc with
  | none => false
  | some q =>
    !s.tx.xoffSeen.testBit vc && s.gateOpen vc q.pkt.flits && s.hasWindow q.pkt.flits &&
      (!s.needsRecord q.pkt.hdr || s.recordFree q.pkt.hdr.tc)

/-- Requests that wait for a crossing record, each counted once. -/
def State.countRecordWaits (s : State) : State :=
  let waits := fun (q : QPkt) => q.port = 0 && (s.linkHead q.pkt.hdr.tc).map (·.id) = some q.id && s.needsRecord q.pkt.hdr && !s.recordFree q.pkt.hdr.tc
  let n := (s.tx.queue.filter waits).length
  let l := s.tx.queue.map fun q => if waits q then ({ q with port := 1 } : QPkt) else q
  ({ s with tx := { s.tx with queue := l } }).count .lnkRecordsWaits n

/-- The largest registered term of a link egress, in LCLK: serialisation, interference and gate wait (06, R172). -/
def State.largestTerm (s : State) : Option Nat :=
  ((s.cls.register.filter fun t => t.egress == .link).map fun t => s.linkSerial t.q + ceilDiv 36 s.txF + s.gateWait t.q.tc).max?

/-- A packet starts on the link: bucket, counters, crossing record, numbers, flits. -/
def State.startLink (s : State) (q : QPkt) : State :=
  let h := q.pkt.hdr
  let cuts := q.pkt.cut
  let c := classOf h.tc
  let late := isDl h.tc && (match s.largestTerm with
    | some m => m < s.aon.lclk - q.stamp
    | none => false)
  let rest := s.tx.queue.filter fun x => x.id != q.id
  let t : LinkTx := { s.tx with queue := rest, rrOps := nextOps h.tc s.tx.rrOps, rrBulk := nextBulk h.tc s.tx.rrBulk }
  let cr := if s.needsRecord h then s.crossings ++ [⟨h, q.pkt.descId, 0⟩] else s.crossings
  let s := (s.setBucket c (s.bucket c - (256 * cuts.length : Nat))).noteStart .link q
  let s : State := { s with tx := t, crossings := cr }
  let s := s.whenOk late fun t => t.count .tclDlLate 1
  let first := s.txN
  let s := cuts.foldl (fun t x => t.addFlit (x.head h.tc) x.payload (some q.id) (some h) q.pkt.descId) s
  s.emit (cuts.zipIdx.map fun x => (x.1.head h.tc, x.1.payload, (first + x.2) % 65536))

/-- Replayed flits leave: every one that is at hand, and IDLE while the next is still read back (R104, R112). -/
def State.sendReplay (s : State) (v : Nat) : State :=
  let l := s.storedRun ((s.txN + 65536 - v) % 65536) v
  let next := (v + l.length) % 65536
  let sent := fun (r : Retake) => l.any fun x => x.seq == r.seq
  let back := s.tx.readBack.filter fun r => !sent r
  let t : LinkTx := { s.tx with replay := if next = s.txN then none else some next,
                                replayBase := if l.isEmpty then s.tx.replayBase else 65536, readBack := back }
  let s := ({ s with tx := t }).count .lnkReplayFlits l.length
  s.emit (l.map fun r => (r.head, r.payload, r.seq))

/-- The lanes carry flits: after flit sync (03, R63). -/
def State.flitsRun (s : State) : Bool := s.linkCore && 8 ≤ s.obj .phyTrnState

/-- The engine hands flits to the transmit pipe: no takeover gap runs (12, R330). -/
def State.linkSends (s : State) : Bool := s.flitsRun && !s.eng.takeover

/-- New packets and replays leave in ACTIVE only. -/
def State.linkCarries (s : State) : Bool := s.linkUp && s.obj .phyTrnState = 9

/-- LINK_PACKET_START: a replay goes first; then the packet of the highest level; IDLE where nothing may start. A planned retrain holds
new packets (03, R60). -/
def execLinkPacketStart (s : State) : Host.Outcome State Fault Refusal :=
  s.run fun s => s.whenOk (s.linkSends && !s.txSlots.isEmpty) fun s =>
    match (if s.linkCarries then s.tx.replay else none) with
    | some v => s.sendReplay v
    | none =>
      if s.trn.holding || !s.linkCarries then s.emit []
      else
        let s := s.countRecordWaits
        let conf := fun v => match s.linkHead v with
          | some q => s.conforms v q.pkt.flits
          | none => false
        match (pickVc s.linkEligible conf s.tx.rrOps s.tx.rrBulk).bind s.linkHead with
        | some q => s.startLink q
        | none => s.emit []

/-! ### The spill region (R109 to R114) -/

/-- A spill record: 16 flits of 256 bytes each, header, payload and zero (R109). -/
def State.spillRecord (s : State) (block : Nat) : List Byte :=
  (List.range 16).flatMap fun i =>
    match s.tx.retake.find? fun r => r.seq == (16 * block + i) % 65536 with
    | some r => slice (toBytes 2 r.head ++ slice r.payload 0 236) 0 256
    | none => zeros 256

/-- A record encrypted or decrypted sector by sector under the spill key (R110). -/
def spillCrypt (enc : Bool) (key : List Byte) (addr : Nat) (data : List Byte) : List Byte :=
  (List.range 64).flatMap fun i =>
    let x := slice data (64 * i) 64
    if enc then xtsEncrypt key (addr + i) x else xtsDecrypt key (addr + i) x

/-- SPILL_WRITE: with all 64 blocks occupied, the oldest on-chip block that is not being written. The S-side's Stack Port encrypts its
sectors; an H-side instance sends the encrypted record. -/
def execSpillWrite (s : State) : Host.Outcome State Fault Refusal :=
  s.run fun s => s.whenOk (s.linkUp && s.obj .lnkSpillEn = 1 && s.fld .lnkSpillState 1 1 = 0 && s.onChip.length ≥ 64) fun s =>
    match s.onChip.find? fun b => !s.tx.writing.contains b, s.tx.spillKey with
    | some b, some k =>
      let rec' := s.spillRecord b
      let s : State := { s with tx := { s.tx with writing := s.tx.writing ++ [b] } }
      if s.sSide then s.serveSpill (.spillWrite b) (s.spillAddr b) (some rec')
      else s.issueOwn (.spillWrite b) ⟨s.spillHdr tWrReq b 0 128, spillCrypt true (toBytes 64 k) (s.spillAddr b) rec', []⟩
    | _, _ => s

/-- A result that waits for its row: it is taken once. -/
def State.takeDone (s : State) (u : OwnUse) (status : Nat) : Option (OwnDone × State) :=
  match s.pk.done.find? fun d => d.use == u && d.status == status with
  | some d => some (d, { s with pk := { s.pk with done := s.pk.done.erase d } })
  | none => none

/-- SPILL_WRITE_DONE (R109, R113). -/
def execSpillWriteDone (block status : Nat) (s : State) : Host.Outcome State Fault Refusal :=
  s.run fun s =>
    match s.takeDone (.spillWrite block) status with
    | none => s
    | some (_, s) =>
      let wr := s.tx.writing.erase block
      let s0 : State := { s with tx := { s.tx with writing := wr } }
      if status != stOk then ((s0.setFld .lnkSpillState 1 1 1).setFld .lnkSpillState 0 0 0).raise 0x31 1 (some .lnkSpillState) [b8 0]
      else if s.tx.writing.contains block then
        let keep := s.tx.retake.filter fun r => blockOf r.seq != block
        (({ s0 with tx := { s0.tx with retake := keep, spilled := s0.tx.spilled ++ [block] } }).count .lnkSpillWrites 1).showSpill
      else s0.count .lnkSpillWrites 1

/-- The flits of a record. -/
def recordFlits (block : Nat) (data : List Byte) : List Retake :=
  (List.range 16).map fun i => ⟨(16 * block + i) % 65536, valAt data (256 * i) 2, slice data (256 * i + 2) 236⟩

/-- SPILL_READ_DONE (R112, R113): data is the record as the Stack Port or the far stack returned it. -/
def execSpillReadDone (block status : Nat) (data : List Byte) (s : State) : Host.Outcome State Fault Refusal :=
  s.run fun s =>
    match s.takeDone (.spillRead block) status with
    | none => s
    | some (d, s) =>
      if !s.tx.reading.contains block then s
      else if status != stOk then s.linkDown downRetake
      else s.whenOk (d.data = data) fun s =>
        let plain := if s.sSide then data else match s.tx.spillKey with
          | some k => spillCrypt false (toBytes 64 k) (s.spillAddr block) data
          | none => data
        let live := (recordFlits block plain).filter fun r => s.tx.unacked.any fun u => u.seq == r.seq
        { s with tx := { s.tx with reading := s.tx.reading.erase block, readBack := s.tx.readBack ++ live } }

/-- LNK_SPILL_EN_WRITE (R114). -/
def execLnkSpillEnWrite (r : Requester) (value : Nat) (s : State) : Host.Outcome State Fault Refusal :=
  s.access r fun s => ((s.setObj .lnkSpillEn value).whenOk s.linkUp fun t => t.showSpill).reply stOk

end Sys2Proof.Machine
end

