-- ==== Sys2Proof/Machine/Trims.lean ====
section
/-! DEFINITION. Trims (13, R345 to R348): code ranges, targets, offsets and the loading of a lane. -/

namespace Sys2Proof.Machine

/-! ### The trim table (R345), by byte -/

def trimLow (k : Nat) : Int := ([0, -63, -31, -31, -15, 32, -31, -15, 0, -31, -31, -31, -16] : List Int).getD k 0
def trimHigh (k : Nat) : Int := ([30, 63, 31, 31, 0, 63, 0, 15, 31, 31, 31, 31, 15] : List Int).getD k 0
def windowLow (k : Nat) : Int := ([2, -48, -24, -24, -12, 36, -24, -12, 6, -24, -24, -24, -12] : List Int).getD k 0
def windowHigh (k : Nat) : Int := ([28, 48, 24, 24, 0, 63, 0, 12, 26, 24, 24, 24, 12] : List Int).getD k 0
def deltaLimit (k : Nat) : Int := ([3, 6, 4, 4, 2, 2, 3, 2, 2, 4, 4, 4, 2] : List Int).getD k 0

/-- Receive trims are bytes 0 to 3 and 8 to 12. -/
def rxTrims : List Nat := [0, 1, 2, 3, 8, 9, 10, 11, 12]
def txTrims : List Nat := [4, 5, 6, 7]

/-- Signed byte k of a trim entry. -/
def trimByte (v k : Nat) : Int := toSigned 8 (field v (8 * k + 7) (8 * k))

def setTrimByte (v k : Nat) (c : Int) : Nat := setField v (8 * k + 7) (8 * k) (ofSigned 8 c)

/-! ### Temperatures and targets (R346) -/

/-- The sensor that a group uses: its own, or, when that is unusable, the nearest group's, the lower index on a tie (14, R363). -/
def State.sensorOf (s : State) (g : Nat) : Option Nat :=
  ([0, 1, 2, 3, 4, 5, 6, 7].flatMap fun d => (if d ≤ g then [g - d] else []) ++ (if g + d < 8 then [g + d] else [])).find? fun x =>
    !s.cal.sensorBad.testBit x

/-- The temperature of a group in 1/8 °C; 110 °C when no sensor is usable. -/
def State.groupTemp (s : State) (g : Nat) : Int :=
  match s.sensorOf g with
  | some x => s.cal.temps.getD x 0
  | none => 880

/-- An entry of CAL_TRIM_SETS as it is in force: a write waits for the next training. -/
def State.trimSet (s : State) (i : Nat) : Nat := ((s.cal.setsNow.find? fun x => x.1 == i).map (·.2)).getD (s.entry .calTrimSets i)

/-- The set temperatures in 1/8 °C. -/
def setTemps : List Int := [-160, 160, 440, 680, 880]

/-- Target with zero offset, before the code range. -/
def State.baseTarget (s : State) (p k r : Nat) : Int :=
  let t := clampInt (s.groupTemp (p / 9)) (-160) 880
  let j := if 680 ≤ t then 3 else if 440 ≤ t then 2 else if 160 ≤ t then 1 else 0
  let c0 := trimByte (s.trimSet (15 * p + 5 * r + j)) k
  let c1 := trimByte (s.trimSet (15 * p + 5 * r + j + 1)) k
  let sj := setTemps.getD j 0
  let num := (c1 - c0) * (t - sj)
  let den := setTemps.getD (j + 1) 0 - sj
  c0 + (2 * num + den) / (2 * den)

/-- The target of trim k of lane p at rate code r. -/
def State.trimTarget (s : State) (p k r : Nat) : Int :=
  clampInt (s.baseTarget p k r + trimByte (s.entry .calTrimOffset p) k) (trimLow k) (trimHigh k)

/-- The target with zero offset, as R347 and R349 take it. -/
def State.zeroTarget (s : State) (p k r : Nat) : Int := clampInt (s.baseTarget p k r) (trimLow k) (trimHigh k)

/-- The rate code whose sets apply. -/
def State.rateNow (s : State) : Nat := if s.obj .phyRate = 0xFF then s.trn.rate else s.obj .phyRate

/-- The applied codes of a lane with its flags in byte 15 kept. -/
def State.setApplied (s : State) (p : Nat) (f : Nat → Int) : State :=
  s.setEntry .calTrimNow p ((List.range 13).foldl (fun v k => setTrimByte v k (f k)) (s.entry .calTrimNow p))

/-- A lane takes its targets at once (R348). -/
def State.loadTrims (s : State) (p r : Nat) : State := s.setApplied p fun k => s.trimTarget p k r

/-- Byte 15 of CAL_TRIM_NOW: flags STALE, stepping, measuring, rejected. -/
def State.setTrimFlag (s : State) (p i : Nat) (b : Bool) : State :=
  s.setEntry .calTrimNow p (setBit (s.entry .calTrimNow p) (120 + i) b)

end Sys2Proof.Machine
end

