-- ==== Sys2Proof/Machine/Lanes.lean ====
section
/-! DEFINITION. Lanes (03, R54 to R77): lane states, lane faults, maps and the SPLICE exchange at both ends, with the yielding of the
eye monitor (13, R355). -/

namespace Sys2Proof.Machine

/-! ### Lane states (R55) -/

def State.rxActive (s : State) (p : Nat) : Bool := ((s.entries .phyRxMap).take (s.obj .phyRxWidth)).contains p
def State.txActive (s : State) (p : Nat) : Bool := ((s.entries .phyTxMap).take (s.obj .phyTxWidth)).contains p
def State.rxFailed (s : State) (p : Nat) : Bool := (s.lanes72 .phyRxFailed).testBit p

/-- The receive lane that a far transmit lane feeds (R54). -/
def State.rxLaneOf (s : State) (tx : Nat) : Option Nat :=
  (List.range 72).find? fun i => s.entry .phyRxConnect i != 255 && s.entry .phyRxConnect i % 128 == tx

/-- A map in receive lane numbers. -/
def State.rxMapOf (s : State) (map : List Nat) : List Nat := map.map fun t => if t = 255 then 255 else (s.rxLaneOf t).getD 255

/-- Receive lanes that the pending map adds. -/
def State.pendingAdds (s : State) : List Nat :=
  match s.lanes.rxPlan with
  | some p => ((s.rxMapOf p.map).take p.width).filter fun i => i != 255 && !s.rxActive i
  | none => []

/-- Width for a number of lanes that have not failed (R59): the largest permitted, 0 when there is none. -/
def widthFor (limit n : Nat) : Nat := (([64, 48, 32, 16].find? fun w => w ≤ limit && w ≤ n)).getD 0

/-- A direction cannot run (R59). -/
def State.tooNarrow (s : State) (failed : Nat) : Bool := widthFor s.trn.widthMax (72 - popcount 72 failed) < s.trn.widthMin

/-! ### The eye monitor and measurements yield (13, R355, R360) -/

/-- The lowest Spare receive lane that no pending map adds. -/
def State.freeMonitor (s : State) : Option Nat :=
  (List.range 72).find? fun p => !s.rxFailed p && !s.rxActive p && !s.pendingAdds.contains p

/-- AGE_MONITOR_STATE as it stands. -/
def State.showMonitor (s : State) : State :=
  s.setObj .ageMonitorState ((s.cal.scan.getD 0) + (s.cal.monitor.getD 0) * 2 ^ 8 + ofBool s.cal.paused * 2 ^ 15)

/-- A monitor lane is taken away: the scan restarts on the next Spare lane, or the rotation pauses. -/
def State.yieldMonitor (s : State) : State :=
  match s.cal.monitor with
  | none => s
  | some m =>
    if s.pendingAdds.contains m || s.rxFailed m then
      match s.freeMonitor with
      | some n => ({ s with cal := { s.cal with monitor := some n } }).showMonitor
      | none =>
        let c : Calib := { s.cal with monitor := none, scan := none, paused := true, stale := setBit s.cal.stale (s.cal.scan.getD 0) true }
        ({ s with cal := c }).showMonitor
    else s

/-- A fault on a lane that is being recalibrated or scanned discards the measurement. -/
def State.dropMeasurement (s : State) (p : Nat) : State :=
  let recal := if s.cal.recal = some p then none else s.cal.recal
  let s : State := { s with cal := { s.cal with recal := recal } }
  if s.cal.scan = some p then ({ s with cal := { s.cal with scan := none, monitor := none } }).showMonitor else s

/-! ### Lane faults at the receiver (R66) -/

/-- The payload of a LANE_FAULT or LANE_ACK frame (R61). -/
def laneBytes (lanes : Nat) : List Byte := toBytes 9 lanes

/-- LANE_FAULT leaves, and is kept for repetition until it is acknowledged (R62). -/
def State.sendLaneFault (s : State) (lanes reason : Nat) : State :=
  let s : State := { s with lanes := { s.lanes with faultsOut := s.lanes.faultsOut ++ [(lanes, reason)] } }
  s.whenOk s.sbUp fun t => t.out (.sideband 3 (laneBytes lanes ++ [b8 reason]))

/-- Receive lanes marked Failed. -/
def State.failRx (s : State) (m : Nat) : State :=
  let s := s.setLanes72 .phyRxFailed (s.lanes72 .phyRxFailed ||| m)
  let s := ((List.range 72).filter fun p => m.testBit p).foldl (fun t p => t.dropMeasurement p) s
  s.yieldMonitor.abandonTests (lanesIn m)

/-- A receive lane is declared faulty. -/
def State.declareFault (s : State) (p reason : Nat) : State :=
  let s := s.failRx (2 ^ p)
  let s := s.sendLaneFault (s.farLanes (2 ^ p)) reason
  let s := s.raise 0x20 1 (some .phyRxFailed) [b8 p, b8 reason]
  if s.linkUp && s.tooNarrow (s.lanes72 .phyRxFailed) then s.linkDown downWidth else s

/-- CDR_LOCK_LOSS. -/
def execCdrLockLoss (lane : Fin 72) (s : State) : Host.Outcome State Fault Refusal :=
  s.run fun s => s.whenOk (s.linkUp && s.rxActive lane && !s.rxFailed lane) fun s => s.declareFault lane 1

/-- Corrected bytes attributed to a lane within the last 65,536 LCLK. -/
def State.fecCount (s : State) (p : Nat) : Nat := (s.rx.fecHits.filter fun h => h.1 == p && s.aon.lclk - h.2 < 65536).length

/-- LANE_FEC_THRESHOLD. -/
def execLaneFecThreshold (lane : Fin 72) (s : State) : Host.Outcome State Fault Refusal :=
  s.run fun s => s.whenOk (s.linkUp && s.rxActive lane && !s.rxFailed lane && s.obj .phyLaneFailErrs ≤ s.fecCount lane) fun s =>
    s.declareFault lane 2

/-- The path of a write to PHY_RX_RETIRE: a Failed lane keeps its state (R66). -/
def State.retireRx (s : State) (lane reason : Nat) : State :=
  if s.rxFailed lane then s else s.declareFault lane reason

/-- RX_RETIRE. -/
def execRxRetire (r : Requester) (lane : Nat) (s : State) : Host.Outcome State Fault Refusal :=
  s.access r fun s => if 71 < lane then s.reply stDenied else (s.retireRx lane 4).reply stOk

/-- LANE_FAULT_REPEAT: every 4 µs until acknowledged (R62). -/
def execLaneFaultRepeat (s : State) : Host.Outcome State Fault Refusal :=
  s.run fun s => s.whenOk s.sbUp fun s => s.outs (s.lanes.faultsOut.map fun f => .sideband 3 (laneBytes f.1 ++ [b8 f.2]))

/-- LANE_ACK: the frames all of whose lanes it names stop. -/
def execLaneAck (lanes : Nat) (s : State) : Host.Outcome State Fault Refusal :=
  s.run fun s => s.whenOk s.sbUp fun s =>
    let left := s.lanes.faultsOut.filter fun f => f.1 &&& lanes != f.1
    { s with lanes := { s.lanes with faultsOut := left } }

/-! ### Plans of the transmitter (R68, R70 to R75) -/

/-- R68: the new map for a set of Failed transmit lanes, with its width. -/
def newMap (limit width failed : Nat) (map : List Nat) : Nat × List Nat :=
  let w := min width (widthFor limit (72 - popcount 72 failed))
  let kept := (map.take w).filter fun t => !failed.testBit t
  let spares := (List.range 72).filter fun t => !failed.testBit t && !kept.contains t
  let place := fun (acc : List Nat × List Nat) (t : Nat) =>
    if failed.testBit t then (acc.1 ++ [acc.2.headD 255], acc.2.drop 1) else (acc.1 ++ [t], acc.2)
  (w, ((map.take w).foldl place ([], spares)).1 ++ List.replicate (64 - w) 255)

/-- Some lane of the transmit map is in F. -/
def State.mapBroken (s : State) : Bool := ((s.entries .phyTxMap).take (s.obj .phyTxWidth)).any fun t => (s.lanes72 .phyTxFailed).testBit t

/-- The next plan number (R70). -/
def State.nextGen (s : State) : Nat :=
  let g := (s.lanes.lastGen + 1) % 16
  if g = s.fld .phyMapGen 3 0 then (g + 1) % 16 else g

/-- Lanes that a plan adds to the transmit map. -/
def State.planAdds (s : State) (p : SplicePlan) : List Nat := (p.map.take p.width).filter fun t => !s.txActive t

/-- A sequenced SPLICE flit leaves. -/
def State.sendSplice (s : State) (phase : Nat) (p : SplicePlan) : State :=
  let pay := splicePayload phase p.gen p.width p.map
  let n := s.txN
  (s.addFlit headPrepare pay none none 0).emit [(headPrepare, pay, n)]

/-- PREPARE leaves: the plan is computed from the present map and F. -/
def State.sendPrepare (s : State) : State :=
  let f := s.lanes72 .phyTxFailed
  let (w, map) := newMap s.trn.widthMax (s.obj .phyTxWidth) f (s.entries .phyTxMap)
  let g := s.nextGen
  let plan : SplicePlan := ⟨g, w, map, false⟩
  let same := s.lanes.planF = f
  let l : Lanes := { s.lanes with txPlan := some plan, prepareDue := false, retryDue := false, lastGen := g, planF := f,
                                  planFails := if same then s.lanes.planFails else 0, planAdded := if same then s.lanes.planAdded else 0 }
  ({ s with lanes := l }).sendSplice 1 plan

/-- SPLICE flits can leave: the link carries traffic and is not being drained. -/
def State.splices (s : State) : Bool := s.linkSends && s.linkActive && !s.trn.holding && !s.txSlots.isEmpty && s.hasWindow 1

/-- PREPARE_SEND. -/
def execPrepareSend (s : State) : Host.Outcome State Fault Refusal :=
  s.run fun s => s.whenOk (s.splices && s.lanes.prepareDue && s.lanes.txPlan.isNone && !s.lanes.retryDue) fun s => s.sendPrepare

/-- SPLICE_RETRY: 1,024 LCLK after a CANCEL of R74. -/
def execSpliceRetry (s : State) : Host.Outcome State Fault Refusal :=
  s.run fun s => s.whenOk (s.splices && s.lanes.retryDue && s.lanes.txPlan.isNone) fun s => s.sendPrepare

/-- The plan in force is given up with a CANCEL, counted in PHY_SPLICE_FAILS. -/
def State.cancelPlan (s : State) (p : SplicePlan) : State :=
  (({ s with lanes := { s.lanes with txPlan := none } }).count .phySpliceFails 1).sendSplice 3 p

/-- Lanes join F; a direction that cannot run any more takes the link down. -/
def State.failTx (s : State) (m : Nat) : State :=
  let s := s.setLanes72 .phyTxFailed (s.lanes72 .phyTxFailed ||| m)
  if s.linkUp && s.tooNarrow (s.lanes72 .phyTxFailed) then s.linkDown downWidth else s

/-- SPLICE_TIMEOUT (R74): the third time out of one F adds the lanes of its plans to F. -/
def execSpliceTimeout (s : State) : Host.Outcome State Fault Refusal :=
  s.run fun s =>
    match s.lanes.txPlan with
    | none => s
    | some p => s.whenOk (s.splices && s.lanes.readySeen != some p.gen) fun s =>
        let fails := s.lanes.planFails + 1
        let added := (s.planAdds p).foldl (fun m t => setBit m t true) s.lanes.planAdded
        let s := (s.cancelPlan p).raise 0x21 1 (some .phySpliceFails) [b8 p.gen, b8 fails]
        let s : State := { s with lanes := { s.lanes with retryDue := true, planFails := fails, planAdded := added } }
        if fails ≥ 3 then s.failTx added else s

/-- LANE_FAULT (R62, R67, R75): masked slots, the answer, and the plan that it calls for. -/
def execLaneFault (lanes reason : Nat) (s : State) : Host.Outcome State Fault Refusal :=
  s.run fun s => s.whenOk (s.sbUp && reason < 256) fun s =>
    let m := lanes % 2 ^ 72
    let s := s.out (.sideband 4 (laneBytes m))
    s.whenOk s.linkUp fun s =>
      let s := s.failTx m
      s.whenOk (s.linkUp && s.obj .phyRepairEn = 1) fun s =>
        match s.lanes.txPlan with
        | none => { s with lanes := { s.lanes with prepareDue := s.lanes.prepareDue || s.mapBroken } }
        | some p =>
          let used := (p.map.take p.width).any fun t => m.testBit t
          if used then
            let s := s.cancelPlan p
            { s with lanes := { s.lanes with prepareDue := true, retryDue := false } }
          else { s with lanes := { s.lanes with prepareDue := s.lanes.prepareDue || s.mapBroken } }

/-- The transmitter's crossbar switches. -/
def State.switchTx (s : State) (p : SplicePlan) : State :=
  let s := ((List.range 64).foldl (fun t l => t.setEntry .phyTxMap l (p.map.getD l 255)) s).setObj .phyTxWidth p.width
  s.setFld .phyMapGen 3 0 p.gen

/-- COMMIT_SEND (R72): a copy in every unmasked slot, two gap cycles, the new map. -/
def execCommitSend (s : State) : Host.Outcome State Fault Refusal :=
  s.run fun s =>
    match s.lanes.txPlan with
    | none => s
    | some p => s.whenOk (s.linkSends && !s.txSlots.isEmpty && s.lanes.readySeen = some p.gen) fun s =>
        let f := (headCommit, splicePayload 2 p.gen p.width p.map, 0)
        let s := (s.emit (s.txSlots.map fun _ => f)).outs [.gapPattern, .gapPattern]
        let s := (s.switchTx p).count .phySpliceCount 1
        let l : Lanes := { s.lanes with txPlan := none, readySeen := none, planFails := 0, planAdded := 0,
                                        prepareDue := s.obj .phyRepairEn = 1 && s.mapBroken }
        { s with lanes := l }

/-! ### Plans at the receiver (R70, R71, R73) -/

/-- A PREPARE is valid (R70). -/
def State.prepareOk (s : State) (pay : List Byte) : Bool :=
  let map := spliceMap pay
  let w := 16 * (spliceWidth pay + 1)
  let low := map.take w
  valAt pay 0 1 = 1 && spliceWidth pay ≤ 3 && spliceGen pay != s.fld .phyMapGen 7 4 && low.eraseDups.length = w && low.all (fun t => t ≤ 71) &&
    (map.drop w).all (fun t => t = 255) &&
    !(low.any fun t => match s.rxLaneOf t with
      | some i => s.rxFailed i
      | none => false)

/-- A PREPARE accepted: the map is pending; lanes it adds take their trims, and a monitor among them yields. -/
def State.acceptPrepare (s : State) (pay : List Byte) : State :=
  if s.prepareOk pay then
    let s : State := { s with lanes := { s.lanes with rxPlan := some ⟨spliceGen pay, 16 * (spliceWidth pay + 1), spliceMap pay, false⟩ } }
    let adds := s.pendingAdds
    let s := (s.abandonTests fun u => adds.any fun p => u == .lane (Fin.ofNat 72 p))
    let s := (adds.foldl (fun t p => t.loadTrims p t.rateNow) s).yieldMonitor
    if adds.isEmpty then { s with lanes := { s.lanes with rxPlan := s.lanes.rxPlan.map fun p => ({ p with ready := true } : SplicePlan) } } else s
  else s.count .phySpliceFails 1

/-- SPLICE_READY. -/
def execSpliceReady (s : State) : Host.Outcome State Fault Refusal :=
  s.run fun s => s.whenOk s.linkUp fun s => { s with lanes := { s.lanes with rxPlan := s.lanes.rxPlan.map fun p => ({ p with ready := true } : SplicePlan) } }

/-- The receiver's crossbar switches to its pending map. -/
def State.switchRx (s : State) : State :=
  match s.lanes.rxPlan with
  | none => s
  | some p =>
    let map := s.rxMapOf p.map
    let s := ((List.range 64).foldl (fun t l => t.setEntry .phyRxMap l (map.getD l 255)) s).setObj .phyRxWidth p.width
    ({ s with lanes := { s.lanes with rxPlan := none } }).setFld .phyMapGen 7 4 p.gen

/-- A COMMIT for the pending map. -/
def State.acceptCommit (s : State) (pay : List Byte) : State :=
  match s.lanes.rxPlan with
  | some p => if p.ready && p.gen = spliceGen pay then s.switchRx else s
  | none => s

/-- The pending map discarded (CANCEL); a retirement that waited for its splice waits no longer (13, R358). -/
def State.dropPending (s : State) : State :=
  { s with lanes := { s.lanes with rxPlan := none }, cal := { s.cal with retireWait := none } }

/-! ### Lane groups (R56) -/

def groupMask (g : Nat) : Nat := (2 ^ 9 - 1) * 2 ^ (9 * g)

/-- The transmit and receive lanes of a group that powers off are Failed; on a link that is up the far transmitter is told. -/
def State.groupOff (s : State) (g : Nat) : State :=
  let m := groupMask g
  let s := (s.switchDom (2 + g) false).failRx m
  let s := s.setLanes72 .phyTxFailed (s.lanes72 .phyTxFailed ||| m)
  let s := if s.linkUp then s.sendLaneFault (s.farLanes m) 6 else s
  if s.linkUp && (s.tooNarrow (s.lanes72 .phyTxFailed) || s.tooNarrow (s.lanes72 .phyRxFailed)) then s.linkDown downWidth else s

/-- A group with an active lane in either direction. -/
def State.groupActive (s : State) (g : Nat) : Bool := (List.range 9).any fun i => s.txActive (9 * g + i) || s.rxActive (9 * g + i)

/-- A write of PHY_GROUP_OFF; a group whose bit clears gets power where PWR_DOMAIN_CTRL lets it (16, R415). -/
def State.writeGroupOff (s : State) (v : Nat) : State :=
  let old := s.obj .phyGroupOff
  let falling := (List.range 8).filter fun g => !v.testBit g && old.testBit g && (s.obj .pwrDomainCtrl).testBit (2 + g) && 2 ≤ s.bringupStep
  let rising := (List.range 8).filter fun g => v.testBit g && !old.testBit g
  match rising.find? s.groupActive with
  | some g => s.raise 0x23 1 (some .phyGroupOff) [b8 1, b8 g]
  | none => falling.foldl (fun t g => t.switchDom (2 + g) true) (rising.foldl (fun t g => t.groupOff g) (s.setObj .phyGroupOff v))

/-- PHY_GROUP_OFF_WRITE. -/
def execPhyGroupOffWrite (r : Requester) (value : Nat) (s : State) : Host.Outcome State Fault Refusal :=
  s.access r fun s => (s.writeGroupOff value).reply stOk

/-- SCRAMBLER_RELOAD (R58). -/
def execScramblerReload (s : State) : Host.Outcome State Fault Refusal :=
  s.run fun s => s.whenOk (s.linkCore && (s.linkUp || 7 < s.obj .phyTrnState)) fun s => { s with lanes := { s.lanes with scramAge := 0 } }

end Sys2Proof.Machine
end

