-- ==== Sys2Proof/Machine/Latency.lean ====
section
/-! DEFINITION. Latency lock (03, R78 to R84; 04, R107). -/

namespace Sys2Proof.Machine

/-- This is the measuring instance: PHY_LAT_STATE [4]. -/
def State.measures (s : State) : Bool := (s.obj .phyLatState).testBit 4

def State.setLat (s : State) (i : Nat) (b : Bool) : State := s.setObj .phyLatState (setBit (s.obj .phyLatState) i b)

/-- LATENCY runs. -/
def State.inLatency (s : State) : Bool := s.obj .phyTrnState = 8

/-- The difference of two LCC values, 48 bits. -/
def lccDiff (a b : Nat) : Nat := (a + 2 ^ 48 - b % 2 ^ 48) % 2 ^ 48

/-- A marker leaves in one slot at a packet boundary, with the LCC of its LCLK. -/
def State.sendMarker (s : State) (m : Marker) : State := s.emit [(headMarker, m.payload, 0)]

/-- A marker of the measuring instance whose answer is due. -/
def State.ask (s : State) (kind seq : Nat) : State :=
  ({ s with lat := { s.lat with seq := seq, sentAt := s.lat.lcc, waiting := true } }).sendMarker
    ⟨kind, seq, s.lat.lcc, s.obj .phyLatPad, s.lat.padFar, s.trn.target⟩

/-- An attempt begins: both pads 0, MEASURE leaves (R79). -/
def State.startMeasure (s : State) (attempt : Nat) : State :=
  let s : State := { s with lat := { s.lat with attempt := attempt, rts := [], padFar := 0, repeatTry := false } }
  (s.setObj .phyLatPad 0).ask 1 0

/-- LATENCY ends unlocked: both pads are 0 (R80, R82). -/
def State.latencyFails (s : State) (cause : Nat) : State :=
  let s : State := { s with lat := { s.lat with settled := true, waiting := false, padFar := 0 } }
  ((s.setLat cause true).setLat 0 false).setObj .phyLatPad 0

/-- An attempt in LATENCY fails: three are made (R82). -/
def State.attemptFails (s : State) : State :=
  if s.lat.attempt < 3 then s.startMeasure (s.lat.attempt + 1) else s.latencyFails 2

/-- The lock is lost in service (R84). -/
def State.lockLost (s : State) : State :=
  let s : State := { s with lat := { s.lat with waiting := false, repeatTry := false } }
  ((s.setLat 3 true).setLat 0 false).unlocked

/-- A check of a locked link fails: it is repeated at once, then the lock is lost (R84). -/
def State.checkFails (s : State) : State :=
  if s.lat.repeatTry then s.lockLost
  else ({ s with lat := { s.lat with repeatTry := true } }).ask 4 ((s.lat.seq + 1) % 256)

/-- MEASURE delivered: RETURN enters the pipe 4 LCLK later. -/
def State.gotMeasure (s : State) (m : Marker) : State :=
  s.whenOk (s.inLatency && !s.measures) fun s =>
    let s := (s.setObj .phyLatPad 0).setLat 0 false
    s.sendMarker ⟨2, m.seq, (s.lat.lcc + 4) % 2 ^ 48, m.padM, m.padN, m.target⟩

/-- RETURN delivered: RT; after two equal values the pads, SET and VERIFY (R79 to R82). -/
def State.gotReturn (s : State) (m : Marker) : State :=
  s.whenOk (s.inLatency && s.measures && s.lat.waiting && s.lat.rts.length < 2 && m.seq = s.lat.seq) fun s =>
    let rt := lccDiff s.lat.lcc s.lat.sentAt - 4
    let rts := s.lat.rts ++ [rt]
    let s : State := { s with lat := { s.lat with rts := rts, waiting := false } }
    let s := s.setObj .phyLatRt rt
    match rts with
    | [a, b] =>
      let t := s.trn.target
      if a != b then s.attemptFails
      else if t < ceilDiv a 2 then s.latencyFails 1
      else
        let padM := t - a / 2
        let padN := t - ceilDiv a 2
        let s : State := { s with lat := { s.lat with padFar := padN, seq := 2 } }
        let s := (s.setObj .phyLatPad padM).sendMarker ⟨3, 2, s.lat.lcc, padM, padN, t⟩
        s.ask 4 3
    | _ => s

/-- LAT_MEASURE_REPEAT: the second MEASURE. -/
def execLatMeasureRepeat (s : State) : Host.Outcome State Fault Refusal :=
  s.run fun s => s.whenOk (s.inLatency && s.measures && s.lat.rts.length = 1 && !s.lat.waiting && !s.lat.settled) fun s => s.ask 1 1

/-- SET delivered: PAD_N is applied and the LCC loaded with s + T (R81). -/
def State.gotSet (s : State) (m : Marker) : State :=
  s.whenOk (s.inLatency && !s.measures) fun s =>
    (({ s with lat := { s.lat with lcc := (m.lcc + m.target) % 2 ^ 48 } }).setObj .phyLatPad m.padN)

/-- VERIFY delivered: the check, and VERIFY_RETURN with its result in SEQ bit 0 (R82, R84). -/
def State.gotVerify (s : State) (m : Marker) : State :=
  s.whenOk (!s.measures) fun s =>
    let ok := lccDiff s.lat.lcc m.lcc = m.target
    let s := s.sendMarker ⟨5, ofBool ok, s.lat.lcc, m.padM, m.padN, m.target⟩
    if s.inLatency then
      if ok then ({ s with lat := { s.lat with settled := true, repeatTry := false } }).setLat 0 true else s
    else if ok then { s with lat := { s.lat with repeatTry := false } }
    else if s.locked then (if s.lat.repeatTry then s.lockLost else { s with lat := { s.lat with repeatTry := true } })
    else s

/-- VERIFY_RETURN delivered. -/
def State.gotVerifyReturn (s : State) (m : Marker) : State :=
  s.whenOk (s.measures && s.lat.waiting && (s.lat.rts.length = 2 || !s.inLatency)) fun s =>
    let ok := lccDiff s.lat.lcc m.lcc = s.trn.target && m.seq.testBit 0
    let s : State := { s with lat := { s.lat with waiting := false } }
    if s.inLatency then
      if ok then ({ s with lat := { s.lat with settled := true } }).setLat 0 true else s.attemptFails
    else if ok then { s with lat := { s.lat with repeatTry := false } }
    else s.whenOk s.locked fun s => s.checkFails

/-- LAT_CHECK_TIMER (R84). -/
def execLatCheckTimer (s : State) : Host.Outcome State Fault Refusal :=
  s.run fun s => s.whenOk (s.linkCarries && s.locked && s.measures && s.obj .phyLatCheckInt != 0 && !s.lat.waiting) fun s =>
    s.ask 4 ((s.lat.seq + 1) % 256)

/-- MARKER_TIMEOUT (04, R107): no answer within 2T + 64 LCLK. -/
def execMarkerTimeout (s : State) : Host.Outcome State Fault Refusal :=
  s.run fun s => s.whenOk (s.flitsRun && s.measures && s.lat.waiting) fun s =>
    let s : State := { s with lat := { s.lat with waiting := false } }
    if s.inLatency then s.attemptFails else s.whenOk s.locked fun s => s.checkFails

/-- A marker delivered. -/
def State.gotMarker (s : State) (m : Marker) : State :=
  match m.kind with
  | 1 => s.gotMeasure m
  | 2 => s.gotReturn m
  | 3 => s.gotSet m
  | 4 => s.gotVerify m
  | 5 => s.gotVerifyReturn m
  | _ => s

end Sys2Proof.Machine
end

