-- ==== Sys2Proof/Machine/LinkRx.lean ====
section
/-! DEFINITION. The link receiver (04, R94 to R103, R115 to R120, R123; 03, R73): how a flit is classed, what it counts, what its CTRL
delivers, and what it does. -/

namespace Sys2Proof.Machine

/-! ### Classing a flit -/

/-- What the receiver makes of a flit: whether it passes, whether only under the pending map (03, R73), and its bytes after FEC. -/
structure Look where
  pass : Bool
  viaPending : Bool
  out : FecOut
  deriving DecidableEq, Repr

/-- E. -/
def State.rxE (s : State) : Nat := s.obj .lnkRxExpect

/-- The flit under the current map, or under the pending one while that is ready; none for a masked slot, which is treated as empty
(03, R67). -/
def State.look (s : State) (f : RxFlit) : Option Look :=
  let masked := !s.rxSlots.contains f.slot.val
  let cur := fecDecode f.bytes
  let pend := match s.lanes.rxPlan with
    | some p => p.ready
    | none => false
  if !masked && flitPasses cur s.rxE then some ⟨true, false, cur⟩
  else
    let alt := fecDecode f.alt
    if pend && flitPasses alt s.rxE then some ⟨true, true, alt⟩
    else if masked then none else some ⟨false, false, cur⟩

/-! ### Counting (R94, R118, R119) -/

/-- Corrected bytes go to the lanes that carried them: the fault rule's window, and 16 points each in a diagnosis. -/
def State.attribute (s : State) (slot : Nat) (fixed : List Nat) : State :=
  let lanes := (fixed.map fun b => s.entry .phyRxMap (laneOfByte slot b)).filter fun p => p < 72
  let recent := s.rx.fecHits.filter fun h => s.aon.lclk - h.2 < 65536
  let hits := recent ++ lanes.map fun p => (p, s.aon.lclk)
  let diag := s.rx.diag.map fun d => ({ d with scores := lanes.foldl (fun l p => l.set p (l.getD p 0 + 16)) d.scores } : Diagnosis)
  { s with rx := { s.rx with fecHits := hits, diag := diag } }

/-- A flit slot is counted: the sub-window of 2^14 slots, and a diagnosis's slots. -/
def State.countSlot (s : State) : State :=
  let n := s.rx.slots + 1
  let diag := s.rx.diag.map fun d => ({ d with slotsLeft := d.slotsLeft - 1 } : Diagnosis)
  let w := if n < 16384 then s.rx.window else 0 :: s.rx.window.take 63
  let x : LinkRx := { s.rx with slots := if n < 16384 then n else 0, window := w, diag := diag }
  ({ s with rx := x }).setObj .lnkErrWindow (min 65535 w.sum)

/-- A counted error (R118): each of its slot's 16 lanes gains a point in a diagnosis. -/
def State.countError (s : State) (slot : Nat) : State :=
  let w := match s.rx.window with
    | a :: rest => (a + 1) :: rest
    | [] => [1]
  let lanes := ((List.range 16).map fun j => s.entry .phyRxMap (16 * slot + j)).filter fun p => p < 72
  let diag := s.rx.diag.map fun d => ({ d with scores := lanes.foldl (fun l p => l.set p (l.getD p 0 + 1)) d.scores } : Diagnosis)
  let x : LinkRx := { s.rx with window := w, diag := diag }
  (({ s with rx := x }).setObj .lnkErrWindow (min 65535 w.sum)).count .lnkCrcErrs 1

/-- ERROR_RATE (R120). -/
def State.checkErrorRate (s : State) : State :=
  if s.linkUp && s.obj .lnkDown ≤ s.rx.window.sum then s.linkDown downErrorRate else s

/-! ### CTRL (R89, R99, R103, R116; 03, R72) -/

/-- The CTRL of a flit that passes is delivered. -/
def State.deliverCtrl (s : State) (c : Nat) : State :=
  let v := field c 15 0
  let valid := (v + 65536 - s.txA) % 65536 ≤ s.inFlight
  let s := s.ackDelivered v
  let s := if bit c 23 && valid then s.nakReplay v else s
  let seen := if bit c 22 then some (field c 21 18) else none
  let s : State := { s with tx := { s.tx with xoffSeen := field c 31 24, farEmpty := bit c 17 }, lanes := { s.lanes with readySeen := seen } }
  s.setFld .lnkXoffState 7 0 (field c 31 24)

/-! ### DATA (R91, R97, R115, R117) -/

/-- The sequenced flit numbered E is taken (R97, R102). -/
def State.advanceE (s : State) : State :=
  ({ s with rx := { s.rx with discard := false } }).setObj .lnkRxExpect ((s.rxE + 1) % 65536)

/-- A response packet that came over the link counts towards its request's crossing record (R123). -/
def State.countCrossing (s : State) (h : Hdr) : State :=
  if isRequest h.type then s
  else
    let l := s.crossings.filterMap fun c =>
      if answers h c.hdr then
        if h.synth || h.type == tErrCpl || h.msgCount ≤ c.got + 1 then none else some ({ c with got := c.got + 1 } : Crossing)
      else some c
    { s with crossings := l }

/-- An accepted DATA flit. -/
def State.acceptData (s : State) (bs : List Byte) : State :=
  let vc := flitVc bs
  let head := flitHead bs
  let pay := flitPayload bs
  let full := s.regionFree vc = 0
  let old : Option Partial := if bit head 7 then none else s.rx.part
  let start : Option Partial :=
    if bit head 7 then
      let h := Hdr.ofBytes pay
      let short := 32 * h.len ≤ 212
      some ⟨vc, h, if short then slice pay 24 212 else [], if short && bit head 5 then [(0, 32 * h.len)] else [], 1, full⟩
    else old.map fun p =>
      let lo := 236 * (p.flits - 1)
      { p with payload := p.payload ++ pay, poison := if bit head 5 then p.poison ++ [(lo, min (32 * p.hdr.len) (lo + 236))] else p.poison,
               flits := p.flits + 1, overflow := p.overflow || full }
  let s := s.noteIn .link 1
  match start with
  | none => s
  | some p =>
    let first := p.overflow && !((old.map (·.overflow)).getD false)
    let s := s.whenOk first fun t => (t.count .lnkVcOverflow 1).raise 0x31 1 (some .lnkVcOverflow) [b8 1, b8 vc]
    if bit head 6 then
      let s : State := { s with rx := { s.rx with part := none } }
      if p.overflow then s.updateXoff
      else
        let q : InPkt := ⟨p.packet, p.vc, p.flits⟩
        (({ s with rx := { s.rx with queue := s.rx.queue ++ [q] } }).countCrossing p.hdr).updateXoff
    else ({ s with rx := { s.rx with part := some p } }).updateXoff

/-! ### A flit is received -/

/-- A failed flit (R96, R102): discarded; the discard state begins. -/
def State.failFlit (s : State) (slot : Nat) (o : FecOut) : State :=
  let counted := !s.rx.discard || !flitSq o.bytes || o.bad != 0
  let s := if counted then s.countError slot else s
  if s.rx.discard then s else { s with rx := { s.rx with discard := true, nakNow := true } }

/-- What a flit that passes does, by its kind (R97). -/
def State.useFlit (s : State) (bs : List Byte) : State :=
  match kindOf bs with
  | .data => s.advanceE.acceptData bs
  | .idle => s
  | .prepare => s.advanceE.acceptPrepare (flitPayload bs)
  | .cancel => s.advanceE.dropPending
  | .commit => s.acceptCommit (flitPayload bs)
  | .proto => (if flitSq bs then s.advanceE else s).count .lnkProtoErrs 1
  | _ => s.gotMarker (Marker.parse (flitPayload bs))

/-- A flit is received: counted, its CTRL delivered, and used. -/
def State.receive (s : State) (f : RxFlit) : State :=
  match s.look f with
  | none => s
  | some l =>
    let s := if l.viaPending then s.switchRx.count .phyCommitMissed 1 else s
    let s := ((s.attribute f.slot l.out.fixed).count .lnkFecCorr l.out.fixed.length).count .lnkFecUncorr l.out.bad
    let s := s.countSlot
    if l.pass then (s.deliverCtrl (flitCtrl l.out.bytes)).useFlit l.out.bytes |>.checkErrorRate
    else (s.failFlit f.slot l.out).checkErrorRate

/-- The class that decides which row a flit belongs to: none when it fails. -/
def State.classFlit (s : State) (f : RxFlit) : Option (Option FlitKind) :=
  (s.look f).map fun l => if l.pass then some (kindOf l.out.bytes) else none

/-- Markers and COMMIT are the lane controller's, which a takeover does not stop (12, R322). -/
def FlitKind.controller : FlitKind → Bool
  | .data => false
  | .idle => false
  | .prepare => false
  | .cancel => false
  | .proto => false
  | _ => true

/-- The flits of the receive log are processed (12, R331). -/
def State.clearLog (s : State) : State :=
  let l := s.rx.log
  l.foldl (fun t f => t.receive f) { s with rx := { s.rx with log := [] } }

/-! ### Timers and limits -/

/-- NAK_REPEAT (R102). -/
def execNakRepeat (s : State) : Host.Outcome State Fault Refusal :=
  s.run fun s => s.whenOk (s.flitsRun && s.rx.discard) fun s => { s with rx := { s.rx with nakNow := true } }

/-- A diagnosis over the next 2^16 flit slots. -/
def State.startDiagnosis (s : State) : State :=
  ({ s with rx := { s.rx with diag := some ⟨65536, List.replicate 72 0⟩ } }).setFld .lnkDiagState 0 0 1

/-- DIAGNOSIS_START: the count has reached LNK_WARN (R119). -/
def execDiagnosisStart (s : State) : Host.Outcome State Fault Refusal :=
  s.run fun s => s.whenOk (s.linkUp && s.rx.diag.isNone && s.obj .lnkWarn ≤ s.rx.window.sum) fun s => s.startDiagnosis

/-- The lane that a diagnosis names: a score of at least 256 and at least twice the next highest. -/
def namedLane (scores : List Nat) : Option Nat :=
  (List.range 72).find? fun p =>
    let v := scores.getD p 0
    256 ≤ v && (List.range 72).all fun q => q = p || 2 * scores.getD q 0 ≤ v

/-- DIAGNOSIS_END: its 2^16 slots have passed. -/
def execDiagnosisEnd (s : State) : Host.Outcome State Fault Refusal :=
  s.run fun s =>
    match s.rx.diag with
    | none => s
    | some d => s.whenOk (d.slotsLeft = 0) fun s =>
        let s : State := { s with rx := { s.rx with diag := none } }
        let s := match namedLane d.scores with
          | some p =>
            let s := s.setObj .lnkDiagState (p * 256)
            if s.linkUp && s.rxActive p && !s.rxFailed p then s.declareFault p 3 else s
          | none => (s.setObj .lnkDiagState (0xFF00 + 2)).raise 0x31 1 (some .lnkDiagState) [b8 2]
        if s.linkUp && s.obj .lnkWarn ≤ s.rx.window.sum then s.startDiagnosis else s

/-- IDLE_LIMIT_TIMEOUT (R120). -/
def execIdleLimitTimeout (s : State) : Host.Outcome State Fault Refusal := s.run fun s => s.linkDown downNoFlit

/-- ACK_STALL_TIMEOUT (R120): flits are unacknowledged. -/
def execAckStallTimeout (s : State) : Host.Outcome State Fault Refusal :=
  s.run fun s => s.whenOk (s.inFlight != 0) fun s => s.linkDown downAckStall

/-- LNK_FORCE_DOWN (R120). -/
def execLnkForceDown (r : Requester) (s : State) : Host.Outcome State Fault Refusal :=
  s.access r fun s => (s.linkDown downForced).reply stOk

end Sys2Proof.Machine
end

