-- ==== Sys2Proof/Machine/Training.lean ====
section
/-! DEFINITION. Training (03, R60 to R65; 05, R139; 13, R347), the sideband (02, R47, R48; 03, R62; 16, R421), and the slate record
(05, R138). -/

namespace Sys2Proof.Machine

/-! ### The slate record (05, R138) -/

/-- FW_VERSION: the version of the loaded image, 0 when none is loaded (16, R422). -/
def State.fwVersion (s : State) : Nat := if s.pwr.fwImage.isEmpty then 0 else valAt s.pwr.fwImage 8 2

/-- This instance's own slate as a number of 384 bits. -/
def State.slateNat (s : State) : Nat :=
  packFields [(64, s.obj .mgtSerial), (8, s.obj .mgtFamily), (8, s.aon.side), (16, s.obj .mgtStepping), (12, s.fa), (4, 0),
    (8, s.fld .mgtRingState 5 0), (8, s.obj .phyRateMax), (32, s.obj .mgtLanes), (32, s.obj .mgtCells), (32, s.obj .mgtScratchKib),
    (8, s.obj .mgtSubq), (8, s.obj .phyLatTarget), (16, s.fwVersion), (64, field s.farSlate 63 0), (64, 0)]

def State.slate (s : State) : List Byte := toBytes 48 s.slateNat

/-- The slate leaves in a SLATE frame (05, R139). -/
def State.sendSlate (s : State) : State := s.whenOk s.sbUp fun s => s.out (.sideband 2 s.slate)

/-! ### States of training -/

/-- Every lane at its target with all offsets 0 (13, R347), and the sets of the last write in force (R346). -/
def State.loadAllTrims (s : State) : State :=
  let s : State := { s with cal := { s.cal with setsNow := [], recal := none } }
  (List.range 72).foldl (fun t p => (t.setEntry .calTrimOffset p 0).loadTrims p t.trn.rate) s

/-- EQUALISE begins: LCLK moves to the attempt's rate (R51). -/
def State.enterEqualise (s : State) : State :=
  let s : State := { s with trn := { s.trn with lclkRate := s.trn.rate } }
  s.loadAllTrims.enterTraining 4

/-- R59 and R65 at MAP: width and map of the transmitter, generation 0; the map goes to the far side. -/
def State.enterMap (s : State) : State :=
  let bad := s.lanes72 .phyTxFailed
  let good := (List.range 72).filter fun p => !bad.testBit p
  let w := widthFor s.trn.widthMax good.length
  let s := ((List.range 64).foldl (fun t l => t.setEntry .phyTxMap l (if l < w then good.getD l 255 else 255)) s).setObj .phyTxWidth w
  let l : Lanes := { s.lanes with txPlan := none, rxPlan := none, prepareDue := false, retryDue := false, lastGen := 0, readySeen := none, planF := 0,
                                  planFails := 0, planAdded := 0 }
  let s := ({ s with lanes := l }).setObj .phyMapGen 0
  let s : State := { s with trn := { s.trn with done := true } }
  (s.setObj .phyTrnState 6).sendTrain (s.trainFrame 6)

/-- The far serial of a TRAIN_FAIL event. -/
def State.farSerialBytes (s : State) : List Byte := toBytes 8 (field s.farSlate 63 0)

/-- An attempt fails (R64): up to four in all, then the link waits in DOWN. A failed planned retrain takes the link down (R60). -/
def State.trainingFails (s : State) : State :=
  let st := s.obj .phyTrnState
  if s.trn.planned then s.linkDown downRetrain
  else
    let n := s.trn.attempts + 1
    let s := s.setObj .phyTrnFails (n % 16 + st * 16)
    let s : State := { s with trn := { s.trn with attempts := n, bootWait := false } }
    if n < 4 then s.startAttempt
    else
      let s := (s.stopTraining.setObj .lnkState 4).raise 0x22 2 (some .phyTrnFails) ([b8 st, b8 n] ++ zeros 6 ++ s.farSerialBytes)
      -- R420: bring-up stops at step 4 or 5
      if inRange 4 5 (s.fld .pwrBringupState 3 0) && s.fld .pwrBringupState 15 8 = 0 then s.setFld .pwrBringupState 15 8 3 else s

/-- After LANE_CHECK (R64): a shortfall of lanes steps the rate down, or fails the attempt at rate code 2. -/
def State.afterCheck (s : State) : State :=
  let short := 72 - popcount 72 (s.lanes72 .phyTxFailed) < s.trn.widthMin || 72 - popcount 72 (s.lanes72 .phyRxFailed) < s.trn.widthMin
  if !short then s.enterMap
  else match s.rateLeft (s.trn.rate + 1) with
    | some r =>
      if r ≤ 2 then ({ s with trn := { s.trn with rate := r, farDone := 3 } }).enterEqualise else s.trainingFails
    | none => s.trainingFails

/-- The rate of an attempt (R63 SLATE): the slower of the two limits; and which instance measures (R78). -/
def State.afterSlate (s : State) : State :=
  let far := s.farSlate
  if s.sSide && field far 79 72 = 1 then
    -- R11: two S-side instances
    (s.stopTraining.setObj .lnkState 0).raise 0x22 2 (some .pktFarSlate) ([b8 2, b8 s.trn.attempts] ++ zeros 6 ++ s.farSerialBytes)
  else
    let measure := if field far 79 72 != s.aon.side then s.hSide else s.obj .mgtSerial < field far 63 0
    match s.rateLeft (max (s.obj .phyRateMax) (field far 127 120)) with
    | none => s.trainingFails
    | some r => (({ s with trn := { s.trn with rate := r, lclkRate := r } }).setLat 4 measure).enterTraining 3

/-- Training moves on when both sides have ended a state's work. -/
def State.advanceTraining (s : State) : State :=
  if !s.trn.running then s
  else match s.obj .phyTrnState with
    | 1 => if s.sbUp && s.trn.farFrames != 0 then (s.enterTraining 2).sendSlate |> fun t => if t.trn.slateSeen then t.afterSlate else t else s
    | 2 => if s.trn.slateSeen then s.afterSlate else s
    | 3 => if s.trn.done && 3 ≤ s.trn.farDone then s.enterEqualise else s
    | 4 => if s.trn.done && 4 ≤ s.trn.farDone then s.enterTraining 5 else s
    | 5 => if s.trn.done && 5 ≤ s.trn.farDone then s.afterCheck else s
    | 6 => if 6 ≤ s.trn.farDone then s.enterTraining 7 else s
    | _ => s

/-- A state's work has ended here: its result goes to the far side. -/
def State.endWork (s : State) : State :=
  let s : State := { s with trn := { s.trn with done := true } }
  (s.sendTrain (s.trainFrame (s.obj .phyTrnState))).advanceTraining

/-! ### Planned retrain (R60) -/

/-- Both instances send EMPTY and the far side has joined: training runs from EQUALISE. -/
def State.tryEqualise (s : State) : State :=
  if s.trn.holding && s.sendsEmpty && s.tx.farEmpty && s.trn.farState = 4 then
    let t : Training := { s.trn with holding := false, running := true, farDone := 3, done := false, attempts := 0, target := s.obj .phyLatTarget,
                                     widthMax := s.obj .phyWidthMax, widthMin := s.obj .phyWidthMin, checkErrs := s.obj .phyCheckErrs }
    (({ s with trn := t }).dropPlans).enterEqualise
  else s

/-- This instance joins a planned retrain at a rate code. -/
def State.startRetrain (s : State) (rate : Nat) (farIn : Bool) : State :=
  let s := s.abandonTests isLaneTest
  let t : Training := { s.trn with planned := true, holding := true, rate := rate, farState := if farIn then 4 else s.trn.farState }
  let s := ({ s with trn := t }).setObj .lnkState 3
  (s.sendTrain { s.trainFrame 4 with done := false }).tryEqualise

/-- A write of 2 to PHY_TRN_START: accepted only while the link is ACTIVE. -/
def State.writeRetrain (s : State) : State × Nat :=
  if s.obj .lnkState != 2 then (s, stDenied)
  else match s.rateLeft (s.obj .phyRateMax) with
    | some c => (({ s with trn := { s.trn with farState := 0 } }).startRetrain c false, stOk)
    | none => (s, stDenied)

/-- PLANNED_RETRAIN. -/
def execPlannedRetrain (r : Requester) (s : State) : Host.Outcome State Fault Refusal :=
  s.access r fun s => let x := s.writeRetrain; x.1.reply x.2

/-- A write of 1 to PHY_TRN_START: accepted only while LNK_STATE is 0 or 4. -/
def State.writeTrain (s : State) : State × Nat :=
  if s.obj .lnkState = 0 || s.obj .lnkState = 4 then (s.startTraining false, stOk) else (s, stDenied)

/-- TRN_START. -/
def execTrnStart (r : Requester) (s : State) : Host.Outcome State Fault Refusal :=
  s.access r fun s => let x := s.writeTrain; x.1.reply x.2

/-! ### TRAIN frames -/

/-- The result that a TRAIN frame carries is taken (R54, R61, R347, R63). -/
def State.takeResult (s : State) (f : TrainFrame) : State :=
  if !f.done then s
  else
    let s : State := { s with trn := { s.trn with farDone := max s.trn.farDone f.state } }
    match f.state with
    | 3 => (List.range 72).foldl (fun t i => t.setEntry .phyFarConnect i (f.connect.getD i 255)) s
    | 4 => if f.offsets.isEmpty then s else
        (List.range 72).foldl (fun t p => t.setEntry .calTrimOffset p (setField (t.entry .calTrimOffset p) 63 32 (f.offsets.getD p 0))) s
    | 5 => s.setLanes72 .phyTxFailed (f.failed % 2 ^ 72 ||| s.screenLanes false ||| ((List.range 8).filter fun g => !s.poweredDom (2 + g)).foldl (fun m g => m ||| groupMask g) 0)
    | 6 =>
      let w := (f.map.filter fun t => t ≤ 71).length
      let m := s.rxMapOf f.map
      ((List.range 64).foldl (fun t l => t.setEntry .phyRxMap l (m.getD l 255)) s).setObj .phyRxWidth w
    | _ => s

/-- TRAIN (R63, R121): state DOWN takes the link down; EQUALISE on an active link starts a planned retrain; otherwise the handshake
moves on. -/
def execTrain (f : TrainFrame) (s : State) : Host.Outcome State Fault Refusal :=
  s.run fun s => s.whenOk (s.sbUp && s.linkCore) fun s =>
    if f.state = 0 then s.linkDown downFar
    else
      let s : State := { s with trn := { s.trn with farState := f.state, farFrames := s.trn.farFrames + 1, bootWait := false } }
      if s.obj .lnkState = 2 && f.state = 4 then
        match s.rateLeft (max (s.obj .phyRateMax) f.rate) with
        | some r => s.startRetrain r true
        | none => s.linkDown downRetrain
      else if s.trn.holding then
        (if f.state = 4 then { s with trn := { s.trn with rate := max s.trn.rate f.rate } } else s).tryEqualise
      else if s.trn.running then
        let s := if f.state = 9 && s.inLatency then { s with lat := { s.lat with settled := true } } else s
        (s.takeResult f).advanceTraining
      else s

/-- TRAIN_FRAME_REPEAT (R62): every 2 µs until the far side shows the next state. -/
def execTrainFrameRepeat (s : State) : Host.Outcome State Fault Refusal :=
  s.run fun s =>
    match s.trn.lastFrame with
    | none => s
    | some f => s.whenOk (s.sbUp && !(f.state < s.trn.farState) && !(f.state = 9 && s.trn.farState = 9)) fun s => s.out (.train f)

/-! ### Ends of the states -/

/-- CONNECT_DONE (R54). -/
def execConnectDone (table : List Nat) (s : State) : Host.Outcome State Fault Refusal :=
  s.run fun s => s.whenOk (s.trn.running && s.obj .phyTrnState = 3 && !s.trn.done) fun s =>
    ((List.range 72).foldl (fun t i => t.setEntry .phyRxConnect i (table.getD i 255)) s).endWork

/-- The offset that an adapted code gives (13, R347): none outside the plausibility window. -/
def State.learn (s : State) (p k : Nat) (code : Int) : Option Int :=
  if windowLow k ≤ code ∧ code ≤ windowHigh k then some (code - s.zeroTarget p k s.trn.rate) else none

/-- The receive trims that a lane has adapted, and the events of those outside their windows. -/
def State.learnLane (s : State) (p code : Nat) : State :=
  rxTrims.foldl (fun t k =>
    match t.learn p k (trimByte code k) with
    | some d => t.setEntry .calTrimOffset p (setTrimByte (t.entry .calTrimOffset p) k d)
    | none => t.raise 0x23 1 (some .calTrimOffset) [b8 2, b8 p, b8 k]) s

/-- The transmit offsets learned for the far lane that feeds receive lane p, as bytes 4 to 7. -/
def State.learnFar (s : State) (p tx code : Nat) : Nat × State :=
  txTrims.foldl (fun (acc : Nat × State) k =>
    match acc.2.learn tx k (trimByte code k) with
    | some d => (setTrimByte acc.1 (k - 4) d, acc.2)
    | none => (acc.1, acc.2.raise 0x23 1 (some .calTrimOffset) [b8 2, b8 p, b8 k])) (0, s)

/-- EQUALISE_DONE (13, R347): offsets learned; those of the far side's transmit trims go to it. -/
def execEqualiseDone (codes : List Nat) (s : State) : Host.Outcome State Fault Refusal :=
  s.run fun s => s.whenOk (s.trn.running && s.obj .phyTrnState = 4 && !s.trn.done) fun s =>
    let step := fun (acc : List Nat × State) (p : Nat) =>
      let c := codes.getD p 0
      let s := acc.2.learnLane p c
      let conn := s.entry .phyRxConnect p
      if conn = 255 then (acc.1, s)
      else
        let (v, s) := s.learnFar p (conn % 128) c
        (acc.1.set (conn % 128) v, s)
    let (offs, s) := (List.range 72).foldl step (List.replicate 72 0, s)
    let s := (List.range 72).foldl (fun t p => t.loadTrims p t.trn.rate) s
    let s : State := { s with trn := { s.trn with done := true } }
    (s.sendTrain { s.trainFrame 4 with offsets := offs }).advanceTraining

/-- LANE_CHECK_DONE (R63, R55): lanes with too many errors, without CDR lock, or of a group that is off become Failed. -/
def execLaneCheckDone (errors noLock : List Nat) (s : State) : Host.Outcome State Fault Refusal :=
  s.run fun s => s.whenOk (s.trn.running && s.obj .phyTrnState = 5 && !s.trn.done) fun s =>
    let bad := (List.range 72).filter fun p =>
      s.trn.checkErrs < errors.getD p 0 || noLock.contains p || (s.screenLanes true).testBit p || !s.poweredDom (2 + p / 9)
    (s.setLanes72 .phyRxFailed (bad.foldl (fun m p => setBit m p true) 0)).endWork

/-- FLIT_SYNC (04, R98): numbers start at 0 but in a planned retrain; LCC, scramblers, the error count and the buckets start; the spill
key is drawn (R110). The measuring instance begins its first attempt. -/
def execFlitSync (s : State) : Host.Outcome State Fault Refusal :=
  s.run fun s => s.whenOk (s.trn.running && s.obj .phyTrnState = 7) fun s =>
    let x : LinkRx := { s.rx with discard := false, nakNow := false, window := List.replicate 64 0, slots := 0, diag := none, fecHits := [], log := [] }
    let l : Latency := { s.lat with attempt := 0, seq := 0, waiting := false, rts := [], padFar := 0, lcc := 0, settled := false, repeatTry := false }
    let s : State := { s with rx := x, lat := l, lanes := { s.lanes with scramAge := 0 } }
    let s := ((s.setObj .lnkErrWindow 0).setObj .lnkCrcErrs 0).setObj .lnkDiagState 0
    let s := if s.trn.planned then s
             else
               let t : LinkTx := { s.tx with spillKey := some (Config.random s.tx.draws), draws := s.tx.draws + 1, xoffSeen := 0, farEmpty := false }
               ((((({ s with tx := t }).setObj .lnkTxSeq 0).setObj .lnkTxAcked 0).setObj .lnkRxExpect 0).setObj .lnkSpillState 0).showSpill
    let s := ((s.setFld .phyLatState 3 0 0).setObj .phyLatPad 0).updateXoff.fillBuckets.enterTraining 8
    if s.measures then s.startMeasure 1 else s

/-- LINK_ACTIVE (R125): LATENCY has ended and nothing that came over the link before still runs. -/
def execLinkActive (s : State) : Host.Outcome State Fault Refusal :=
  s.run fun s => s.whenOk (s.trn.running && s.inLatency && s.lat.settled && !s.linkHeld) fun s =>
    let changed := s.trn.activeRate.isSome && s.trn.activeRate != some s.trn.rate
    let s := s.enterTraining 9
    let s : State := { s with trn := { s.trn with running := false, planned := false, activeRate := some s.trn.rate } }
    let s := (s.setObj .lnkState 2).setObj .phyRate s.trn.rate
    let s := if changed then s.clearObj .ageHistory else s
    if s.locked then s.startGates else s.unlocked

/-- TRAIN_STATE_TIMEOUT (R63, R421): not while the first attempt of bring-up waits for the far side, nor while LATENCY is held for what
still runs (04, R125). -/
def execTrainStateTimeout (s : State) : Host.Outcome State Fault Refusal :=
  s.run fun s => s.whenOk (s.trn.running && !(s.trn.bootWait && s.trn.farFrames = 0) && !(s.inLatency && s.lat.settled && s.linkHeld)) fun s =>
    s.trainingFails

/-! ### The sideband -/

/-- SB_STATE leaves on the lanes in use (02, R47). -/
def State.sendSbState (s : State) : State :=
  if s.sb.synced && s.sb.farUsable != 0 then s.out (.sideband 5 [b8 s.sb.rxUsable]) else s

/-- SB_LANE_FAILED. -/
def execSbLaneFailed (lane : Fin 2) (s : State) : Host.Outcome State Fault Refusal :=
  s.run fun s => s.whenOk (s.sb.rxUsable.testBit lane) fun s =>
    let s : State := { s with sb := { s.sb with rxUsable := setBit s.sb.rxUsable lane false } }
    let s := s.sendSbState.raise 0x23 1 none [b8 0, b8 lane]
    if s.sbDown then s.linkDown downSideband else s

/-- SB_LANE_USABLE. -/
def execSbLaneUsable (lane : Fin 2) (s : State) : Host.Outcome State Fault Refusal :=
  s.run fun s => s.whenOk (!s.sb.rxUsable.testBit lane) fun s =>
    ({ s with sb := { s.sb with rxUsable := setBit s.sb.rxUsable lane true } }).sendSbState

/-- SB_STATE_TIMER: every 1 ms. -/
def execSbStateTimer (s : State) : Host.Outcome State Fault Refusal := s.run fun s => s.sendSbState

/-- SB_STATE (02, R48). It arrives on a receive lane that is usable. -/
def execSbState (bits : Nat) (s : State) : Host.Outcome State Fault Refusal :=
  s.run fun s => s.whenOk (s.sb.synced && s.sb.rxUsable != 0) fun s =>
    let was := s.sbDown
    let s : State := { s with sb := { s.sb with farUsable := bits % 4 } }
    if s.sbDown && !was then (if s.linkUp then s.linkDown downSideband else s.raise 0x23 1 none [b8 0]) else s

/-- Frame types that are not reserved (R61; 15, R380). -/
def frameKnown (type : Nat) : Bool := inRange 1 5 type || type = 0x10 || type = 0x20 || type = 0x21

/-- SIDEBAND_FRAME_DISCARD (R62). -/
def execSidebandFrameDiscard (type len : Nat) (crcOk : Bool) (s : State) : Host.Outcome State Fault Refusal :=
  s.run fun s => s.whenOk (!crcOk || !frameKnown type || 64 < len) fun s => s.count .phySbErrs 1

/-- SB_CHARACTER_LOCK (16, R421): a TRAIN frame of an attempt that waits leaves now. -/
def execSbCharacterLock (s : State) : Host.Outcome State Fault Refusal :=
  s.run fun s =>
    let s : State := { s with sb := { s.sb with synced := true } }
    match s.trn.lastFrame with
    | some f => (s.whenOk (s.trn.running && s.sbUp) fun s => s.out (.train f)).advanceTraining
    | none => s

/-- SLATE (05, R139): the far slate is kept; in SLATE it ends the exchange. -/
def execSlate (bytes : List Byte) (s : State) : Host.Outcome State Fault Refusal :=
  s.runIf (bytes.length == 48) "SLATE" fun s => s.whenOk s.sbUp fun s =>
    let s := (List.range 48).foldl (fun t i => t.setEntry .pktFarSlate i (valAt bytes i 1)) s
    ({ s with trn := { s.trn with slateSeen := s.trn.running } }).advanceTraining

end Sys2Proof.Machine
end

