-- ==== Sys2Proof/Machine/Calib.lean ====
section
/-! DEFINITION. Calibration, trimming and ageing (13): temperatures and trim steps, background recalibration, the deskew check, the
sequencer's watchdog, ageing monitors, eye scans, and the margin plan with its retirements and rate steps. -/

namespace Sys2Proof.Machine

/-! ### Stepping (R346, R348) -/

/-- Lane p carries data in the direction of trim k: Active, or the Spare that serves as eye monitor. -/
def State.carries (s : State) (p k : Nat) : Bool :=
  if rxTrims.contains k then s.rxActive p || s.cal.monitor == some p else s.txActive p

/-- The applied code of trim k of lane p. -/
def State.applied (s : State) (p k : Nat) : Int := trimByte (s.entry .calTrimNow p) k

/-- A carrying trim of lane p stands off its target. -/
def State.stepping (s : State) (p : Nat) : Bool :=
  (List.range 13).any fun k => s.carries p k && s.applied p k != s.trimTarget p k s.rateNow

/-- Trims that carry nothing take their targets at once. -/
def State.settleTrims (s : State) (p : Nat) : State :=
  s.setApplied p fun k => if s.carries p k then s.applied p k else s.trimTarget p k s.rateNow

/-- TEMP_SAMPLE: the sequencer reads the eight sensors. -/
def execTempSample (temps : List Int) (s : State) : Host.Outcome State Fault Refusal :=
  s.run fun s => s.whenOk s.seqRuns fun s =>
    let t := (List.range 8).map fun g => toSigned 16 (ofSigned 16 (temps.getD g 0))
    let s : State := { s with cal := { s.cal with temps := t } }
    let s := (List.range 8).foldl (fun u g => u.setEntry .calTemp g (ofSigned 16 (t.getD g 0))) s
    (List.range 72).foldl (fun u p => if u.cal.recal = some p then u else u.settleTrims p) s

/-- One code towards a target. -/
def oneStep (now target : Int) : Int := if now < target then now + 1 else if target < now then now - 1 else now

/-- TRIM_STEP: every 6,400 MCLK; the lane that is measured holds its codes (R349). -/
def execTrimStep (s : State) : Host.Outcome State Fault Refusal :=
  s.run fun s => s.whenOk s.seqRuns fun s =>
    (List.range 72).foldl (fun u p =>
      if u.cal.recal = some p then u
      else u.setApplied p fun k =>
        let t := u.trimTarget p k u.rateNow
        if u.carries p k then oneStep (u.applied p k) t else t) s

/-! ### Background recalibration (R349) -/

/-- The first lane from n on, round the 72, that has not failed. -/
def State.nextGood (s : State) (n : Nat) : Option Nat :=
  ((List.range 72).map fun i => (n + i) % 72).find? fun p => !s.rxFailed p

/-- Lane p is named by the receiver's pending map. -/
def State.inPending (s : State) (p : Nat) : Bool :=
  match s.lanes.rxPlan with
  | some x => ((s.rxMapOf x.map).take x.width).contains p
  | none => false

/-- Screen test has lane p (14, R367): the lane itself or its group. -/
def State.laneTested (s : State) (p : Nat) : Bool :=
  s.scr.running.any fun r => match r.test with
    | .laneGroup g => g.val == p / 9
    | .farTest g => g.val == p / 9
    | .lane q => q.val == p
    | _ => false

/-- The link is ACTIVE and no retrain has begun. -/
def State.linkSteady (s : State) : Bool := s.linkActive && !s.trn.holding

/-- RECAL_START: the next lane in ascending order, once it is neither scanned, in a pending map nor tested. -/
def execRecalStart (lane : Fin 72) (s : State) : Host.Outcome State Fault Refusal :=
  s.run fun s =>
    s.whenOk (s.seqRuns && s.linkSteady && s.obj .calEn = 1 && s.cal.recal.isNone && s.nextGood s.cal.nextRecal = some lane.val &&
      s.cal.scan != some lane.val && !s.inPending lane && !s.laneTested lane) fun s =>
        { s with cal := { s.cal with recal := some lane.val, nextRecal := (lane + 1) % 72 } }

/-- A result rejected: counted, recorded, an event. kind is 0 for the plausibility window and 1 for the delta limit. -/
def State.rejectTrim (s : State) (p k : Nat) (code : Int) (kind : Nat) : State :=
  let s := (s.count .calRejects 1).setObj .calLastReject (p + k * 2 ^ 8 + ofSigned 8 code * 2 ^ 16 + kind * 2 ^ 24)
  (s.setTrimFlag p 3 true).raise 0x84 1 (some .calRejects) [b8 0, b8 p, b8 k]

/-- One result checked against R345 and taken or rejected. -/
def State.takeTrim (s : State) (p k : Nat) (code : Int) : State :=
  let t := s.trimTarget p k s.rateNow
  if code < windowLow k || windowHigh k < code then s.rejectTrim p k code 0
  else if deltaLimit k < code - t || deltaLimit k < t - code then s.rejectTrim p k code 1
  else s.setEntry .calTrimOffset p (setTrimByte (s.entry .calTrimOffset p) k (code - s.zeroTarget p k s.rateNow))

/-- RECAL_DONE: the nine receive trims in byte order. -/
def execRecalDone (codes : List Int) (s : State) : Host.Outcome State Fault Refusal :=
  s.run fun s =>
    match s.cal.recal with
    | none => s
    | some p => s.whenOk s.seqRuns fun s =>
      let s := rxTrims.foldl (fun t k => t.takeTrim p k (codes.getD k 0)) (s.setTrimFlag p 3 false)
      let s : State := { s with cal := { s.cal with recal := none } }
      s.settleTrims p

/-! ### Deskew (R350) -/

/-- An attempt passes: every active lane's two positions agree within ±1 UI. -/
def State.deskewPass (s : State) (a : List Nat × List Nat) : Bool :=
  (List.range 72).all fun p => !s.rxActive p || (a.1.getD p 0 ≤ a.2.getD p 0 + 1 && a.2.getD p 0 ≤ a.1.getD p 0 + 1)

/-- DESKEW_CHECK: the first of at most three attempts that passes moves the read points. -/
def execDeskewCheck (attempts : List (List Nat × List Nat)) (s : State) : Host.Outcome State Fault Refusal :=
  s.run fun s => s.whenOk (s.seqRuns && s.linkActive) fun s =>
    match (attempts.take 3).find? s.deskewPass with
    | some a => (List.range 72).foldl (fun t p => if t.rxActive p then t.setEntry .calDeskew p (min 63 (a.2.getD p 0)) else t) s
    | none =>
      if attempts.length < 3 then s
      else (s.count .calLinkRejects 1).raise 0x84 1 (some .calLinkRejects) [b8 1]

/-! ### Margin planning (R356, R357) -/

/-- The samples of lane p that are not empty: index and value. -/
def State.samples (s : State) (p : Nat) : List (Nat × Nat) :=
  ((List.range 32).map fun i => (i, s.entry .ageHistory (32 * p + i))).filter fun x => x.2 != 0xFFFF

/-- The forecast of R357 over points (index, value), h samples ahead. -/
def forecast (h : Nat) (pts : List (Nat × Nat)) : Nat :=
  let n : Int := pts.length
  let sx : Int := ((pts.map fun x => x.1).sum : Nat)
  let sy : Int := ((pts.map fun x => x.2).sum : Nat)
  let sxx : Int := ((pts.map fun x => x.1 * x.1).sum : Nat)
  let sxy : Int := ((pts.map fun x => x.1 * x.2).sum : Nat)
  let d := n * sxx - sx * sx
  let num := n * sxy - sx * sy
  (clampInt ((sy * d + num * ((31 + h) * n - sx)) / (d * n)) 0 255).toNat

/-- The horizon in samples. -/
def State.horizon (s : State) : Nat := ceilDiv (s.obj .ageHorizon * 24) (s.obj .agePlanInterval)

/-- The interval closes: one sample for each receive lane, and the next interval begins. -/
def State.closeSamples (s : State) : State :=
  let s := (List.range 72).foldl (fun t p =>
    let t := (List.range 31).foldl (fun u i => u.setEntry .ageHistory (32 * p + i) (u.entry .ageHistory (32 * p + i + 1))) t
    t.setEntry .ageHistory (32 * p + 31) (t.cal.minH.getD p 255 + 256 * t.cal.minW.getD p 255)) s
  { s with cal := { s.cal with minH := List.replicate 72 255, minW := List.replicate 72 255 } }

/-- The forecast of one lane; a Failed lane keeps its entry. -/
def State.forecastLane (s : State) (p : Nat) : State :=
  if s.rxFailed p then s
  else
    let pts := s.samples p
    if pts.length < s.obj .ageMinSamples then s.setEntry .ageForecast p 0
    else
      let h := forecast s.horizon (pts.map fun x => (x.1, x.2 % 256))
      let w := forecast s.horizon (pts.map fun x => (x.1, x.2 / 256))
      let fail := h < s.obj .ageMinHeight || w < s.obj .ageMinWidth
      s.setEntry .ageForecast p (h + 256 * w + 2 ^ 16 + ofBool fail * 2 ^ 17)

/-- Lane p is forecast to fail. -/
def State.willFail (s : State) (p : Nat) : Bool := !s.rxFailed p && (s.entry .ageForecast p).testBit 17

/-- Lanes in order of their keys, the first of equals first. -/
def insertBy (key : Nat → Nat) (x : Nat) : List Nat → List Nat
  | [] => [x]
  | y :: l => if key x < key y then x :: y :: l else y :: insertBy key x l

/-- The lanes forecast to fail, lowest forecast height first, then lower number. -/
def State.retireOrder (s : State) : List Nat :=
  ((List.range 72).filter s.willFail).foldl (fun l p => insertBy (fun q => s.entry .ageForecast q % 256) p l) []

/-- Spares enough to retire a lane: 72 − |F| − width exceeds the reserve. -/
def State.canRetire (s : State) : Bool :=
  s.obj .ageSpareReserve + popcount 72 (s.lanes72 .phyRxFailed) + s.obj .phyRxWidth < 72

/-! ### Rate steps (R359) -/

/-- The direction cannot hold margin. -/
def State.holdsMargin (s : State) : Bool :=
  !((List.range 72).any fun p => s.rxActive p && !s.rxFailed p &&
    (s.willFail p || (s.cal.scanned.testBit p && s.entry .ageEye p % 256 < s.obj .ageMinHeight)))

/-- Lock 0 for the sequencer's writes (15, R402): it is free, or the sequencer holds it. -/
def State.seqMayLock (s : State) : Bool :=
  !s.mgt.lockFault.testBit 0 && (match s.mgt.locks.getD 0 none with
    | none => true
    | some r => rankOf r == 1)

/-- The sequencer waits for lock 0, for what is numbered. -/
def State.waitLock (s : State) (n : Nat) : State := { s with mgt := { s.mgt with seqLockWait := some n } }

/-- A rate step ends, done or abandoned. -/
def State.endStep (s : State) (held : Bool) : State :=
  ({ s with cal := { s.cal with stepRate := none, stepPhase := 0 } }).setFld .ageStepState 2 0 (if held then 4 else 0)

/-- The writes of a rate step that lock 0 guards. -/
def State.stepWrites (s : State) : State :=
  match s.cal.stepRate with
  | none => s
  | some r =>
    if !s.seqMayLock then s.waitLock 1
    else
      let s : State := { s with mgt := { s.mgt with seqLockWait := none } }
      match s.cal.stepPhase with
      | 0 => ({ s with cal := { s.cal with stepPhase := 1 } }).startRecheck r
      | 3 => ({ s with cal := { s.cal with stepPhase := 4 } }).startRecheck r
      | 5 =>
        -- a retrain has begun, or the far side's step has come first (R360)
        if !s.linkSteady || r ≤ s.obj .phyRate then s.endStep false
        else
          let s := (((s.endStep false).setObj .phyRateMax r).count .ageRateSteps 1)
          match s.rateLeft r with
          | some c => ({ s with trn := { s.trn with farState := 0 } }).startRetrain c false
          | none => s
      | _ => s

/-- The step comes to its write of PHY_RATE_MAX, unless it is held. -/
def State.stepLast (s : State) (r : Nat) : State :=
  if s.obj .ageStepHold = 1 then (s.endStep true).raise 0x85 1 (some .ageStepState) [b8 2, b8 r]
  else ({ s with cal := { s.cal with stepPhase := 5 } }).stepWrites

/-- The result of a check that the step waits for: n flows would be withdrawn. -/
def State.stepResult (s : State) (n : Nat) : State :=
  match s.cal.stepRate, s.cal.stepPhase with
  | some r, 1 =>
    let s := (s.setFld .ageStepState 15 8 (min n 255)).setFld .ageStepState 1 0 (if n = 0 then 1 else 3)
    let s := s.raise 0x85 1 (some .ageStepState) ([b8 1, b8 r] ++ toBytes 2 n)
    if n = 0 then s.stepLast r else { s with cal := { s.cal with stepPhase := 2 } }
  | some r, 4 => (s.setFld .ageStepState 15 8 (min n 255)).stepLast r
  | _, _ => s

/-- After a plan's retirements: a direction that cannot hold margin steps the rate. -/
def State.checkMargin (s : State) : State :=
  if s.holdsMargin || !s.linkSteady || s.cal.stepRate.isSome then s
  else if 2 ≤ s.obj .phyRate then (s.setFld .ageStepState 3 3 1).raise 0x85 1 (some .ageStepState) [b8 3, b8 2]
  else if s.obj .ageStepEn != 1 then s
  else ({ s with cal := { s.cal with stepRate := some (s.obj .phyRate + 1), stepPhase := 0 } }).stepWrites

/-- STEP_GRACE_END: AGE_STEP_GRACE seconds have passed; the flows are checked again. -/
def execStepGraceEnd (s : State) : Host.Outcome State Fault Refusal :=
  s.run fun s => s.whenOk (s.seqRuns && s.cal.stepPhase = 2) fun s =>
    (({ s with cal := { s.cal with stepPhase := 3 } }).setFld .ageStepState 1 1 0).stepWrites

/-- RECHECK_DONE (06, R175): the result of the flows' check at another rate; nothing else changes but a rate step that waits for it. -/
def execRecheckDone (s : State) : Host.Outcome State Fault Refusal :=
  s.run fun s =>
    match s.cls.recheck with
    | none => s
    | some r =>
      let l := s.wouldWithdraw r
      let flows := (l.map fun t => (t.q.home, t.q.index)).eraseDups
      let home := (flows.head?.map fun (f : Nat × Nat) => f.1).getD 0
      let s : State := { s with cls := { s.cls with recheck := none } }
      (s.setObj .tclRecheckResult (min flows.length 65535 + 2 ^ 16 + home * 2 ^ 20)).stepResult flows.length

/-! ### Retirement (R358) -/

/-- Retirements that cannot be made any more are given up, and the margin is checked. -/
def State.planEnds (s : State) : State :=
  if !s.cal.retireDue.isEmpty && s.canRetire then s
  else ({ s with cal := { s.cal with retireDue := [] } }).checkMargin

/-- A plan: samples closed, lanes forecast, retirements drawn up. -/
def State.runPlan (s : State) : State :=
  let s := (List.range 72).foldl (fun t p => t.forecastLane p) s.closeSamples
  let s := s.setFld .ageStepState 3 2 0
  ({ s with cal := { s.cal with planDue := false, retireDue := if s.linkActive then s.retireOrder else [] } }).planEnds

/-- MARGIN_PLAN: a plan that meets a stopped sequencer runs at its restart (R360). -/
def execMarginPlan (s : State) : Host.Outcome State Fault Refusal :=
  s.run fun s => s.whenOk (s.obj .ageEn = 1) fun s =>
    if s.seqRuns then s.runPlan else { s with cal := { s.cal with planDue := true } }

/-- The splice of the retirement before has neither committed nor been cancelled, or another one is pending. -/
def State.spliceOpen (s : State) : Bool :=
  s.lanes.rxPlan.isSome || (match s.cal.retireWait with
    | some p => s.rxActive p
    | none => false)

/-- The head of the list is retired, with lock 0. -/
def State.retireHead (s : State) : State :=
  match s.cal.retireDue with
  | [] => s
  | p :: rest =>
    if s.spliceOpen || !s.linkSteady then s
    else if s.rxFailed p then ({ s with cal := { s.cal with retireDue := rest } }).planEnds
    else if !s.canRetire then s.planEnds
    else if !s.seqMayLock then s.waitLock 0
    else
      let active := s.rxActive p
      let s : State := { s with cal := { s.cal with retireDue := rest, retireWait := if active then some p else none },
                                mgt := { s.mgt with seqLockWait := none } }
      let s := (s.retireRx p 5).count .ageRetired 1
      (s.setEntry .ageForecast p (setBit (s.entry .ageForecast p) 18 true)).planEnds

/-- LANE_RETIRE: the next lane of the plan. -/
def execLaneRetire (lane : Fin 72) (s : State) : Host.Outcome State Fault Refusal :=
  s.run fun s => s.whenOk (s.seqRuns && s.cal.retireDue.head? = some lane.val) fun s => s.retireHead

/-- SEQ_LOCK_RETRY (15, R402): every 1 ms while lock 0 is held by another. -/
def execSeqLockRetry (s : State) : Host.Outcome State Fault Refusal :=
  s.run fun s => s.whenOk s.seqRuns fun s =>
    match s.mgt.seqLockWait with
    | some 0 => s.retireHead
    | some _ => s.stepWrites
    | none => s

/-! ### The sequencer stops and starts (R352) -/

/-- What the sequencer was doing is dropped: no recalibration, scan, plan or rate step runs. -/
def State.seqStop (s : State) : State :=
  let c : Calib := { s.cal with recal := none, scan := none, monitor := none, retireDue := [], retireWait := none, stepRate := none, stepPhase := 0,
                                seqDown := true }
  (({ s with cal := c, mgt := { s.mgt with seqLockWait := none } }).setFld .ageStepState 1 0 0).showMonitor

/-- The sequencer starts from the loaded image; a plan that fell due meanwhile runs. -/
def State.seqStart (s : State) : State :=
  let s := ({ s with cal := { s.cal with seqDown := false } }).setFld .calSeqState 3 3 0
  if s.cal.planDue && s.seqRuns then s.runPlan else s

/-- Locks held by rank 1 are released when the SEQ domain is reset (15, R400). -/
def State.dropSeqLocks (s : State) : State :=
  let l := s.mgt.locks.map fun x => match x with
    | some r => if rankOf r = 1 then none else some r
    | none => none
  { s with mgt := { s.mgt with locks := l } }

/-- SEQ_WATCHDOG: no heartbeat for 4 ms. -/
def execSeqWatchdog (imageOk : Bool) (s : State) : Host.Outcome State Fault Refusal :=
  s.run fun s => s.whenOk s.seqRuns fun s =>
    let s := (s.seqStop.dropSeqLocks).count .calSeqRestarts 1
    let s := (s.raise 0x84 1 (some .calSeqRestarts) [b8 2]).faultRecord 0 0 6 0
    if imageOk then s.seqStart else s.setFld .calSeqState 3 3 1

/-! ### Ageing monitors (R353) -/

/-- The power domain of monitor m. -/
def monitorDomain (m : Nat) : Nat :=
  if m < 16 then 2 + m / 2 else if m < 20 then 0 else if m < 24 then 1 else 10 + (m - 24)

/-- One monitor's count. -/
def State.takeCount (s : State) (m count : Nat) : State :=
  if !s.readyDom (monitorDomain m) then s
  else
    let fresh := Config.monitorCount m s.cal.temps
    let slow := if fresh = 0 then 0 else min 65535 ((fresh - count) * 10000 / fresh)
    let s := s.setEntry .ageRo m slow
    if s.obj .ageRoLimit < slow && !s.cal.roRaised.testBit m then
      ({ s with cal := { s.cal with roRaised := setBit s.cal.roRaised m true } }).raise 0x85 1 (some .ageRo) [b8 0, b8 m]
    else s

/-- AGEING_MONITOR: every second. -/
def execAgeingMonitor (counts : List Nat) (s : State) : Host.Outcome State Fault Refusal :=
  s.run fun s => s.whenOk s.seqRuns fun s => (List.range 32).foldl (fun t m => t.takeCount m (counts.getD m 0)) s

/-! ### Eye scans (R354, R355) -/

/-- The monitor for a lane: a Spare lane's own front end, or the lowest Spare lane that no pending map holds. -/
def State.monitorFor (s : State) (p : Nat) : Option Nat :=
  if !s.rxActive p && !s.pendingAdds.contains p then some p else s.freeMonitor

/-- EYE_SCAN_START: the next lane in ascending order falls due; without a monitor the rotation pauses. -/
def execEyeScanStart (lane : Fin 72) (s : State) : Host.Outcome State Fault Refusal :=
  s.run fun s =>
    s.whenOk (s.seqRuns && s.obj .ageEn = 1 && s.cal.scan.isNone && s.nextGood s.cal.nextScan = some lane.val && s.cal.recal != some lane.val &&
      !s.laneTested lane) fun s =>
        match s.monitorFor lane with
        | some m => ({ s with cal := { s.cal with scan := some lane.val, monitor := some m, paused := false, nextScan := (lane + 1) % 72 } }).showMonitor
        | none =>
          ({ s with cal := { s.cal with paused := true, stale := setBit s.cal.stale lane true, nextScan := (lane + 1) % 72 } }).showMonitor

/-- EYE_SCAN_DONE: height in 0.5 mV and width in 1/64 UI. -/
def execEyeScanDone (height width : Nat) (s : State) : Host.Outcome State Fault Refusal :=
  s.run fun s =>
    match s.cal.scan with
    | none => s
    | some p => s.whenOk s.seqRuns fun s =>
      let h := min 255 height
      let w := min 255 width
      let c : Calib := { s.cal with scan := none, monitor := none, stale := setBit s.cal.stale p false, scanned := setBit s.cal.scanned p true,
                                    minH := s.cal.minH.set p (min h (s.cal.minH.getD p 255)),
                                    minW := s.cal.minW.set p (min w (s.cal.minW.getD p 255)) }
      (({ s with cal := c }).setEntry .ageEye p (h + 256 * w)).showMonitor

end Sys2Proof.Machine
end

