-- ==== Sys2Proof/Machine/StackPort.lean ====
section
/-! DEFINITION. The Stack Port's commands (02, R36 to R41; 07, R197; 11, R301 to R307, R318): issue, acceptance, response, timeout,
loss of a pseudo-channel, the scrubber and the rekey walk. -/

namespace Sys2Proof.Machine

/-! ### Issue (STACK_CMD_ISSUE) -/

/-- The access holds its sector already: the later parts of R302 and R303. -/
def StkOp.owns (op : StkOp) : Bool := (op.step != .read && op.step != .write) || (op.rmw && op.step = .write)

/-- The access holds its sector from its read to its write-back (R303). -/
def StkOp.locks (op : StkOp) : Bool :=
  op.rmw || (match op.use with
    | .scrub => true
    | .rekey _ => true
    | _ => false)

def StkOp.walks (op : StkOp) : Bool :=
  match op.use with
  | .scrub => true
  | .rekey _ => true
  | _ => false

def StkOp.isWrite (op : StkOp) : Bool :=
  match op.step with
  | .read => false
  | .reread => false
  | _ => true

/-- Same-sector accesses are served in the order in which they reach the port (01, R17), and no access passes between a read and
its write-back (R303). -/
def State.canIssue (s : State) (c : Pc) (before : List StkOp) (op : StkOp) : Bool :=
  op.owns ||
  (!s.stk.lockedAddrs.contains op.addr && !(before.any fun x => x.addr == op.addr) &&
    !((c.queue ++ c.outstanding).any fun x => x.addr == op.addr && (x.isWrite || op.isWrite || op.locks)))

/-- The accesses that may be issued, oldest first. -/
def State.issuable (s : State) (c : Pc) : List StkOp → List StkOp → List StkOp
  | _, [] => []
  | before, op :: rest =>
    (if s.canIssue c before op then [op] else []) ++ s.issuable c (before ++ [op]) rest

/-- The choice of R197 for S = ARR_STACK_SHARE, with the walks after level 2 (R307). -/
def arbitrate (share arrUsed pktUsed : Nat) (l : List StkOp) : Option StkOp :=
  let pkt := l.filter fun o => !o.arr && !o.walks
  let walk := l.filter StkOp.walks
  let dl := l.filter fun o => o.arr && isDl o.tc
  let be := l.filter fun o => o.arr && !isDl o.tc
  ((pkt.filter fun o => isDl o.tc) ++ (if arrUsed < share then dl else []) ++ (if share < 16 then walk else []) ++
    (if pktUsed < 16 - share then pkt else []) ++ dl ++ be ++ pkt ++ walk).head?

/-- The lowest tag that no command of the pseudo-channel holds (02, R38, R39). -/
def Pc.freeTag (c : Pc) : Option Nat :=
  (List.range 256).find? fun t => !((c.queue ++ c.outstanding).any fun o => o.tag == t) && !c.heldTags.contains t

/-- What a write puts into the sector (R299, R300, R304): ciphertext and metadata; none where no key serves it. -/
def State.sealSector (s : State) (op : StkOp) : Option (List Byte × Nat) :=
  match op.step with
  | .write =>
    match op.use with
    | .spill _ _ =>
      match s.tx.spillKey with
      | some k =>
        let c := xtsEncrypt (toBytes 64 k) op.addr op.data
        some (c, metaOf c op.part 0 3 op.poison)
      | none => none
    | _ =>
      let k := s.slot op.part
      match k.writeKeyBytes with
      | some key =>
        let c := xtsEncrypt key op.addr op.data
        some (c, metaOf c op.part k.writeKsel 0 op.poison)
      | none => none
  | .read => some ([], 0)
  | .reread => some ([], 0)
  | _ => some (op.data, op.md)

/-- The arbiter of pseudo-channel p writes its next command into the queue. -/
def State.issueStack (s : State) (p : Nat) : State :=
  let c := s.pc p
  match arbitrate (s.obj .arrStackShare) c.arrUsed c.pktUsed (s.issuable c [] c.waiting), c.freeTag with
  | some op, some tag =>
    let c := { c with waiting := c.waiting.erase op }
    match s.sealSector op with
    | some (data, md) =>
      let wrap := c.slot + 1 ≥ 16
      let c := { c with queue := c.queue ++ [{ op with data := data, md := md, tag := tag }],
                        arrUsed := if wrap then 0 else c.arrUsed + ofBool op.arr,
                        pktUsed := if wrap then 0 else c.pktUsed + ofBool (!op.arr), slot := (c.slot + 1) % 16 }
      let s := s.setPc p c
      if op.locks && !op.owns then { s with stk := { s.stk with lockedAddrs := op.addr :: s.stk.lockedAddrs } } else s
    | none => (s.setPc p c).finishOp op (if s.partFenced op.part then stFenced else stDenied) false (zeros 64) true
  | _, _ => s

/-- The Stack Port takes commands. -/
def State.stackRuns (s : State) : Bool := s.sSide && s.stk.up && s.poweredDom 18 && !s.stackFenced

def execStackCmdIssue (p : Fin 32) (s : State) : Host.Outcome State Fault Refusal :=
  s.run fun s => s.whenOk (s.stackRuns && !s.stk.lock.pauses && !(s.obj .stkPcState).testBit p && (s.pc p).queue.length < 16) fun s => s.issueStack p

/-! ### Acceptance (STACK_CMD_ACCEPT) -/

def execStackCmdAccept (p : Fin 32) (s : State) : Host.Outcome State Fault Refusal :=
  s.run fun s => s.whenOk (s.sSide && s.stk.up && s.poweredDom 18) fun s =>
    match (s.pc p).queue with
    | [] => s
    | op :: rest =>
      (s.setPc p { s.pc p with queue := rest, outstanding := (s.pc p).outstanding ++ [op] }).out
        (.stackCmd p op.isWrite (op.addr / 32) op.tag (if op.isWrite then op.data else zeros 64) (if op.isWrite then op.md else 0))

/-! ### Responses (STACK_RESPONSE) -/

/-- A further command of the access in hand, ahead of what waits. -/
def State.again (s : State) (p : Nat) (op : StkOp) : State :=
  let c := s.pc p
  s.setPc p { c with waiting := op :: c.waiting }

/-- Steps 6 to 9 of R301 on a sector that passed the steps before, and what the scrubber and the rekey walk write back. -/
def State.readTail (s : State) (p : Nat) (op : StkOp) (cipher : List Byte) (parity fixed md : Nat) : State :=
  let k := s.slot op.part
  let spillRead := match op.use with
    | .spill _ _ => true
    | _ => false
  let key := if spillRead then (s.tx.spillKey.map fun x => toBytes 64 x) else k.named (metaKsel md)
  let plain := match key with
    | some x => xtsDecrypt x op.addr cipher
    | none => zeros 64
  let poisoned := metaPoison md = 15
  let wrongForm := (metaForm md = 3) != spillRead
  let st := if wrongForm then stDenied else if poisoned then stPoisoned else if key.isNone then stDenied else stOk
  let s := s.whenOk (st = stPoisoned) fun t => t.count .stkPoisonReads 1
  match op.use with
  | .scrub =>
    if fixed > 0 then
      s.again p { op with step := .writeBack, data := cipher, md := setField md 31 0 parity }
    else s.finishOp op st false plain poisoned
  | .rekey slot =>
    match (s.slot slot).writeKeyBytes with
    | some wk =>
      if (st = stOk || st = stPoisoned) && key.isSome && metaKsel md != (s.slot slot).writeKsel then
        let c := xtsEncrypt wk op.addr plain
        s.again p { op with step := .writeBack, data := c, md := metaOf c op.part (s.slot slot).writeKsel 0 poisoned }
      else s.finishOp op st false plain poisoned
    | none => s.finishOp op st false plain poisoned
  | _ => s.finishOp op st false (if st = stDenied then zeros 64 else plain) poisoned

/-- The sector taken under the lock of R303. -/
def State.lockSector (s : State) (a : Nat) : State :=
  if s.stk.lockedAddrs.contains a then s else { s with stk := { s.stk with lockedAddrs := a :: s.stk.lockedAddrs } }

/-- A read's response: R301 steps 2 to 9, R302. -/
def State.readResponse (s : State) (p : Nat) (op : StkOp) (data : List Byte) (md err : Nat) : State :=
  let first := op.step = .read
  let s := s.whenOk (err = 1) fun t => t.count .stkInnerCorr 1
  let s := s.whenOk (err = 3) fun t => t.raise 0x70 2 (some .stkPcState) [b8 p, b8 1]
  let good := err < 2
  if good && first && metaTag md != op.part then
    (s.count .stkTagMismatch 1).finishOp op stDenied false (zeros 64) false
  else
    let fix := if good then outerFix data md else none
    let s := match fix with
      | some (_, _, n) => s.count .stkOuterCorr n
      | none => s
    let fault := fix.isSome && metaFault md
    let s := s.whenOk fault fun t => t.count .stkMetaFaults 1
    match (if fault then none else fix) with
    | some (cipher, parity, n) =>
      (s.whenOk (!first) fun t => t.count .stkTransient 1).readTail p op cipher parity n md
    | none =>
      if first then (s.lockSector op.addr).again p { op with step := .reread }
      else
        let valid := metaKsel md = 0 || metaKsel md = 3
        let ksel := if valid then metaKsel md else (s.slot op.part).writeKsel
        let c := slice data 0 64
        s.again p { op with step := .poisonBack valid, data := c, md := metaOf c (metaTag md) ksel 0 true }

/-- A response to a command. -/
def State.stackResponse (s : State) (p : Nat) (op : StkOp) (data : List Byte) (md err : Nat) : State :=
  match op.step with
  | .read => s.readResponse p op data md err
  | .reread => s.readResponse p op data md err
  | .write => s.finishOp op (if err ≥ 2 then stUncorrectable else stOk) false (zeros 64) (err ≥ 2)
  | .writeBack =>
    match op.use with
    | .rekey _ => s.finishOp op (if err ≥ 2 then stUncorrectable else stOk) false (zeros 64) false
    | _ => s.finishOp op stOk false (zeros 64) false
  | .poisonBack valid =>
    let plain := match (if valid then (s.slot op.part).named (metaKsel op.md) else none) with
      | some k => xtsDecrypt k op.addr op.data
      | none => zeros 64
    (s.whenOk (err < 2) fun t => t.count .stkUncorr 1).finishOp op stUncorrectable false plain true

def execStackResponse (p : Fin 32) (tag : Fin 256) (data : List Byte) (md : Nat) (err : Fin 4) (s : State) :
    Host.Outcome State Fault Refusal :=
  s.runIf (data.length == 64) "STACK_RESPONSE" fun s => s.whenOk (s.sSide && s.stk.up && s.poweredDom 18) fun s =>
    let c := s.pc p
    match c.outstanding.find? fun o => o.tag == tag.val with
    | some op => (s.setPc p { c with outstanding := c.outstanding.erase op }).stackResponse p op data (md % 2 ^ 64) err
    | none => (s.setPc p { c with heldTags := c.heldTags.erase tag.val }).count .stkLateRsp 1

/-! ### Timeout and loss (STACK_RSP_TIMEOUT, SK_PC_DOWN) -/

/-- No response has arrived within STK_RSP_TIMEOUT: TIMEOUT, and the tag stays out of use (02, R39). -/
def execStackRspTimeout (p : Fin 32) (tag : Fin 256) (s : State) : Host.Outcome State Fault Refusal :=
  s.run fun s =>
    let c := s.pc p
    match c.outstanding.find? fun o => o.tag == tag.val with
    | some op =>
      (s.setPc p { c with outstanding := c.outstanding.erase op, heldTags := tag.val :: c.heldTags }).finishOp op stTimeout false (zeros 64) true
    | none => s

/-- STK_PART_DEGRADED for the partitions that are valid now: each holds sectors on every pseudo-channel (R305, R308). -/
def State.degrade (s : State) : State :=
  if s.obj .stkPcState = 0 then s
  else s.validParts.foldl (fun t p => t.setEntry .stkPartDegraded (p / 32) (setBit (t.entry .stkPartDegraded (p / 32)) (p % 32) true)) s

/-- SK_PC_DOWN[p] rises: every command and access of p ends with UNCORRECTABLE (R41, R305). A low level only moves the pin; the bit
stays until the port restarts. -/
def execSkPcDown (p : Fin 32) (level : Bool) (s : State) : Host.Outcome State Fault Refusal :=
  s.run fun s =>
    let rises := level && !s.stk.downPins.testBit p
    let s := { s with stk := { s.stk with downPins := setBit s.stk.downPins p level } }
    s.whenOk (rises && s.sSide) fun s =>
      let c := s.pc p
      let ops := c.outstanding ++ c.queue ++ c.waiting
      let s := s.setPc p { c with outstanding := [], queue := [], waiting := [] }
      let s := (s.setObj .stkPcState (setBit (s.obj .stkPcState) p true)).degrade
      let s := ops.foldl (fun t op => t.finishOp op stUncorrectable false (zeros 64) true) s
      s.raise 0x70 2 (some .stkPcState) [b8 p, b8 0]

/-! ### Walks (SCRUB_READ, REKEY_STEP) -/

/-- A rekey walk is pending: the scrubber pauses (R318). -/
def State.rekeyPending (s : State) : Bool := s.stk.slots.any fun k => k.walk.isSome

def execScrubRead (s : State) : Host.Outcome State Fault Refusal :=
  s.run fun s => s.whenOk (s.stackRuns && s.obj .stkScrubEn == 1 && !s.stk.scrubBusy && !s.rekeyPending) fun s =>
    let part := s.fld .stkScrubPos 47 40
    let at' := match (if s.partValid part && s.partBase part ≤ s.fld .stkScrubPos 39 0 then s.walkFrom part (s.fld .stkScrubPos 39 0) else none) with
      | some a => some (part, a)
      | none => match s.firstScrub (s.validParts.filter fun p => part < p) with
        | some x => some x
        | none => s.firstScrub s.validParts
    match at' with
    | some (p, a) =>
      ({ s with stk := { s.stk with scrubBusy := true } }).pushOp ⟨a, p, .read, .scrub, 7, false, [], 0, false, false, 0⟩
    | none => s

/-- The lowest slot with a walk reads its next sector. -/
def execRekeyStep (s : State) : Host.Outcome State Fault Refusal :=
  s.run fun s => s.whenOk (s.stackRuns && !s.stk.rekeyBusy) fun s =>
    match (List.range 256).findSome? fun p => (s.slot p).walk.map fun a => (p, a) with
    | some (p, a) =>
      match s.walkFrom p a with
      | some a =>
        ({ s with stk := { s.stk with rekeyBusy := true } }).pushOp ⟨a, p, .read, .rekey p, 7, false, [], 0, false, false, 0⟩
      | none => s.rekeyNext p a
    | none => s

/-! ### Fences and restarts -/

/-- What waits for an issue is given up, and every request of the port is settled: with st where it is answered (02, R21), without
an answer where the fence answers it (12, R340). Array accesses end with st. -/
def State.abandonStack (s : State) (st : Nat) (answer : Bool) : State :=
  let ops := (s.stk.pcs.map fun c => c.waiting ++ c.queue ++ c.outstanding).flatten
  let jobs := s.stk.jobs
  let kept := s.stk.pcs.map fun c => ({ c with waiting := [] } : Pc)
  let closed := s.stk.jobs.map fun j => ({ j with settled := true } : Job)
  let s : State := { s with stk := { s.stk with pcs := kept, jobs := closed, scrubBusy := false, rekeyBusy := false, lockedAddrs := [] } }
  let s := jobs.foldl (fun t j =>
      match j.own with
      | some u => if j.settled then t else t.ownResult u st false []
      | none => if j.settled || !answer then t else t.performed j.hdr st false j.dropped [] []) s
  ops.foldl (fun t op => match op.use with
      | .access id => t.ownResult (.access id) st false []
      | _ => t) s

/-- Restart of the Stack Port (02, R22): queues and tags are given up, what was not answered completes with TIMEOUT, a write among
it with OU; pseudo-channels whose pin is low serve again. -/
def State.restartStack (s : State) : State :=
  let ops := (s.stk.pcs.map fun c => c.queue ++ c.outstanding).flatten
  let cleared := s.stk.pcs.map fun c => ({ c with queue := [], outstanding := [], heldTags := [], arrUsed := 0, pktUsed := 0, slot := 0 } : Pc)
  let s : State := { s with stk := { s.stk with pcs := cleared, lockedAddrs := [], clkFence := false, up := true } }
  let s := ops.foldl (fun t op => t.finishOp op stTimeout op.isWrite (zeros 64) true) s
  let down := s.stk.downPins
  let s := s.setObj .stkPcState down
  let s := (s.clearObj .stkPartDegraded).degrade
  { s with stk := { s.stk with lock := if s.obj .stkSportLockEn = 1 then .draining else .off } }

end Sys2Proof.Machine
end

