-- ==== Sys2Proof/Machine/Ports.lean ====
section
/-! DEFINITION. The Stream Port (02, R30 to R35), the Relay Port (02, R42 to R45), port lock (R27 to R29) and port restarts (R22). -/

namespace Sys2Proof.Machine

/-! ### Stream Port ingress -/

/-- Beats of a packet's bytes (R30). -/
def beatsOf (n : Nat) : Nat := ceilDiv n 512

/-- The payload range of beat b, after the 24 header bytes. -/
def beatRange (n b : Nat) : Nat × Nat := (512 * b - 24, min (n - 24) (512 * (b + 1) - 24))

/-- Ingress credits are taken for a packet. -/
def State.takeCredits (s : State) (vc n : Nat) : State :=
  let c := s.sp.ingCredits.set vc (s.sp.ingCredits.getD vc 0 - n)
  { s with sp := { s.sp with ingCredits := c } }

/-- A packet arrives whole: discarded for a beat without credit (R32) or bad parity (R33), else placed in the ingress buffer. -/
def State.streamIngress (s : State) (vc : Nat) (bytes : List Byte) (poisonBeats badBeats : List Nat) : State :=
  let n := beatsOf bytes.length
  let have' := s.sp.ingCredits.getD vc 0
  let bad := badBeats.filter fun b => b < n
  let s := s.noteIn .stream n
  if have' < n then
    -- the beats that had credits leave the buffer with the packet
    (((s.takeCredits vc have').giveCredits vc have').count .pktSportErrs 1).raise 0x40 1 (some .pktSportErrs) [b8 0, b8 3]
  else
    let s := s.takeCredits vc n
    let p := packetOf bytes ((poisonBeats.filter fun b => b < n).map (beatRange bytes.length))
    if !bad.isEmpty then
      let s := (s.giveCredits vc n).count .pktSportErrs 1
      if !bad.contains 0 && isRequest p.hdr.type then s.answer p.hdr p.descId stMalformed false else s
    else
      let q : InPkt := ⟨p, vc, n⟩
      { s with sp := { s.sp with ingress := s.sp.ingress ++ [q] } }

/-- STREAM_INGRESS_PACKET. -/
def execStreamIngressPacket (sub : Fin 2) (vc : Fin 8) (bytes : List Byte) (poisonBeats badBeats : List Nat) (s : State) :
    Host.Outcome State Fault Refusal :=
  s.runIf (!bytes.isEmpty) "STREAM_INGRESS_PACKET" fun s => s.whenOk (s.hSide && s.sp.up) fun s =>
    s.streamIngress vc bytes poisonBeats badBeats

/-! ### Stream Port egress -/

/-- STREAM_EGRESS_CREDIT (R31): up to 1,023 for each VC. -/
def execStreamEgressCredit (vc : Fin 8) (n : Fin 16) (s : State) : Host.Outcome State Fault Refusal :=
  s.run fun s => s.whenOk (s.hSide && s.sp.up) fun s =>
    let c := s.sp.egCredits.set vc (min 1023 (s.sp.egCredits.getD vc 0 + n))
    { s with sp := { s.sp with egCredits := c } }

/-- A VC's head packet may start: credits for all of its beats. -/
def State.streamEligible (s : State) (vc : Nat) : Bool :=
  match ofVc s.sp.egress vc with
  | [] => false
  | q :: _ => q.pkt.beats ≤ s.sp.egCredits.getD vc 0

/-- A packet starts on a sub-port. -/
def State.startStream (s : State) (sub : Nat) (q : QPkt) : State :=
  let vc := q.pkt.hdr.tc
  let c := s.sp.egCredits.set vc (s.sp.egCredits.getD vc 0 - q.pkt.beats)
  let rest := s.sp.egress.filter fun x => x.id != q.id
  let p : StreamPort := { s.sp with egCredits := c, egress := rest, sending := s.sp.sending.set sub (some q),
                                    rrOps := nextOps vc s.sp.rrOps, rrBulk := nextBulk vc s.sp.rrBulk }
  (({ s with sp := p }).noteStart .stream q).out (.stream sub vc q.pkt.streamBytes q.pkt.poisonBeats)

/-- STREAM_EGRESS_START (R31, 06 R158). -/
def execStreamEgressStart (sub : Fin 2) (s : State) : Host.Outcome State Fault Refusal :=
  s.run fun s => s.whenOk (s.hSide && s.sp.up && !s.sp.lock.pauses && !s.eng.takeover && (s.sp.sending.getD sub none).isNone) fun s =>
    match (pickVc s.streamEligible (fun _ => true) s.sp.rrOps s.sp.rrBulk).bind fun vc => (ofVc s.sp.egress vc).head? with
    | some q => s.startStream sub q
    | none => s

/-- STREAM_EGRESS_EOP (05, R148). -/
def execStreamEgressEop (sub : Fin 2) (s : State) : Host.Outcome State Fault Refusal :=
  s.run fun s =>
    match s.sp.sending.getD sub none with
    | some q => ({ s with sp := { s.sp with sending := s.sp.sending.set sub none } }).forwardedPkt q.pkt.hdr
    | none => s

/-! ### Relay Port -/

/-- RL_I_CLK runs: PKT_RELAY_STATE [0]. -/
def State.relayClock (s : State) : State := s.setFld .pktRelayState 0 0 1

/-- The packet of the flits of a relay transfer (R42, 04 R91). -/
def relayPacket (vc : Nat) (flits : List (List Byte)) : Packet :=
  let pays := flits.map flitPayload
  let h := Hdr.ofBytes (pays.headD [])
  let n := 32 * h.len
  let short := n ≤ 212
  let psn := fun (i : Nat) => bit (flitHead (flits.getD i [])) 5
  let body := if short then slice (pays.headD []) 24 212 ++ (pays.drop 1).flatten else (pays.drop 1).flatten
  let poison := (List.range flits.length).filterMap fun i =>
    if !psn i then none
    else if i = 0 then (if short then some (0, n) else none)
    else some (236 * (i - 1), min n (236 * i))
  (⟨vc, h, body, poison, flits.length, false⟩ : Partial).packet

/-- RELAY_INGRESS_PACKET (R44): bad parity discards it, with MALFORMED to its sender where the header flit was good. -/
def execRelayIngressPacket (vc : Fin 8) (flits : List (List Byte)) (bad : List Nat) (s : State) : Host.Outcome State Fault Refusal :=
  s.runIf (!flits.isEmpty && flits.all fun f => f.length == 256) "RELAY_INGRESS_PACKET" fun s => s.whenOk s.linkCore fun s =>
    let n := flits.length
    let p := relayPacket vc flits
    let s := s.relayClock.noteIn .relay n
    if bad.any fun i => i < n then
      let s := (s.count .pktRelayErrs 1).out (.relayCredit vc n)
      if !bad.contains 0 && isRequest p.hdr.type then s.answer p.hdr p.descId stMalformed false else s
    else
      let q : InPkt := ⟨p, vc, n⟩
      { s with rl := { s.rl with ingress := s.rl.ingress ++ [q] } }

/-- RELAY_CREDIT (R42). -/
def execRelayCredit (vc : Fin 8) (n : Fin 16) (s : State) : Host.Outcome State Fault Refusal :=
  s.run fun s => s.whenOk s.linkCore fun s =>
    let c := s.rl.credits.set vc (min 1023 (s.rl.credits.getD vc 0 + n))
    { s with rl := { s.rl with credits := c } }

def State.relayEligible (s : State) (vc : Nat) : Bool :=
  match ofVc s.rl.egress vc with
  | [] => false
  | q :: _ => q.pkt.flits ≤ s.rl.credits.getD vc 0

/-- A packet leaves through the Relay Port; it counts in its epoch's drain counter for PKT_DRAIN_RELAY_HOLD LCLK more (05, R151). -/
def State.startRelay (s : State) (q : QPkt) : State :=
  let vc := q.pkt.hdr.tc
  let c := s.rl.credits.set vc (s.rl.credits.getD vc 0 - q.pkt.flits)
  let rest := s.rl.egress.filter fun x => x.id != q.id
  let r : RelayPort := { s.rl with credits := c, egress := rest, holds := s.rl.holds ++ [(q.pkt.hdr.epoch, s.aon.lclk)],
                                   rrOps := nextOps vc s.rl.rrOps, rrBulk := nextBulk vc s.rl.rrBulk }
  (({ s with rl := r }).noteStart .relay q).out (.relay q.port vc (q.pkt.cut.map fun (x : Cut) => x.relayFlit vc))

/-- RELAY_EGRESS_START. -/
def execRelayEgressStart (s : State) : Host.Outcome State Fault Refusal :=
  s.run fun s => s.whenOk (s.linkCore && !s.rl.lock.pauses && !s.eng.takeover) fun s =>
    match (pickVc s.relayEligible (fun _ => true) s.rl.rrOps s.rl.rrBulk).bind fun vc => (ofVc s.rl.egress vc).head? with
    | some q => s.startRelay q
    | none => s

/-- RL_I_UP_CHANGE. -/
def execRlIUpChange (bits : Nat) (s : State) : Host.Outcome State Fault Refusal :=
  s.run fun s => ({ s with rl := { s.rl with siblings := bits % 2 ^ 64 } }).relayClock

/-! ### Port lock (R27 to R29) -/

def lockObj : Port → Obj
  | .stream => .pktSportLockEn
  | .stack => .stkSportLockEn
  | .relay => .pktRelayLockEn

def lockState : Port → Obj
  | .stream => .pktSportState
  | .stack => .stkSportState
  | .relay => .pktRelayState

/-- The locked bit of a port's state object, and its number in a PORT event. -/
def lockBit : Port → Nat
  | .relay => 2
  | _ => 3

def portCode : Port → Nat
  | .stream => 0
  | .stack => 1
  | .relay => 2

def State.lockPhase (s : State) (p : Port) : LockPhase :=
  match p with
  | .stream => s.sp.lock
  | .stack => s.stk.lock
  | .relay => s.rl.lock

def State.setLock (s : State) (p : Port) (l : LockPhase) : State :=
  let s := s.setFld (lockState p) (lockBit p) (lockBit p) (ofBool (l = .locked || l = .leaving && (s.fld (lockState p) (lockBit p) (lockBit p) = 1)))
  match p with
  | .stream => { s with sp := { s.sp with lock := l } }
  | .stack => { s with stk := { s.stk with lock := l } }
  | .relay => { s with rl := { s.rl with lock := l } }

def State.portUp (s : State) (p : Port) : Bool :=
  match p with
  | .stream => s.hSide && s.sp.up
  | .stack => s.sSide && s.stk.up
  | .relay => s.linkCore

/-- A port's queues are empty. -/
def State.portEmpty (s : State) (p : Port) : Bool :=
  match p with
  | .stream => s.sp.ingress.isEmpty && s.sp.sending.all fun x => x.isNone
  | .stack => s.stk.pcs.all fun c => c.queue.isEmpty && c.outstanding.isEmpty
  | .relay => s.rl.ingress.isEmpty

/-- A write of 1 to a lock object: only the change from 0 to 1 enters lock (R27, R28). -/
def State.enableLock (s : State) (p : Port) : State :=
  let was := s.obj (lockObj p)
  let s := s.setObj (lockObj p) 1
  if was != 1 && s.portUp p then s.setLock p .draining else s

/-- PORT_LOCK_ENABLE. -/
def execPortLockEnable (r : Requester) (port : Port) (s : State) : Host.Outcome State Fault Refusal :=
  s.access r fun s => (s.enableLock port).reply stOk

/-- PORT_LOCK_MEASURE: the phase over 4 alignment periods, once the queues are empty. -/
def execPortLockMeasure (port : Port) (onGrid moved : Bool) (s : State) : Host.Outcome State Fault Refusal :=
  s.run fun s => s.whenOk (s.portUp port && s.lockPhase port = .draining && s.portEmpty port) fun s =>
    let s := if port = .relay then (s.relayClock).setFld .pktRelayState 1 1 (ofBool onGrid) else s
    s.setLock port (if onGrid && !moved then .measured else .failed)

/-- PORT_LOCK_SET: at the next tick traffic resumes, locked, or unlocked with an event. -/
def execPortLockSet (port : Port) (s : State) : Host.Outcome State Fault Refusal :=
  s.run fun s =>
    match s.lockPhase port with
    | .measured => (s.setLock port .locked).releaseCredits
    | .failed => ((s.setLock port .lost).releaseCredits).raise 0x40 1 (some (lockState port)) [b8 (portCode port), b8 0]
    | _ => s

/-- PORT_LOCK_CHECK (R28). -/
def execPortLockCheck (port : Port) (moved : Bool) (s : State) : Host.Outcome State Fault Refusal :=
  s.run fun s => s.whenOk (s.lockPhase port = .locked && moved) fun s =>
    (s.setLock port .lost).raise 0x40 1 (some (lockState port)) [b8 (portCode port), b8 1]

/-- A write of 0 to a lock object (R29): the port leaves lock at the next tick. -/
def State.disableLock (s : State) (p : Port) : State :=
  let s := s.setObj (lockObj p) 0
  if s.lockPhase p = .off then s else (s.setLock p .leaving).releaseCredits

/-- PORT_LOCK_DISABLE. -/
def execPortLockDisable (r : Requester) (port : Port) (s : State) : Host.Outcome State Fault Refusal :=
  s.access r fun s => (s.disableLock port).reply stOk

/-- PORT_LOCK_EXIT. -/
def execPortLockExit (port : Port) (s : State) : Host.Outcome State Fault Refusal :=
  s.run fun s => s.whenOk (s.lockPhase port = .leaving) fun s => s.setLock port .off

/-! ### Restarts (R22, R35) -/

/-- A clock of PWR_CLK_STATE is present and in range: 0 LCLK, 1 ACLK, 2 SCLK, 3 FCLK, 4 HCLK, 5 MCLK. -/
def State.clockOk (s : State) (i : Nat) : Bool := s.fld .pwrClkState (2 * i + 1) (2 * i) = 0 && s.entry .pwrClkCount i != 0

/-- The Stream Port can come up (R35). -/
def State.streamCan (s : State) : Bool := s.clockOk 3 && inRange 120 160 (s.obj .pktSportFclkDiv) && s.readyDom 18 && s.hSide

/-- Bits [2:0] of a port's state object. -/
def State.showPort (s : State) (p : Port) (clk : Nat) (up : Bool) : State :=
  let st := s.fld .pwrClkState (2 * clk + 1) (2 * clk)
  let present := s.entry .pwrClkCount clk != 0 && st != 2
  s.setFld (lockState p) 2 0 (ofBool present + 2 * ofBool (present && st = 0) + 4 * ofBool up)

/-- Everything that the Stream Port holds is discarded and counted. -/
def State.dropStream (s : State) : State :=
  let out := s.sp.egress ++ s.sp.sending.filterMap id
  let n := s.sp.ingress.length + out.length
  let p : StreamPort := { s.sp with ingress := [], egress := [], sending := [none, none] }
  (out.foldl (fun (t : State) (q : QPkt) => t.forwardedPkt q.pkt.hdr) { s with sp := p }).count .pktSportDrops n

/-- The Stream Port restarts: 32 credits for each VC on ingress, none on egress, and lock is entered again. -/
def State.restartStream (s : State) : State :=
  let s := s.dropStream
  let p : StreamPort := { s.sp with up := true, clkFence := false, ingCredits := eight, ingOwed := List.replicate 8 32,
                                    egCredits := eight, rrOps := 0, rrBulk := 0 }
  let s := ({ s with sp := p }).showPort .stream 3 true
  (s.setLock .stream (if s.obj .pktSportLockEn = 1 then .draining else .off)).releaseCredits

/-- The Stream Port goes down (R21): what leaves through it is discarded. -/
def State.streamDown (s : State) (byClock : Bool) : State :=
  let out := s.sp.egress ++ s.sp.sending.filterMap id
  let p : StreamPort := { s.sp with up := false, clkFence := s.sp.clkFence || byClock, egress := [], sending := [none, none], lock := .off }
  let s := (out.foldl (fun (t : State) (q : QPkt) => t.forwardedPkt q.pkt.hdr) { s with sp := p }).count .pktSportDrops out.length
  (s.setFld .pktSportState 3 3 0).showPort .stream 3 false

/-- A restart write: while SPORT has no power the port restarts once power is there (16, R427), and the write is ignored with an event while the clock is absent or out of
range. -/
def State.writeStreamRestart (s : State) : State :=
  if !s.hSide then s
  else if !s.readyDom 18 then s
  else if s.streamCan then s.restartStream
  else s.raise 0x40 1 (some .pktSportState) [b8 0, b8 2]

/-- PKT_SPORT_RESTART. -/
def execPktSportRestart (r : Requester) (s : State) : Host.Outcome State Fault Refusal :=
  s.access r fun s => s.writeStreamRestart.reply stOk

/-- The Stack Port can come up. -/
def State.stackCan (s : State) : Bool := s.clockOk 2 && s.readyDom 18 && s.sSide

def State.restartStackPort (s : State) : State := s.restartStack.showPort .stack 2 true |>.setFld .stkSportState 3 3 0

def State.writeStackRestart (s : State) : State :=
  if !s.sSide then s
  else if !s.readyDom 18 then s
  else if s.stackCan then s.restartStackPort
  else s.raise 0x40 1 (some .stkSportState) [b8 1, b8 2]

/-- STK_SPORT_RESTART. -/
def execStkSportRestart (r : Requester) (s : State) : Host.Outcome State Fault Refusal :=
  s.access r fun s => s.writeStackRestart.reply stOk

end Sys2Proof.Machine
end

