-- ==== Sys2Proof/Machine/Operators.lean ====
section
/-! DEFINITION. What every operator has in common: the descriptor frame (07, R188 to R191), operand reads, and how a result is made
of pieces. -/

namespace Sys2Proof.Machine

/-- Why an operand read of a tile stops: sectors that have not been read yet, or bad data (08, R219; 09, R263). -/
inductive Stop where
  | need (sectors : List Nat)
  | bad (status : Nat)
  deriving DecidableEq, Repr

/-- A computation over the operand sectors read so far. -/
abbrev Rd (α : Type) := Except Stop α

/-- Operand sectors: operand address (FA · 2^40 + ADDR) and its 64 bytes. -/
abbrev Mem := List (Nat × List Byte)

def memFind (mem : Mem) (a : Nat) : Option (List Byte) := (mem.find? fun x => x.1 == a).map (·.2)

/-- A byte range of an operand area: base operand address, byte offset, length. -/
structure ByteRange where
  base : Nat
  off : Nat
  len : Nat
  deriving DecidableEq, Repr

/-- The sectors of a byte range, ascending. -/
def ByteRange.sectors (r : ByteRange) : List Nat :=
  if r.len = 0 then []
  else (List.range ((r.off + r.len - 1) / 64 + 1 - r.off / 64)).map fun i => r.base + r.off / 64 + i

/-- The sectors of several ranges that have not been read. -/
def missing (mem : Mem) (rs : List ByteRange) : List Nat :=
  ((rs.map ByteRange.sectors).flatten.filter fun a => (memFind mem a).isNone).eraseDups

/-- The bytes of a range whose sectors have been read. -/
def ByteRange.bytes (mem : Mem) (r : ByteRange) : List Byte :=
  slice ((r.sectors.map fun a => (memFind mem a).getD (zeros 64)).flatten) (r.off % 64) r.len

/-- The bytes of several ranges, or the sectors still to be read. -/
def fetch (mem : Mem) (rs : List ByteRange) : Rd (List (List Byte)) :=
  match missing mem rs with
  | [] => .ok (rs.map fun r => r.bytes mem)
  | l => .error (.need l)

/-- U32 entry i of a list of bytes. -/
def u32At (bs : List Byte) (i : Nat) : Nat := valAt bs (4 * i) 4

/-! ### The descriptor frame (07, R188, R189) -/

/-- A descriptor as one number of 1024 bits. -/
def descVal (bytes : List Byte) : Nat := ofBytes (slice bytes 0 128)

def dOpcode (v : Nat) : Nat := field v 7 0
def dSat (v : Nat) : Bool := bit v 8
def dInline (v : Nat) : Bool := bit v 9
def dAfter (v : Nat) : Bool := bit v 10
def dNosplit (v : Nat) : Bool := bit v 11
def dId (v : Nat) : Nat := field v 31 16
def dOutFmt (v : Nat) : Nat := field v 39 36
def dResultLen (v : Nat) : Nat := field v 63 40

/-- An operand address: [51:40] FA, [39:0] ADDR; [63:52] is reserved and ignored (R191, R7). -/
def opAddr (v hi : Nat) : Nat := field v (hi - 12) (hi - 63)
def dResultAddr (v : Nat) : Nat := opAddr v 127

def faOf (a : Nat) : Nat := a / 2 ^ 40
def addrOf (a : Nat) : Nat := a % 2 ^ 40

/-- Sector ranges [a, a + n) and [b, b + m) overlap, compared as (FA, ADDR). -/
def overlaps (a n b m : Nat) : Bool := n != 0 && m != 0 && a < b + m && b < a + n

/-- Sectors that n bytes take. -/
def sectorsOf (n : Nat) : Nat := ceilDiv n 64

/-- The flag σ of R215 and R245. -/
def sigma (fmt : Nat) : Nat := ofBool (isMx fmt)

/-- Sectors of the result area: RESULT_LEN, none with INLINE (R189). -/
def resultArea (v : Nat) : Nat := if dInline v then 0 else dResultLen v

/-- A code in a list of accepted codes. -/
def oneOf (l : List Nat) (x : Nat) : Bool := l.contains x

/-- Operand bandwidth g as bytes per ACLK, a fraction (07, R206, R246). -/
structure Bandwidth where
  num : Nat
  den : Nat
  deriving DecidableEq, Repr

/-- ⌈b / g_a⌉. -/
def overBw (b : Nat) (g : Bandwidth) : Nat := ceilDiv (b * g.den) g.num

/-- The largest k below n with p k. -/
def largestBelow (p : Nat → Bool) : Nat → Option Nat
  | 0 => none
  | n + 1 => if p n then some n else largestBelow p n

/-- The exact values of n packed elements from element i on (10, R278). -/
def elemsOf (fmt : Nat) (bs : List Byte) (n : Nat) : List Num :=
  (List.range n).map fun i => decodeElem fmt (elemAt fmt bs i)

/-- The exact values of n MX elements with their block scales (10, R283). -/
def mxElemsOf (fmt : Nat) (bs scales : List Byte) (n : Nat) : List Num :=
  (List.range n).map fun i => mxDecode fmt ((slice scales (i / 32) 1).headD 0).toNat (elemAt fmt bs i)

/-- Elements of either kind. -/
def valuesOf (fmt : Nat) (bs scales : List Byte) (n : Nat) : List Num :=
  if isMx fmt then mxElemsOf fmt bs scales n else elemsOf fmt bs n

/-- The bytes of the FP32 codes l in format fmt, FP32 or BF16. -/
def codesBytes (fmt : Nat) (l : List Nat) : List Byte := (l.map fun x => toBytes (fmtBits fmt / 8) x).flatten

/-- A computation that counts events, run on a tally. -/
def runCalc {α : Type} (t : Tally) (m : Calc α) : α × Tally := StateT.run m t

def Tally.add (a b : Tally) : Tally :=
  ⟨a.sat + b.sat, a.ovf + b.ovf, a.nanMade + b.nanMade, a.nanBlocks + b.nanBlocks, a.accOvf + b.accOvf⟩

/-- A piece of a result: absolute byte address (operand address · 64 + offset) and bytes. -/
abbrev Piece := Nat × List Byte

/-- Replace entry i of a list of vectors. -/
def modifyAt {α : Type} (l : List α) (i : Nat) (f : α → α) : List α :=
  match l[i]? with
  | some x => l.set i (f x)
  | none => l

end Sys2Proof.Machine
end

