-- ==== Sys2Proof/Machine/Attention.lean ====
section
/-! DEFINITION. The attention operators (08_attention_operators.md, R214 to R244): descriptors, checks, tiles, tile results, merges,
finishes, staging and cost. -/

namespace Sys2Proof.Machine

/-! ### Descriptors (R222, R233, R238) -/

/-- The fields of ATTN_DECODE and ATTN_SCORE_TOPK, which share positions (R233). -/
structure Attn where
  final : Bool
  blocklist : Bool
  causal : Bool
  vFmt : Nat
  kFmt : Nat
  qFmt : Nat
  pageHeads : Nat
  head0 : Nat
  gqa : Nat
  kvHeads : Nat
  dim : Nat
  pt : Nat
  pageStep : Nat
  blocks : Nat
  pageStride : Nat
  kvPages : Nat
  window : Nat
  qpos : Nat
  pos0 : Nat
  tokens : Nat
  scale : Nat
  blockAddr : Nat
  kvBase : Nat
  ptAddr : Nat
  qAddr : Nat
  forceFirst : Nat
  forceLast : Nat
  deriving DecidableEq, Repr

def attnOf (v : Nat) : Attn where
  final := bit v 687
  blocklist := bit v 686
  causal := bit v 685
  vFmt := field v 684 681
  kFmt := field v 680 677
  qFmt := field v 676 673
  pageHeads := field v 672 666
  head0 := field v 665 660
  gqa := field v 659 655
  kvHeads := field v 654 650
  dim := 64 * (field v 649 648 + 1)
  pt := field v 647 632
  pageStep := field v 631 616
  blocks := field v 615 600
  pageStride := field v 599 576
  kvPages := field v 575 544
  window := field v 543 512
  qpos := field v 511 480
  pos0 := field v 479 448
  tokens := field v 447 416
  scale := field v 415 384
  blockAddr := opAddr v 383
  kvBase := opAddr v 319
  ptAddr := opAddr v 255
  qAddr := opAddr v 191
  forceFirst := field v 695 688
  forceLast := field v 703 696

/-- The fields of ATTN_MERGE (R238). -/
structure AttnMerge where
  final : Bool
  inFmt : Nat
  dim : Nat
  heads : Nat
  sources : Nat
  srcTable : Nat
  deriving DecidableEq, Repr

def attnMergeOf (v : Nat) : AttnMerge where
  final := bit v 230
  inFmt := field v 229 226
  dim := 64 * (field v 225 224 + 1)
  heads := field v 223 208
  sources := field v 207 192
  srcTable := opAddr v 191

namespace Attn

/-- H of R215. -/
def heads (d : Attn) : Nat := d.kvHeads * d.gqa
def npages (d : Attn) : Nat := ceilDiv d.tokens d.pt
/-- pos(k, r) of R216. -/
def pos (d : Attn) (k r : Nat) : Nat := d.pos0 + k * d.pageStep * d.pt + r
/-- R217. -/
def visible (d : Attn) (x : Nat) : Bool :=
  if d.window ≥ 1 then decide ((d.qpos : Int) - d.window < x) && decide (x ≤ d.qpos)
  else !d.causal || decide (x ≤ d.qpos)
/-- R_K and R_V of R218. -/
def region (d : Attn) (fmt : Nat) : Nat :=
  sectorsOf (elemBytes fmt (d.pt * d.dim) + sigma fmt * (d.pt * d.dim / 32))
def rK (d : Attn) : Nat := d.region d.kFmt
def rV (d : Attn) : Nat := d.region d.vFmt
/-- SS of R220; K_FMT holds SUM_FMT there. -/
def summarySectors (d : Attn) : Nat := sectorsOf (elemBytes d.kFmt (d.pageHeads * d.dim))
def tt (d : Attn) : Nat := Nat.min d.pt 32
def nc (d : Attn) : Nat := d.pt / d.tt
def nl (d : Attn) : Nat := if d.blocklist then d.blocks else d.npages
def queryBytes (d : Attn) : Nat := elemBytes d.qFmt (d.heads * d.dim)

/-- Field ranges that ATTN_DECODE and ATTN_SCORE_TOPK share (R222, R233). -/
def commonBad (d : Attn) : Bool :=
  d.pageHeads < 1 || d.pageHeads > 64 || d.gqa < 1 || d.gqa > 16 || d.kvHeads < 1 || d.kvHeads > 16 ||
  !oneOf [16, 32, 64, 128, 256] d.pt || d.pageStep < 1 || d.kvPages < 1 || d.tokens < 1 || d.tokens > 4194304 ||
  d.head0 + d.kvHeads > d.pageHeads || d.pos (d.npages - 1) (d.pt - 1) ≥ 2 ^ 32

/-- Extents of ATTN_DECODE without the result (R224): operand address and sectors. -/
def extents (d : Attn) : List (Nat × Nat) :=
  [(d.qAddr, sectorsOf d.queryBytes), (d.ptAddr, sectorsOf (4 * d.npages)), (d.kvBase, d.kvPages * d.pageStride)] ++
  if d.blocklist then [(d.blockAddr, sectorsOf (4 * d.blocks))] else []

/-- Extents of ATTN_SCORE_TOPK without the result (R234). -/
def topkExtents (d : Attn) : List (Nat × Nat) :=
  [(d.qAddr, sectorsOf d.queryBytes), (d.ptAddr, sectorsOf (4 * d.npages)), (d.kvBase, d.kvPages * d.summarySectors)]

end Attn

def e32 (fmt : Nat) : Nat := fmtBits fmt / 8

/-- Bytes of one result record (R224, R229). -/
def recordBytes (final : Bool) (dim outFmt : Nat) : Nat := if final then dim * e32 outFmt else 8 + dim * e32 outFmt

/-- The result area overlaps one of the extents (R223, R234). -/
def hitsResult (v : Nat) (l : List (Nat × Nat)) : Bool :=
  l.any fun x => overlaps x.1 x.2 (dResultAddr v) (resultArea v)

/-- SCALE is zero, infinite or NaN (R223). -/
def badScale (x : Nat) : Bool := match f32 x with
  | .fin _ m _ => m == 0
  | _ => true

/-- R223. -/
def attnMalformed (v : Nat) : Bool :=
  let d := attnOf v
  d.commonBad || (d.blocklist && (d.blocks < 1 || d.blocks > 4096)) || (!d.blocklist && d.blocks != 0) ||
  d.pageStride < d.pageHeads * (d.rK + d.rV) || badScale d.scale || hitsResult v d.extents

def attnBadFormat (v : Nat) : Bool :=
  let d := attnOf v
  !oneOf [1, 2] d.qFmt || !oneOf [1, 2, 3, 4, 5] d.kFmt || !oneOf [1, 2, 3, 4, 5] d.vFmt || !oneOf [0, 1] (dOutFmt v)

def attnResult (v : Nat) : Nat := (attnOf v).heads * recordBytes (attnOf v).final (attnOf v).dim (dOutFmt v)

/-- R234. -/
def topkMalformed (v : Nat) : Bool :=
  let d := attnOf v
  d.commonBad || d.blocks < 1 || d.blocks > 4096 || d.forceFirst + d.forceLast > d.blocks || hitsResult v d.topkExtents

def topkBadFormat (v : Nat) : Bool := !oneOf [1, 2] (attnOf v).qFmt || !oneOf [1, 2] (attnOf v).kFmt

/-- R239. -/
def mergeMalformed (v : Nat) : Bool :=
  let d := attnMergeOf v
  d.heads < 1 || d.heads > 256 || d.sources < 1 || d.sources > 256 || hitsResult v [(d.srcTable, sectorsOf (8 * d.sources))]

def mergeBadFormat (v : Nat) : Bool := !oneOf [0, 1] (attnMergeOf v).inFmt || !oneOf [0, 1] (dOutFmt v)

def mergeResult (v : Nat) : Nat :=
  (attnMergeOf v).heads * recordBytes (attnMergeOf v).final (attnMergeOf v).dim (dOutFmt v)

/-! ### Tiles and tile results (R225, R226) -/

/-- A partial result of one query head: m, l and o (R226), as one vector of FP32 codes. -/
def emptyPart (dim : Nat) : List Nat := negInf :: 0 :: List.replicate dim 0

/-- The block list, checked (R219, R222). -/
def blockList (d : Attn) (mem : Mem) : Rd (List Nat) := do
  let bs ← fetch mem [⟨d.blockAddr, 0, 4 * d.blocks⟩]
  let l := (List.range d.blocks).map fun i => u32At (bs.headD []) i
  if l.all (fun k => k < d.npages) && ((l.zip (l.drop 1)).all fun p => p.1 < p.2) then return l
  else throw (.bad stRange)

/-- The logical page at list position i (R225). -/
def logicalPage (d : Attn) (mem : Mem) (i : Nat) : Rd Nat := do
  if d.blocklist then return (← blockList d mem).getD i 0 else return i

/-- A page table entry, checked (R219). -/
def physPage (d : Attn) (mem : Mem) (k : Nat) : Rd Nat := do
  let p := u32At ((← fetch mem [⟨d.ptAddr, 4 * k, 4⟩]).headD []) 0
  if p < d.kvPages then return p else throw (.bad stRange)

/-- Byte ranges of row r of a K or V region and of its scales (R218). -/
def rowRanges (d : Attn) (fmt page slot off r : Nat) : List ByteRange :=
  let base := d.kvBase + page * d.pageStride + slot * (d.rK + d.rV) + off
  [⟨base, elemBytes fmt (r * d.dim), elemBytes fmt d.dim⟩] ++
  if isMx fmt then [⟨base, elemBytes fmt (d.pt * d.dim) + r * d.dim / 32, d.dim / 32⟩] else []

def rowValues (d : Attn) (fmt : Nat) (mem : Mem) (rs : List ByteRange) : List Num :=
  let bs := rs.map fun r => r.bytes mem
  valuesOf fmt (bs.headD []) ((bs.drop 1).headD []) d.dim

/-- rows16 of R226 over one or two groups of 16. -/
def rows16 (n : Nat) (f : Nat → Calc Nat) : Calc Nat := do
  let x ← f 0
  if n = 32 then fadd x (← f 1) else return x

/-- One query head against the rows of a tile (R226): k, v are the rows' values, vis their visibility. -/
def attnHead (d : Attn) (q : List Num) (k v : List (List Num)) (vis : List Bool) : Calc (List Nat) := do
  let s ← (k.zip vis).mapM fun (kr, ok) => do
    if ok then fmul (← dot q kr d.dim) d.scale else return 0
  let m := (s.zip vis).foldl (fun m x => if x.2 then fmax m x.1 else m) negInf
  if feq m negInf then return emptyPart d.dim
  let pb ← (s.zip vis).mapM fun (x, ok) => do
    if ok then cvt 1 false (exp2 (← fsub x m)) else return 0
  let p := pb.map (decodeElem 1)
  let vr := (v.zip vis).map fun x => if x.2 then x.1 else List.replicate d.dim (.fin false 0 0)
  let grp := fun (l : List Num) j => (l.drop (16 * j)).take 16
  let l ← rows16 d.tt fun j => fused16 (grp p j) (List.replicate 16 (f32 one32))
  let o ← (List.range d.dim).mapM fun e => do
    let col := vr.map fun r => r.getD e (.fin false 0 0)
    rows16 d.tt fun j => fused16 (grp p j) (grp col j)
  return m :: l :: o

/-- tile_result of ATTN_DECODE (R226); info counts visible tokens (R230) and, from bit 32 up, rows read (R244). -/
def attnTile (v : Nat) (mem : Mem) (t : Nat) : Rd Vals := do
  let d := attnOf v
  let h := t / (d.nl * d.nc)
  let i := t % (d.nl * d.nc) / d.nc
  let c := t % d.nc
  let k ← logicalPage d mem i
  let n := Nat.min d.tt (d.tokens - (k * d.pt + c * d.tt))
  let vis := (List.range d.tt).map fun r => decide (r < n) && d.visible (d.pos k (c * d.tt + r))
  if !vis.any id then return { Vals.zero with words := List.replicate d.gqa (emptyPart d.dim) }
  let p ← physPage d mem k
  let rows := List.range n
  let kR := rows.map fun r => rowRanges d d.kFmt p (d.head0 + h) 0 (c * d.tt + r)
  let vR := rows.map fun r => rowRanges d d.vFmt p (d.head0 + h) d.rK (c * d.tt + r)
  let qR := (List.range d.gqa).map fun g => (⟨d.qAddr, elemBytes d.qFmt ((h * d.gqa + g) * d.dim), elemBytes d.qFmt d.dim⟩ : ByteRange)
  let _ ← fetch mem (kR.flatten ++ vR.flatten ++ qR)
  let pad := List.replicate (d.tt - n) (List.replicate d.dim (Num.fin false 0 0))
  let ks := (kR.map fun r => rowValues d d.kFmt mem r) ++ pad
  let vs := (vR.map fun r => rowValues d d.vFmt mem r) ++ pad
  let (w, tl) := runCalc {} (qR.mapM fun r => attnHead d (elemsOf d.qFmt (r.bytes mem) d.dim) ks vs vis)
  return { Vals.zero with words := w, tally := tl, info := (if h = 0 then (vis.filter id).length else 0) + n * 2 ^ 32 }

/-- The factor of one side of combine (R227). -/
def combineFactor (m mx : Nat) : Calc Nat := do
  if feq m mx then return one32 else return exp2 (← fsub m mx)

/-- combine of R227. -/
def combine (a b : List Nat) : Calc (List Nat) := do
  let am := a.headD 0
  let bm := b.headD 0
  if feq bm negInf then return a
  if feq am negInf then return b
  let mx := fmax am bm
  let fa ← combineFactor am mx
  let fb ← combineFactor bm mx
  let rest ← ((a.drop 1).zip (b.drop 1)).mapM fun (x, y) => do fadd (← fmul x fa) (← fmul y fb)
  return mx :: rest

/-- Parts combined into the merge state from head base on (R227, R240). -/
def combineAt (acc : Vals) (base : Nat) (p : Vals) : Vals :=
  let (w, tl) := runCalc {} ((acc.words.zip (List.range acc.words.length)).mapM fun (a, i) =>
    if base ≤ i then
      match p.words[i - base]? with
      | some b => combine a b
      | none => pure a
    else pure a)
  { acc with words := w, info := acc.info + p.info, tally := (acc.tally.add p.tally).add tl }

/-- One head's record (R228, R229), and the events its conversions count. -/
def attnRecord (final sat : Bool) (outFmt : Nat) (w : List Nat) : Calc (List Byte) := do
  let m := w.headD 0
  let l := (w.drop 1).headD 0
  let o := w.drop 2
  if final then
    if feq l 0 then return codesBytes outFmt (o.map fun _ => 0)
    let rl := recip l
    return codesBytes outFmt (← o.mapM fun x => do cvt outFmt sat (← fmul x rl))
  else
    return toBytes 4 m ++ toBytes 4 l ++ codesBytes outFmt (← o.mapM fun x => cvt outFmt sat x)

/-- Records of heads lo to hi − 1 as one piece, with the heads written as empty (R228, R229). -/
def attnRecords (v : Nat) (final : Bool) (dim : Nat) (acc : Vals) (lo hi : Nat) : List Byte × Nat × Tally :=
  let ws := (acc.words.drop lo).take (hi - lo)
  let (bs, tl) := runCalc {} (ws.mapM fun w => attnRecord final (dSat v) (dOutFmt v) w)
  let _ := dim
  (bs.flatten, (ws.filter fun w => feq (w.headD 0) negInf).length, tl)

/-! ### Staging and cost (R231, R232) -/

def attnStaging (v p : Nat) : Nat :=
  let d := attnOf v
  ceilDiv d.kvHeads p * d.gqa * (8 + 4 * d.dim + elemBytes d.qFmt d.dim) + 4 * d.blocks * ofBool d.blocklist

/-- Existing rows of each counted tile of one head, without BLOCKLIST (R225, R232). -/
def attnCounted (d : Attn) : List Nat :=
  if d.blocklist then List.replicate (d.blocks * d.nc) d.tt
  else ((List.range d.npages).map fun k => (List.range d.nc).filterMap fun c =>
    let n := Nat.min d.tt (d.tokens - (k * d.pt + c * d.tt))
    if (List.range n).any fun r => d.visible (d.pos k (c * d.tt + r)) then some n else none).flatten

def is8bit (fmt : Nat) : Bool := fmtBits fmt == 8

def attnCost (v c : Nat) (g : Bandwidth) (p : Nat) : Nat :=
  let d := attnOf v
  let tiles := attnCounted d
  let rqk := if is8bit d.qFmt && is8bit d.kFmt then 256 else 128
  let at' := 32 + ceilDiv (d.tt * d.gqa * d.dim) rqk + ceilDiv (d.tt * d.gqa * d.dim) 128 + ceilDiv (d.tt * d.gqa) 8
  let one := fun fmt n => 64 * sectorsOf (elemBytes fmt (n * d.dim)) + sigma fmt * 64 * ceilDiv (n * d.dim) 2048
  let kv := d.kvHeads * (tiles.map fun n => one d.kFmt n + one d.vFmt n).sum
  let table := if d.blocklist then p * 64 * d.blocks + 64 * ceilDiv d.blocks 16 else p * 64 * ceilDiv d.npages 16
  let b := kv + table + d.queryBytes + 64 * sectorsOf (attnResult v)
  256 + Nat.max (ceilDiv (d.kvHeads * tiles.length) c * at') (overBw b g)

/-! ### ATTN_SCORE_TOPK (R235 to R237) -/

/-- A logical page is a candidate (R235). -/
def isCandidate (d : Attn) (k : Nat) : Bool :=
  (List.range d.pt).any fun r => decide (k * d.pt + r < d.tokens) && d.visible (d.pos k r)

def candidates (d : Attn) : List Nat := (List.range d.npages).filter fun k => isCandidate d k

/-- The forced pages (R235). -/
def forcedPages (d : Attn) : List Nat :=
  let c := candidates d
  let f := c.take d.forceFirst
  f ++ (c.drop (c.length - d.forceLast)).filter fun k => !f.contains k

/-- score of R235. -/
def pageScore (d : Attn) (mem : Mem) (k : Nat) : Rd (Nat × Tally) := do
  let p ← physPage d mem k
  let base := d.kvBase + p * d.summarySectors
  let qR := (List.range d.heads).map fun q => (⟨d.qAddr, elemBytes d.qFmt (q * d.dim), elemBytes d.qFmt d.dim⟩ : ByteRange)
  let sR := (List.range d.kvHeads).map fun h => (⟨base, elemBytes d.kFmt ((d.head0 + h) * d.dim), elemBytes d.kFmt d.dim⟩ : ByteRange)
  let _ ← fetch mem (qR ++ sR)
  return runCalc {} do
    let ss ← (qR.zip (List.range d.heads)).mapM fun (r, q) =>
      match sR[q / d.gqa]? with
      | some sr => dot (elemsOf d.qFmt (r.bytes mem) d.dim) (elemsOf d.kFmt (sr.bytes mem) d.dim) d.dim
      | none => pure 0
    if ss.any isNan32 then return 0x7FC00000
    else return ss.foldl (fun best x => if numLt (f32 best) (f32 x) then x else best) negInf

/-- TPG of R237. -/
def topkPages (d : Attn) : Nat :=
  let lim := Nat.min 64 (262144 / (d.heads * d.dim))
  2 ^ Nat.log2 lim

def topkTile (v : Nat) (mem : Mem) (t : Nat) : Rd Vals := do
  let d := attnOf v
  let forced := forcedPages d
  let pages := ((List.range (topkPages d)).map fun i => t * topkPages d + i).filter fun k =>
    k < d.npages && isCandidate d k && !forced.contains k
  let rs ← pages.mapM fun k => do return (k, ← pageScore d mem k)
  return { Vals.zero with
    words := rs.map fun r => [r.1, r.2.1]
    info := (rs.filter fun r => isNan32 r.2.1).length
    tally := rs.foldl (fun t r => t.add r.2.2) {} }

/-- rank of R235: a comes before b. -/
def rankBefore (a b : List Nat) : Bool :=
  let sa := (a.drop 1).headD 0
  let sb := (b.drop 1).headD 0
  if isNan32 sa != isNan32 sb then !isNan32 sa
  else if !isNan32 sa && numLt (f32 sb) (f32 sa) then true
  else if !isNan32 sa && numLt (f32 sa) (f32 sb) then false
  else a.headD 0 < b.headD 0

/-- Insertion under rank. -/
def rankInsert (x : List Nat) : List (List Nat) → List (List Nat)
  | [] => [x]
  | y :: ys => if rankBefore x y then x :: y :: ys else y :: rankInsert x ys

/-- merge of R237: the best K − |forced| under rank. -/
def topkMerge (v : Nat) (acc p : Vals) : Vals :=
  let d := attnOf v
  let keep := d.blocks - (forcedPages d).length
  { acc with words := (p.words.foldl (fun l x => rankInsert x l) acc.words).take keep
             info := acc.info + p.info, tally := acc.tally.add p.tally }

/-- Insertion into an ascending list of numbers. -/
def natInsert (x : Nat) : List Nat → List Nat
  | [] => [x]
  | y :: ys => if x ≤ y then x :: y :: ys else y :: natInsert x ys

def natSort (l : List Nat) : List Nat := l.foldl (fun acc x => natInsert x acc) []

/-- The chosen pages, ascending (R235, R236). -/
def topkChosen (v : Nat) (acc : Vals) : List Nat := natSort (forcedPages (attnOf v) ++ acc.words.map fun w => w.headD 0)

/-- THRESHOLD of R236. -/
def topkThreshold (acc : Vals) : Nat := (acc.words.getLast?.map fun w => (w.drop 1).headD 0).getD negInf

def topkStaging (v : Nat) : Nat := 8 * (attnOf v).blocks + (attnOf v).queryBytes

def topkTiles (v : Nat) : Nat := ceilDiv (attnOf v).npages (topkPages (attnOf v))

def topkCost (v c : Nat) (g : Bandwidth) : Nat :=
  let d := attnOf v
  let cand := candidates d
  let tpg := topkPages d
  let r := if is8bit d.qFmt && is8bit d.kFmt then 256 else 128
  let at' := 64 + ceilDiv (tpg * d.heads * d.dim) r + ceilDiv (tpg * d.heads) 16
  let nt := ((List.range (topkTiles v)).filter fun i => cand.any fun k => k / tpg == i).length
  let b := 64 * ceilDiv d.npages 16 + (cand.length - (forcedPages d).length) * 64 * sectorsOf (elemBytes d.kFmt (d.kvHeads * d.dim)) +
    d.queryBytes + 64 * sectorsOf (4 * d.blocks)
  256 + Nat.max (ceilDiv nt c * at') (overBw b g)

/-! ### ATTN_MERGE (R239 to R241) -/

def srcBytes (d : AttnMerge) : Nat := d.heads * (8 + d.dim * e32 d.inFmt)

/-- The source table, checked in table order (R239): S-side partition bounds lo to hi, own FA, side. -/
def sourceTable (v : Nat) (mem : Mem) (sSide : Bool) (fa lo hi : Nat) : Rd (List Nat) := do
  let d := attnMergeOf v
  let bs := (← fetch mem [⟨d.srcTable, 0, 8 * d.sources⟩]).headD []
  (List.range d.sources).mapM fun i => do
    let w := valAt bs (8 * i) 8
    let a := w % 2 ^ 52
    let n := sectorsOf (srcBytes d)
    if w / 2 ^ 52 ≠ 0 || addrOf a + n > 2 ^ 40 then throw (.bad stRange)
    else if (faOf a == fa) != sSide then throw (.bad stDenied)
    else if overlaps a n (dResultAddr v) (resultArea v) then throw (.bad stMalformed)
    else if sSide && (addrOf a < lo || addrOf a + n - 1 > hi) then throw (.bad stRange)
    else return a

def mergeTile (v : Nat) (mem : Mem) (sSide : Bool) (fa lo hi t : Nat) : Rd Vals := do
  let d := attnMergeOf v
  let srcs ← sourceTable v mem sSide fa lo hi
  let b := t / d.sources
  let src := srcs.getD (t % d.sources) 0
  let n := Nat.min 16 (d.heads - 16 * b)
  let rb := 8 + d.dim * e32 d.inFmt
  let bs := (← fetch mem [⟨src, 16 * b * rb, n * rb⟩]).headD []
  let recs := (List.range n).map fun j =>
    let r := slice bs (j * rb) rb
    u32At r 0 :: u32At r 1 :: (List.range d.dim).map fun e => widen d.inFmt (elemAt d.inFmt (r.drop 8) e)
  return { Vals.zero with words := recs }

def mergeBlocks (v : Nat) : Nat := ceilDiv (attnMergeOf v).heads 16

def mergeStaging (v p : Nat) : Nat :=
  ceilDiv (mergeBlocks v) p * 16 * (8 + 4 * (attnMergeOf v).dim) + 8 * (attnMergeOf v).sources

def mergeCost (v c : Nat) (g : Bandwidth) : Nat :=
  let d := attnMergeOf v
  let rb := 8 + d.dim * e32 d.inFmt
  let blk := ((List.range (mergeBlocks v)).map fun i => 64 * sectorsOf (Nat.min 16 (d.heads - 16 * i) * rb)).sum
  let b := 64 * ceilDiv d.sources 8 + d.sources * blk + 64 * sectorsOf (mergeResult v)
  256 + Nat.max (ceilDiv (mergeBlocks v * d.sources) c * (32 + 3 * (d.dim + 2))) (overBw b g)

end Sys2Proof.Machine
end

