-- ==== Sys2Proof/Machine/Streaming.lean ====
section
/-! DEFINITION. The streaming operators (09_streaming_operators.md, R245 to R274): descriptors, checks, tiles, tile results, merges,
staging and cost. The life of a reduction is in Reduce.lean. -/

namespace Sys2Proof.Machine

/-- R246. -/
def streamCost (nt c at' b : Nat) (g : Bandwidth) : Nat := 256 + Nat.max (ceilDiv nt c * at') (overBw b g)

/-! ### EXPERT_GEMV (R247 to R252) -/

structure Gemv where
  gated : Bool
  xFmt : Nat
  wFmt : Nat
  batch : Nat
  rowStride : Nat
  cols : Nat
  rows : Nat
  usAddr : Nat
  uAddr : Nat
  wsAddr : Nat
  wAddr : Nat
  xAddr : Nat
  deriving DecidableEq, Repr

def gemvOf (v : Nat) : Gemv where
  gated := bit v 550
  xFmt := field v 549 546
  wFmt := field v 545 542
  batch := field v 541 536
  rowStride := field v 535 512
  cols := field v 511 480
  rows := field v 479 448
  usAddr := opAddr v 447
  uAddr := opAddr v 383
  wsAddr := opAddr v 319
  wAddr := opAddr v 255
  xAddr := opAddr v 191

def Gemv.tokenBytes (d : Gemv) : Nat := d.batch * elemBytes d.xFmt d.cols + sigma d.xFmt * (d.batch * d.cols / 32)
def Gemv.mats (d : Gemv) : Nat := 1 + ofBool d.gated

def Gemv.extents (d : Gemv) : List (Nat × Nat) :=
  [(d.xAddr, sectorsOf d.tokenBytes), (d.wAddr, d.rows * d.rowStride)] ++
  (if d.gated then [(d.uAddr, d.rows * d.rowStride)] else []) ++
  (if isMx d.wFmt then [(d.wsAddr, sectorsOf (d.rows * d.cols / 32))] else []) ++
  (if isMx d.wFmt && d.gated then [(d.usAddr, sectorsOf (d.rows * d.cols / 32))] else [])

def gemvMalformed (v : Nat) : Bool :=
  let d := gemvOf v
  d.batch < 1 || d.batch > 32 || d.cols < 32 || d.cols > 65536 || d.cols % 32 != 0 || d.rows < 1 || d.rows > 65536 ||
  d.rowStride < sectorsOf (elemBytes d.wFmt d.cols) || hitsResult v d.extents

def gemvBadFormat (v : Nat) : Bool :=
  let d := gemvOf v
  !oneOf [1, 2, 4] d.xFmt || !oneOf [1, 4, 5, 6, 7, 8] d.wFmt || (oneOf [6, 7] d.wFmt && d.xFmt == 1) || !oneOf [0, 1] (dOutFmt v)

def gemvResult (v : Nat) : Nat := (gemvOf v).rows * (gemvOf v).batch * e32 (dOutFmt v)

/-- r of R249. -/
def gemvRate (d : Gemv) : Nat :=
  if d.xFmt == 1 || d.wFmt == 1 then 128 else if d.wFmt == 8 then 512 else 256

/-- CT of R249. -/
def gemvCols (d : Gemv) : Nat :=
  (([512, 256, 128] : List Nat).find? fun ct => d.mats * 32 * ct * d.batch ≤ 2048 * gemvRate d).getD 128

def gemvRowBlocks (d : Gemv) : Nat := ceilDiv d.rows 32
def gemvColBlocks (d : Gemv) : Nat := ceilDiv d.cols (gemvCols d)

/-- Byte ranges of n elements of a weight row from element cs on, and of their scales. -/
def weightRanges (d : Gemv) (base scales r cs n : Nat) : List ByteRange :=
  [⟨base + r * d.rowStride, elemBytes d.wFmt cs, elemBytes d.wFmt n⟩] ++
  if isMx d.wFmt then [⟨scales, (r * d.cols + cs) / 32, n / 32⟩] else []

def tokenRanges (d : Gemv) (b cs n : Nat) : List ByteRange :=
  [⟨d.xAddr, elemBytes d.xFmt (b * d.cols + cs), elemBytes d.xFmt n⟩] ++
  if isMx d.xFmt then [⟨d.xAddr, d.batch * d.cols + (b * d.cols + cs) / 32, n / 32⟩] else []

def rangeValues (fmt n : Nat) (mem : Mem) (rs : List ByteRange) : List Num :=
  let bs := rs.map fun r => r.bytes mem
  valuesOf fmt (bs.headD []) ((bs.drop 1).headD []) n

/-- tile_result of R250: [p.g, p.u], row by row, token by token; info counts the weight and scale bytes read. -/
def gemvTile (v : Nat) (mem : Mem) (t : Nat) : Rd Vals := do
  let d := gemvOf v
  let rb := t / gemvColBlocks d
  let cs := t % gemvColBlocks d * gemvCols d
  let n := Nat.min (gemvCols d) (d.cols - cs)
  let rows := (List.range (Nat.min 32 (d.rows - 32 * rb))).map fun i => 32 * rb + i
  let wR := rows.map fun r => weightRanges d d.wAddr d.wsAddr r cs n
  let uR := if d.gated then rows.map fun r => weightRanges d d.uAddr d.usAddr r cs n else []
  let xR := (List.range d.batch).map fun b => tokenRanges d b cs n
  let _ ← fetch mem (wR.flatten ++ uR.flatten ++ xR.flatten)
  let xs := xR.map (rangeValues d.xFmt n mem)
  let all := fun (rs : List (List ByteRange)) => (rs.mapM fun r => do
    let w := rangeValues d.wFmt n mem r
    xs.mapM fun x => dot w x n : Calc (List (List Nat)))
  let ((g, u), tl) := runCalc {} (do return ((← all wR).flatten, (← all uR).flatten))
  return { Vals.zero with words := [g, u], tally := tl, info := ((wR.flatten ++ uR.flatten).map ByteRange.len).sum }

/-- merge of R250: tiles of one row block come in column order, so column block 0 appends and the others add. -/
def gemvMerge (v : Nat) (acc : Vals) (t : Nat) (p : Vals) : Vals :=
  let d := gemvOf v
  let cb := t % gemvColBlocks d
  let join := fun (a b : List Nat) => do
    if cb = 0 then return a ++ b
    else
      let k := a.length - b.length
      return a.take k ++ (← ((a.drop k).zip b).mapM fun (x, y) => fadd x y)
  let g := acc.words.headD []
  let u := (acc.words.drop 1).headD []
  let ((g', u'), tl) := runCalc {} (do return (← join g (p.words.headD []), ← join u ((p.words.drop 1).headD [])))
  { acc with words := [g', u'], info := acc.info + p.info, tally := (acc.tally.add p.tally).add tl }

/-- silu of R250; 0xBFB8AA3B is −log₂ e. -/
def silu (z : Nat) : Calc Nat := do
  fmul z (recip (← fadd one32 (exp2 (← fmul z 0xBFB8AA3B))))

/-- finish of R250 for rows lo to hi − 1: bytes, outputs written as NaN, events. -/
def gemvRows (v : Nat) (acc : Vals) (lo hi : Nat) : List Byte × Nat × Tally :=
  let d := gemvOf v
  let part := fun (l : List Nat) => (l.drop (lo * d.batch)).take ((hi - lo) * d.batch)
  let g := part (acc.words.headD [])
  let u := part ((acc.words.drop 1).headD [])
  let (ys, tl) := runCalc {} (do
    let y ← if d.gated then (g.zip u).mapM fun (a, b) => do fmul (← silu a) b else pure g
    y.mapM fun x => cvt (dOutFmt v) (dSat v) x)
  (codesBytes (dOutFmt v) ys, (ys.filter fun y => decodeElem (dOutFmt v) y == .nan).length, tl)

def gemvStaging (v p : Nat) : Nat :=
  let d := gemvOf v
  d.tokenBytes + ceilDiv (gemvRowBlocks d) p * 32 * d.batch * 4 * d.mats

def gemvCost (v c : Nat) (g : Bandwidth) (p : Nat) : Nat :=
  let d := gemvOf v
  let ct := gemvCols d
  let u := if oneOf [6, 7, 8] d.wFmt then d.mats * ceilDiv (32 * ct) 128 else 0
  let at' := 32 + u + d.mats * ceilDiv (32 * ct * d.batch) (gemvRate d) + d.batch
  let b := d.mats * d.rows * 64 * sectorsOf (elemBytes d.wFmt d.cols) + d.mats * sigma d.wFmt * 64 * ceilDiv (d.rows * d.cols) 2048 +
    p * 64 * sectorsOf d.tokenBytes + 64 * sectorsOf (gemvResult v)
  streamCost (gemvRowBlocks d * gemvColBlocks d) c at' b g

/-! ### REDUCE_ON_WRITE and REDUCE_FLUSH: descriptors (R254, R255) -/

structure ReduceDesc where
  init : Bool
  inFmt : Nat
  redId : Nat
  contributors : Nat
  elements : Nat
  deriving DecidableEq, Repr

def reduceOf (v : Nat) : ReduceDesc where
  init := bit v 196
  inFmt := field v 195 192
  redId := field v 191 176
  contributors := field v 175 160
  elements := field v 159 128

def reduceMalformed (v : Nat) : Bool :=
  let d := reduceOf v
  dInline v || d.contributors < 1 || d.elements < 1 || d.elements > 131072 || d.elements * e32 (dOutFmt v) % 64 != 0

def reduceBadFormat (v : Nat) : Bool := !oneOf [0, 1] (reduceOf v).inFmt || !oneOf [0, 1, 2, 3] (dOutFmt v)

def reduceResult (v : Nat) : Nat := (reduceOf v).elements * e32 (dOutFmt v)

/-- An initial tile (R256 step 3): the old target's values as accumulators. -/
def reduceTile (v : Nat) (mem : Mem) (t : Nat) : Rd Vals := do
  let d := reduceOf v
  if !d.init then return Vals.zero
  let n := Nat.min 512 (d.elements - 512 * t)
  let e := e32 (dOutFmt v)
  let bs := (← fetch mem [⟨dResultAddr v, 512 * t * e, n * e⟩]).headD []
  let (accs, tl) := runCalc {} ((elemsOf (dOutFmt v) bs n).mapM fun x => eadd Acc.zero x)
  return { Vals.zero with accs := accs, tally := tl }

def flushAbort (v : Nat) : Bool := bit v 144
def flushId (v : Nat) : Nat := field v 143 128

/-! ### GATHER_SUM (R262 to R265) -/

structure Gather where
  weighted : Bool
  mode : Nat
  inFmt : Nat
  bags : Nat
  dim : Nat
  rowStride : Nat
  tableRows : Nat
  wtAddr : Nat
  offAddr : Nat
  idxAddr : Nat
  tableAddr : Nat
  deriving DecidableEq, Repr

def gatherOf (v : Nat) : Gather where
  weighted := bit v 478
  mode := field v 477 476
  inFmt := field v 475 472
  bags := field v 471 456
  dim := field v 455 440
  rowStride := field v 439 416
  tableRows := field v 415 384
  wtAddr := opAddr v 383
  offAddr := opAddr v 319
  idxAddr := opAddr v 255
  tableAddr := opAddr v 191

def gatherResult (v : Nat) : Nat := (gatherOf v).bags * (gatherOf v).dim * e32 (dOutFmt v)

def Gather.extents (d : Gather) : List (Nat × Nat) :=
  [(d.tableAddr, d.tableRows * d.rowStride), (d.offAddr, sectorsOf (4 * (d.bags + 1)))]

/-- R262: the input areas of an overlap check are those whose size the descriptor gives; the index list and the weights have
no size before the offsets are read, so their first sectors stand for them (assumption 10). -/
def gatherMalformed (v : Nat) : Bool :=
  let d := gatherOf v
  d.mode == 3 || d.bags < 1 || d.dim < 1 || d.dim % 32 != 0 || d.dim * e32 d.inFmt > 16384 || d.tableRows < 1 ||
  d.rowStride < sectorsOf (d.dim * e32 d.inFmt) ||
  hitsResult v (d.extents ++ [(d.idxAddr, 1)] ++ if d.weighted then [(d.wtAddr, 1)] else [])

def gatherBadFormat (v : Nat) : Bool := !oneOf [0, 1, 2, 3] (gatherOf v).inFmt || !oneOf [0, 1] (dOutFmt v)

def gatherChunks (d : Gather) : Nat := ceilDiv d.dim 512

/-- An area of n bytes fails R204: it ends above sector 2^40 − 1 or leaves [lo, hi] on an S-side instance. -/
def leavesArea (sSide : Bool) (lo hi a n : Nat) : Bool :=
  n != 0 && (addrOf a + sectorsOf n > 2 ^ 40 || (sSide && (addrOf a < lo || addrOf a + sectorsOf n - 1 > hi)))

/-- The offsets, checked (R263). -/
def gatherOffsets (v : Nat) (mem : Mem) (sSide : Bool) (lo hi : Nat) : Rd (List Nat) := do
  let d := gatherOf v
  let bs := (← fetch mem [⟨d.offAddr, 0, 4 * (d.bags + 1)⟩]).headD []
  let l := (List.range (d.bags + 1)).map fun i => u32At bs i
  let top := l.getLast?.getD 0
  if ((l.zip (l.drop 1)).any fun p => p.2 < p.1 || p.2 - p.1 > 1024) || leavesArea sSide lo hi d.idxAddr (4 * top) ||
      (d.weighted && leavesArea sSide lo hi d.wtAddr (4 * top)) then throw (.bad stRange)
  else return l

/-- One tile of R264: bag b, chunk c, group k of 64 index positions; info counts rows read. -/
def gatherTile (v : Nat) (mem : Mem) (sSide : Bool) (lo hi t : Nat) : Rd Vals := do
  let d := gatherOf v
  let b := t / (gatherChunks d * 16)
  let c := t % (gatherChunks d * 16) / 16
  let k := t % 16
  let off ← gatherOffsets v mem sSide lo hi
  let first := off.getD b 0 + 64 * k
  let n := Nat.min 64 (off.getD (b + 1) 0 - first)
  if n = 0 then return Vals.zero
  let ib := (← fetch mem [⟨d.idxAddr, 4 * first, 4 * n⟩]).headD []
  let idx := (List.range n).map fun i => u32At ib i
  if idx.any fun x => x ≥ d.tableRows then throw (.bad stRange)
  let e := e32 d.inFmt
  let m := Nat.min 512 (d.dim - 512 * c)
  let rR := idx.map fun x => (⟨d.tableAddr + x * d.rowStride, 512 * c * e, m * e⟩ : ByteRange)
  let wR := if d.weighted then [(⟨d.wtAddr, 4 * first, 4 * n⟩ : ByteRange)] else []
  let _ ← fetch mem (rR ++ wR)
  let wb := (wR.map fun r => r.bytes mem).headD []
  let rows := rR.map fun r => (List.range m).map fun j => widen d.inFmt (elemAt d.inFmt (r.bytes mem) j)
  let (vals, tl) := runCalc {} ((rows.zip (List.range n)).mapM fun (r, i) =>
    if d.weighted then r.mapM fun x => fmul (u32At wb i) x else pure r)
  let rowsRead := if c = 0 then n else 0
  if d.mode = 2 then
    let mx := (vals.drop 1).foldl (fun a r => List.zipWith fmax a r) (vals.headD [])
    return { Vals.zero with words := [mx], tally := tl, info := rowsRead }
  else
    let (accs, tl2) := runCalc tl (vals.foldlM (fun a r => (a.zip r).mapM fun (x, y) => eadd x (f32 y)) (List.replicate m Acc.zero))
    return { Vals.zero with accs := accs, tally := tl2, info := rowsRead }

/-- merge of R264: group 0 starts a chunk of a bag. -/
def gatherMerge (acc : Vals) (t : Nat) (p : Vals) : Vals :=
  let a := if t % 16 = 0 then { acc with words := [], accs := [] } else acc
  let w := match a.words, p.words with
    | [x], [y] => [List.zipWith fmax x y]
    | [], y => y
    | x, _ => x
  let (accs, tl) := runCalc {} (
    if a.accs.isEmpty then pure p.accs
    else if p.accs.isEmpty then pure a.accs
    else (a.accs.zip p.accs).mapM fun (x, y) => eaddAcc x y)
  { a with words := w, accs := accs, info := a.info + p.info, tally := (a.tally.add p.tally).add tl }

/-- The outputs of the chunk that tile t ends (R264), whether its bag is empty, and events. -/
def gatherOutput (v : Nat) (acc : Vals) (len t : Nat) : List Byte × Bool × Tally :=
  let d := gatherOf v
  let c := t % (gatherChunks d * 16) / 16
  let m := Nat.min 512 (d.dim - 512 * c)
  let out := dOutFmt v
  if len = 0 then (codesBytes out (List.replicate m 0), true, {})
  else
    let (l, tl) := runCalc {} (
      if d.mode = 2 then (acc.words.headD []).mapM fun x => cvt out (dSat v) x
      else if d.mode = 0 then acc.accs.mapM fun a => eround out a (dSat v)
      else acc.accs.mapM fun a => do cvt out (dSat v) (← fmul (← eround 0 a (dSat v)) (recip (floatOf len))))
    (codesBytes out l, false, tl)

def gatherStaging (v : Nat) : Nat := 512 * 40 + 4 * ((gatherOf v).bags + 1)

def gatherCost (v c : Nat) (g : Bandwidth) : Nat :=
  let d := gatherOf v
  let b := 64 * ceilDiv (d.bags + 1) 16 + 8 * 1024 * d.bags + 1024 * d.bags * 64 * sectorsOf (d.dim * e32 d.inFmt) +
    64 * sectorsOf (gatherResult v)
  streamCost (d.bags * 16 * gatherChunks d) c 2080 b g

/-! ### QUANT_WRITE (R266 to R270) -/

structure Quant where
  sumMax : Bool
  summary : Bool
  sumFmt : Nat
  inFmt : Nat
  sumOff : Nat
  prior : Nat
  elems : Nat
  rows : Nat
  scaleOff : Nat
  dstOff : Nat
  sumAddr : Nat
  scaleAddr : Nat
  srcAddr : Nat
  deriving DecidableEq, Repr

def quantOf (v : Nat) : Quant where
  sumMax := bit v 441
  summary := bit v 440
  sumFmt := field v 439 436
  inFmt := field v 435 432
  sumOff := field v 431 416
  prior := field v 415 400
  elems := field v 399 384
  rows := field v 383 368
  scaleOff := field v 367 344
  dstOff := field v 343 320
  sumAddr := opAddr v 319
  scaleAddr := opAddr v 255
  srcAddr := opAddr v 191

/-- Bytes of one destination row, and the byte ranges that a QUANT_WRITE writes (R266). -/
def Quant.rowBytes (d : Quant) (out : Nat) : Nat := elemBytes out d.elems
def Quant.dst (d : Quant) (v : Nat) : ByteRange := ⟨dResultAddr v, d.dstOff, d.rows * d.rowBytes (dOutFmt v)⟩
def Quant.scales (d : Quant) : ByteRange := ⟨d.scaleAddr, d.scaleOff, d.rows * d.elems / 32⟩
def Quant.sum (d : Quant) : ByteRange := ⟨d.sumAddr, d.sumOff, if d.summary then elemBytes d.sumFmt d.elems else 0⟩
def Quant.src (d : Quant) : ByteRange := ⟨d.srcAddr, 0, d.rows * elemBytes d.inFmt d.elems⟩

/-- Two byte ranges overlap, compared by absolute byte address. -/
def bytesOverlap (a b : ByteRange) : Bool := overlaps (a.base * 64 + a.off) a.len (b.base * 64 + b.off) b.len

def pairwiseOverlap : List ByteRange → Bool
  | [] => false
  | a :: rest => (rest.any fun b => bytesOverlap a b) || pairwiseOverlap rest

def unaligned (r : ByteRange) : Bool := r.len != 0 && (r.off % 64 != 0 || (r.off + r.len) % 64 != 0)

/-- R267; sSide is the side of the instance. -/
def quantMalformed (v : Nat) (sSide : Bool) : Bool :=
  let d := quantOf v
  let out := dOutFmt v
  let rs := [d.src, d.dst v, d.scales, d.sum]
  dInline v || d.elems < 32 || d.elems > 16384 || d.elems % 32 != 0 || d.rows < 1 || (d.prior > 0 && !d.summary) ||
  d.dstOff < d.prior * d.rowBytes out || d.scaleOff < d.prior * d.elems / 32 || pairwiseOverlap rs ||
  (!sSide && rs.any unaligned)

def quantBadFormat (v : Nat) : Bool :=
  let d := quantOf v
  !oneOf [0, 1] d.inFmt || !oneOf [1, 2] d.sumFmt || !oneOf [4, 5, 6, 7, 8] (dOutFmt v)

/-- R267: the destination is the result; the others in sectors. -/
def Quant.extents (d : Quant) : List (Nat × Nat) :=
  [(d.srcAddr, sectorsOf d.src.len), (d.scaleAddr, sectorsOf (d.scales.off + d.scales.len))] ++
  if d.summary then [(d.sumAddr, sectorsOf (d.sum.off + d.sum.len))] else []

def quantResult (v : Nat) : Nat := ((quantOf v).dst v).off + ((quantOf v).dst v).len

/-- Sectors of a range that are written only in part (R268). -/
def partSectors (r : ByteRange) : Nat :=
  if r.len = 0 then 0
  else
    let first := r.off / 64
    let last := (r.off + r.len - 1) / 64
    if first = last then ofBool (r.len != 64)
    else ofBool (r.off % 64 != 0) + ofBool ((r.off + r.len) % 64 != 0)

def quantChunks (d : Quant) : Nat := ceilDiv d.elems 512

/-- tile_result of R269. Destination row r is counted from −PRIOR_ROWS, so row index i stands for r = i − PRIOR_ROWS. -/
def quantTile (v : Nat) (mem : Mem) (t : Nat) : Rd Vals := do
  let d := quantOf v
  let out := dOutFmt v
  let k := t / quantChunks d
  let c := t % quantChunks d
  let m := Nat.min 512 (d.elems - 512 * c)
  let rows := (List.range (Nat.min 8 (d.prior + d.rows - 8 * k))).map fun j => 8 * k + j
  let rb := d.rowBytes out
  let qOff := fun i => d.dstOff + i * rb - d.prior * rb + elemBytes out (512 * c)
  let sOff := fun i => d.scaleOff + i * (d.elems / 32) - d.prior * (d.elems / 32) + 16 * c
  let ranges := fun i => if i < d.prior then
      [(⟨dResultAddr v, qOff i, elemBytes out m⟩ : ByteRange), ⟨d.scaleAddr, sOff i, m / 32⟩]
    else [⟨d.srcAddr, elemBytes d.inFmt ((i - d.prior) * d.elems + 512 * c), elemBytes d.inFmt m⟩]
  let _ ← fetch mem ((rows.map ranges).flatten)
  let row := fun i => do
    let bs := (ranges i).map fun r => r.bytes mem
    if i < d.prior then
      return (bs.headD [], (bs.drop 1).headD [])
    else
      let xs := (List.range m).map fun j => widen d.inFmt (elemAt d.inFmt (bs.headD []) j)
      let blks ← (List.range (m / 32)).mapM fun b => mxQuant out (dSat v) ((xs.drop (32 * b)).take 32)
      return (packElems out ((blks.map (·.2)).flatten), blks.map fun b => BitVec.ofNat 8 b.1)
  let (stored, tl) := runCalc {} (rows.mapM row)
  let outs := ((rows.zip stored).map fun (i, q, sc) =>
    if i < d.prior then [] else [(dResultAddr v * 64 + qOff i, q), (d.scaleAddr * 64 + sOff i, sc)]).flatten
  if !d.summary then return { Vals.zero with out := outs, tally := tl }
  else if d.sumMax then
    let vs := stored.map fun (q, sc) => (List.range m).map fun j =>
      mxDecode32 out ((slice sc (j / 32) 1).headD 0).toNat (elemAt out q j)
    return { Vals.zero with out := outs, tally := tl, words := [(vs.drop 1).foldl (fun a r => List.zipWith fmax a r) (vs.headD [])] }
  else
    let vs := stored.map fun (q, sc) => mxElemsOf out q sc m
    let (accs, tl2) := runCalc tl (vs.foldlM (fun a r => (a.zip r).mapM fun (x, y) => eadd x y) (List.replicate m Acc.zero))
    return { Vals.zero with out := outs, tally := tl2, accs := accs }

/-- merge of R269: row group 0 appends a chunk of the summary, the others combine with it. -/
def quantMerge (v : Nat) (acc : Vals) (t : Nat) (p : Vals) : Vals :=
  let d := quantOf v
  let k := t / quantChunks d
  let lo := 512 * (t % quantChunks d)
  let w := acc.words.headD []
  let pw := p.words.headD []
  let w' := if k = 0 then w ++ pw else w.take lo ++ List.zipWith fmax (w.drop lo) pw ++ w.drop (lo + pw.length)
  let (accs, tl) := runCalc {} (
    if k = 0 then pure (acc.accs ++ p.accs)
    else do
      let mid ← ((acc.accs.drop lo).zip p.accs).mapM fun (x, y) => eaddAcc x y
      return acc.accs.take lo ++ mid ++ acc.accs.drop (lo + p.accs.length))
  { acc with words := [w'], accs := accs, tally := (acc.tally.add p.tally).add tl }

/-- The summary that finish writes (R269). -/
def quantSummary (v : Nat) (acc : Vals) : List Byte × Tally :=
  let d := quantOf v
  let (l, tl) := runCalc {} (
    if d.sumMax then (acc.words.headD []).mapM fun x => cvt d.sumFmt (dSat v) x
    else acc.accs.mapM fun a => do
      cvt d.sumFmt (dSat v) (← fmul (← eround 0 a (dSat v)) (recip (floatOf (d.prior + d.rows)))))
  (packElems d.sumFmt l, tl)

def quantStaging (v : Nat) : Nat := ofBool (quantOf v).summary * (quantOf v).elems * 40

def quantTiles (v : Nat) : Nat := ceilDiv ((quantOf v).prior + (quantOf v).rows) 8 * quantChunks (quantOf v)

def quantRmw (v : Nat) : Nat := partSectors ((quantOf v).dst v) + partSectors (quantOf v).scales + partSectors (quantOf v).sum

def quantCost (v c : Nat) (g : Bandwidth) : Nat :=
  let d := quantOf v
  let at' := 32 + 128 + ofBool d.summary * 256
  let b := d.src.len + d.prior * (d.rowBytes (dOutFmt v) + d.elems / 32) + (d.dst v).len + d.scales.len +
    64 * sectorsOf d.sum.len + 64 * quantRmw v
  streamCost (quantTiles v) c at' b g

/-! ### COPY_TRANSFORM (R271 to R274) -/

structure Copy where
  poison : Bool
  inFmt : Nat
  mode : Nat
  dstPart : Nat
  count : Nat
  fill : Nat
  srcAddr : Nat
  deriving DecidableEq, Repr

def copyOf (v : Nat) : Copy where
  poison := bit v 310
  inFmt := field v 309 306
  mode := field v 305 304
  dstPart := field v 303 296
  count := field v 295 256
  fill := field v 255 192
  srcAddr := opAddr v 191

def copyResult (v : Nat) : Nat :=
  let d := copyOf v
  if d.mode = 2 then d.count * e32 (dOutFmt v) else d.count * 64

def copySource (v : Nat) : Nat :=
  let d := copyOf v
  if d.mode = 1 then 0 else if d.mode = 2 then sectorsOf (d.count * e32 d.inFmt) else d.count

/-- R272. -/
def copyMalformed (v : Nat) : Bool :=
  let d := copyOf v
  dInline v || d.mode == 3 || d.count < 1 || (d.poison && d.mode != 1) ||
  (d.mode == 2 && (d.count * e32 d.inFmt % 64 != 0 || d.count * e32 (dOutFmt v) % 64 != 0)) ||
  overlaps d.srcAddr (copySource v) (dResultAddr v) (sectorsOf (copyResult v))

def copyBadFormat (v : Nat) : Bool :=
  (copyOf v).mode == 2 && (!oneOf [0, 1, 2, 3] (copyOf v).inFmt || !oneOf [0, 1, 2, 3] (dOutFmt v))

def copyTiles (v : Nat) : Nat := ceilDiv (copyOf v).count (if (copyOf v).mode = 2 then 2048 else 64)

/-- A tile of R273. -/
def copyTile (v : Nat) (mem : Mem) (t : Nat) : Rd Vals := do
  let d := copyOf v
  if d.mode = 1 then
    let n := Nat.min 64 (d.count - 64 * t)
    let bs := (List.replicate (8 * n) (toBytes 8 d.fill)).flatten
    return { Vals.zero with out := [((dResultAddr v + 64 * t) * 64, bs)] }
  else if d.mode = 0 then
    let n := Nat.min 64 (d.count - 64 * t)
    let bs := (← fetch mem [⟨d.srcAddr, 4096 * t, 64 * n⟩]).headD []
    return { Vals.zero with out := [((dResultAddr v + 64 * t) * 64, bs)] }
  else
    let n := Nat.min 2048 (d.count - 2048 * t)
    let e := e32 d.inFmt
    let o := e32 (dOutFmt v)
    let bs := (← fetch mem [⟨d.srcAddr, 2048 * t * e, n * e⟩]).headD []
    let (l, tl) := runCalc {} ((List.range n).mapM fun j => cvt (dOutFmt v) (dSat v) (widen d.inFmt (elemAt d.inFmt bs j)))
    return { Vals.zero with out := [(dResultAddr v * 64 + 2048 * t * o, codesBytes (dOutFmt v) l)], tally := tl }

def copyCost (v c : Nat) (g : Bandwidth) : Nat :=
  let d := copyOf v
  let tr := if d.mode = 1 then 0 else if d.mode = 2 then 2048 * e32 d.inFmt else 4096
  let tw := if d.mode = 2 then 2048 * e32 (dOutFmt v) else 4096
  let rd := if d.mode = 1 then 0 else if d.mode = 2 then d.count * e32 d.inFmt else d.count * 64
  streamCost (copyTiles v) c (32 + ceilDiv tr 128 + ceilDiv tw 128) (rd + copyResult v) g

end Sys2Proof.Machine
end

