-- ==== Sys2Proof/Machine/Submit.lean ====
section
/-! DEFINITION. What the array takes in: queues (07, R184), scratch (R183), what an operator needs of its descriptor (R192, R204), the
checks of R186 with passes and fit (R200 to R203, R205, R206), worst-case execution times (R207), and the completion record
(R187). -/

namespace Sys2Proof.Machine

/-! ### Queues and scratch -/

def State.queueCfg (s : State) (q : Nat) : Nat := s.entry .arrQueueCfg q
def qCap (v : Nat) : Nat := field v 127 96
def qStage (v : Nat) : Nat := field v 95 88
def qDepth (v : Nat) : Nat := field v 74 64
def qMask (v : Nat) : Nat := field v 63 56
def qWeight (v : Nat) : Nat := field v 55 48
def qPart (v : Nat) : Nat := field v 39 32
def qTc (v : Nat) : Nat := field v 2 0

/-- A queue that is bound and has TC 1 or TC 2. -/
def qDeadline (v : Nat) : Bool := qDepth v != 0 && isDl (qTc v)

/-- Descriptors that a queue holds, oldest first. -/
def State.inQueue (s : State) (q : Nat) : List Desc := s.arr.descs.filter fun d => d.queue == q

/-- The clusters in the mask of a deadline queue. -/
def State.deadlineMask (s : State) : Nat :=
  (List.range 64).foldl (fun m q => if qDeadline (s.queueCfg q) then m ||| qMask (s.queueCfg q) else m) 0

/-- Units that screen test has marked unusable, as a mask, and those that it holds (14, R367, R370). -/
def State.scratchBad (s : State) : Nat :=
  s.entry .scrScratchBad 0 + 2 ^ 32 * s.entry .scrScratchBad 1 + 2 ^ 64 * s.entry .scrScratchBad 2 + 2 ^ 96 * s.entry .scrScratchBad 3

/-- The units of a region (R183) in a mask's complement: those that are there. -/
def goodUnits (bad region : Nat) : Nat :=
  ((List.range (field region 7 0)).filter fun i => !bad.testBit (field region 15 8 + i)).length

/-- Units of a region that a test of the shared scratch holds. -/
def State.lentUnits (s : State) (region : Nat) : Nat :=
  if s.scr.running.any fun r => r.test == .scratch then field region 7 0
  else (s.scr.running.filter fun r => match r.test with
    | .scratchUnit u => inRange (field region 15 8) (field region 15 8 + field region 7 0 - 1) u && field region 7 0 != 0
    | _ => false).length

/-- Units of the staging region that deadline queues do not reserve (R183). -/
def State.bestEffort (s : State) : Nat :=
  goodUnits s.scratchBad (s.obj .arrScratchStage) - ((List.range 64).map fun q => if qDeadline (s.queueCfg q) then qStage (s.queueCfg q) else 0).sum

def Desc.started (d : Desc) : Bool := d.phase != .queued

/-- Free best-effort staging units (view ARR_STAGE_FREE). -/
def State.stageFree (s : State) : Nat :=
  s.bestEffort - ((s.arr.descs.filter fun d => d.started && !qDeadline (s.queueCfg d.queue)).map (·.units)).sum -
    s.lentUnits (s.obj .arrScratchStage)

/-- Accumulators of the reduction region (view ARR_ACC_CAPACITY), and those that are free (view RED_ACC_FREE). -/
def accCapacity (units : Nat) : Nat := min 131072 (units * 65536 / 40)
def State.accCap (s : State) : Nat := accCapacity (goodUnits s.scratchBad (s.obj .arrScratchRed))
def State.accFree (s : State) : Nat :=
  s.accCap - (s.arr.reductions.map (·.elements)).sum - ceilDiv (s.lentUnits (s.obj .arrScratchRed) * 65536) 40

/-- ACTIVE cells of a cluster mask (R180). -/
def State.activeCells (s : State) (mask : Nat) : List Nat :=
  (List.range 136).filter fun x => mask.testBit (x / 17) && s.entry .arrCellState x == 0

/-- Cells of a mask that count as ACTIVE where a screen test makes work wait (14, R367). -/
def State.countedCells (s : State) (mask : Nat) : List Nat :=
  (List.range 136).filter fun x => mask.testBit (x / 17) && (s.entry .arrCellState x == 0 || s.entry .arrCellState x == 3)

/-- A screen test takes, or has, a cluster: it gets no new work. -/
def State.clusterHeld (s : State) (k : Nat) : Bool :=
  s.scr.running.any fun r => match r.test with
    | .cluster j => j.val == k
    | _ => false

/-- The array is fenced: by loss of ACLK, or with the instance (R211). -/
def State.arrayFenced (s : State) : Bool := s.arr.clkFence || s.fenced

/-! ### What an operator asks of its descriptor -/

def opAttn : Nat := 0x01
def opTopk : Nat := 0x02
def opMerge : Nat := 0x03
def opGemv : Nat := 0x10
def opReduce : Nat := 0x20
def opFlush : Nat := 0x21
def opGather : Nat := 0x30
def opQuant : Nat := 0x40
def opCopy : Nat := 0x41

def opKnown (op : Nat) : Bool := [opAttn, opTopk, opMerge, opGemv, opReduce, opFlush, opGather, opQuant, opCopy].contains op

/-- The right that an operator needs (11, R309). -/
def opRight (op : Nat) : Nat :=
  if op ≤ 3 then 3 else if op = opGemv then 4 else if op = opReduce || op = opFlush then 5 else if op = opGather then 6
  else if op = opQuant then 7 else 8

/-- The descriptor's own MALFORMED conditions, and R253 on an H-side instance. -/
def descMalformed (v : Nat) (sSide : Bool) : Bool :=
  let op := dOpcode v
  if op = opAttn then attnMalformed v else if op = opTopk then topkMalformed v else if op = opMerge then mergeMalformed v
  else if op = opGemv then gemvMalformed v else if op = opReduce then !sSide || reduceMalformed v
  else if op = opFlush then !sSide else if op = opGather then gatherMalformed v
  else if op = opQuant then quantMalformed v sSide else if op = opCopy then copyMalformed v else true

def descBadFormat (v : Nat) : Bool :=
  let op := dOpcode v
  if op = opAttn then attnBadFormat v else if op = opTopk then topkBadFormat v else if op = opMerge then mergeBadFormat v
  else if op = opGemv then gemvBadFormat v else if op = opReduce then reduceBadFormat v
  else if op = opGather then gatherBadFormat v else if op = opQuant then quantBadFormat v
  else if op = opCopy then copyBadFormat v else false

/-- The largest result, in bytes, that R204 compares with the result area. -/
def resultBytes (v : Nat) : Nat :=
  let op := dOpcode v
  if op = opAttn then attnResult v else if op = opTopk then 4 * (attnOf v).blocks else if op = opMerge then mergeResult v
  else if op = opGemv then gemvResult v else if op = opReduce then reduceResult v else if op = opGather then gatherResult v
  else if op = opQuant then quantResult v else if op = opCopy then copyResult v else 0

/-- The result lies in memory, not in the OP_CPL. -/
def inMemory (v : Nat) : Bool := !dInline v && dOpcode v != opFlush

/-- The extents of a descriptor in the queue's partition, without its result (R204): operand address and sectors. -/
def operandExtents (v : Nat) : List (Nat × Nat) :=
  let op := dOpcode v
  if op = opAttn then (attnOf v).extents else if op = opTopk then (attnOf v).topkExtents
  else if op = opMerge then [((attnMergeOf v).srcTable, sectorsOf (8 * (attnMergeOf v).sources))]
  else if op = opGemv then (gemvOf v).extents else if op = opGather then (gatherOf v).extents
  else if op = opQuant then (quantOf v).extents
  else if op = opCopy && (copyOf v).mode != 1 then [((copyOf v).srcAddr, copySource v)] else []

/-- The operand addresses whose FA R191 governs. -/
def operandAddrs (v : Nat) : List Nat :=
  (operandExtents v).map (·.1) ++ (if inMemory v then [dResultAddr v] else []) ++
  (if dOpcode v = opGather then [(gatherOf v).idxAddr] ++ (if (gatherOf v).weighted then [(gatherOf v).wtAddr] else []) else [])

/-- F(d, P). -/
def staging (v p : Nat) : Nat :=
  let op := dOpcode v
  if op = opAttn then attnStaging v p else if op = opTopk then topkStaging v else if op = opMerge then mergeStaging v p
  else if op = opGemv then gemvStaging v p else if op = opGather then gatherStaging v
  else if op = opQuant then quantStaging v else 0

/-- cost(d, c, g, P); REDUCE_FLUSH by R253. -/
def opCost (v c : Nat) (g : Bandwidth) (p : Nat) : Nat :=
  let op := dOpcode v
  if op = opAttn then attnCost v c g p else if op = opTopk then topkCost v c g else if op = opMerge then mergeCost v c g
  else if op = opGemv then gemvCost v c g p else if op = opFlush then 256 + overBw (524288 + 64) g
  else if op = opGather then gatherCost v c g else if op = opQuant then quantCost v c g else copyCost v c g

/-- The limiting field: its bits in the descriptor and its byte offset. -/
structure Limit where
  hi : Nat
  lo : Nat
  byte : Nat
  deriving DecidableEq, Repr

/-- The limiting field when staging does not fit, and when only the cost does not. REDUCE_FLUSH has none. -/
def limitOf (v : Nat) (stagingFails : Bool) : Option Limit :=
  let op := dOpcode v
  if op = opAttn then
    some (if stagingFails then ⟨654, 650, 81⟩ else if (attnOf v).blocklist then ⟨615, 600, 75⟩ else ⟨447, 416, 52⟩)
  else if op = opTopk then some (if stagingFails then ⟨615, 600, 75⟩ else ⟨447, 416, 52⟩)
  else if op = opMerge then some (if stagingFails then ⟨223, 208, 26⟩ else ⟨207, 192, 24⟩)
  else if op = opGemv then some (if stagingFails then ⟨541, 536, 67⟩ else ⟨479, 448, 56⟩)
  else if op = opGather then some ⟨471, 456, 57⟩
  else if op = opQuant then some (if stagingFails then ⟨399, 384, 48⟩ else ⟨383, 368, 46⟩)
  else if op = opCopy then some ⟨295, 256, 32⟩ else none

/-! ### Fit (R201, R202) -/

/-- g of R206 as bytes per ACLK: 128 · slots B per SCLK of 12.5 MHz · STK_SCLK_DIV, or ARR_REMOTE_RATE GB/s. -/
def State.bandwidth (s : State) : Bandwidth :=
  if s.sSide then ⟨s.obj .arrDlStackSlots * s.obj .stkSclkDiv, 1⟩ else ⟨s.obj .arrRemoteRate * 5, 8⟩

/-- c_min of R205. -/
def State.cMin (s : State) (mask : Nat) : Nat := (s.countedCells mask).length - (if popcount 8 mask ≥ 2 then 16 else 0)

/-- Whether a descriptor fits, P, FIT_FIELD and FIT_VALUE. -/
structure Fit where
  ok : Bool
  passes : Nat
  byte : Nat
  value : Nat
  deriving DecidableEq, Repr

/-- The conditions of R202 on a deadline queue with entry q. -/
def State.fitsDeadline (s : State) (q v : Nat) : Bool :=
  staging v 1 ≤ qStage q * 65536 && s.cMin (qMask q) != 0 && s.bandwidth.num != 0 && opCost v (s.cMin (qMask q)) s.bandwidth 1 ≤ qCap q

/-- The smallest P of R201. -/
def State.passesFor (s : State) (v : Nat) : Option Nat :=
  ((List.range 255).map (· + 1)).find? fun p => staging v p ≤ s.bestEffort * 65536

/-- FIT_VALUE: the largest smaller value that the field accepts and that fits. -/
def State.fitValue (s : State) (v : Nat) (l : Limit) (fits : Nat → Bool) : Nat :=
  (largestBelow (fun x => !descMalformed (setField v l.hi l.lo x) s.sSide && fits (setField v l.hi l.lo x)) (field v l.hi l.lo)).getD 0

/-- The fit of a descriptor in a queue with entry q. -/
def State.fit (s : State) (q v : Nat) : Fit :=
  let fail := fun (stg : Bool) (fits : Nat → Bool) => match limitOf v stg with
    | some l => (⟨false, 0, l.byte, s.fitValue v l fits⟩ : Fit)
    | none => ⟨false, 0, 0, 0⟩
  if dOpcode v = opReduce && isDl (qTc q) then ⟨false, 0, 20, 0⟩
  else if dOpcode v = opReduce && s.accCap < (reduceOf v).elements then ⟨false, 0, 16, s.accCap⟩
  else if dOpcode v = opReduce then ⟨true, 1, 0, 0⟩
  else if isDl (qTc q) then
    if s.fitsDeadline q v then ⟨true, 1, 0, 0⟩
    else fail (qStage q * 65536 < staging v 1) (s.fitsDeadline q)
  else match s.passesFor v with
    | some 1 => ⟨true, 1, 0, 0⟩
    | some p => if dNosplit v then fail true fun x => staging x 1 ≤ s.bestEffort * 65536 else ⟨true, p, 0, 0⟩
    | none => fail true fun x => staging x (if dNosplit v then 1 else 255) ≤ s.bestEffort * 65536

/-! ### Acceptance (R186, R204) -/

/-- An extent leaves the address space or, on an S-side instance, its partition. -/
def State.extentBad (s : State) (part : Nat) (x : Nat × Nat) : Bool :=
  x.2 != 0 && (addrOf x.1 + x.2 > 2 ^ 40 ||
    (s.sSide && (addrOf x.1 < s.partBase part || s.partLimit part < addrOf x.1 + x.2 - 1)))

/-- The partition of a descriptor's result (R272). -/
def resultPart (q v : Nat) : Nat := if dOpcode v = opCopy then (copyOf v).dstPart else qPart q

def State.outOfRange (s : State) (q v : Nat) : Bool :=
  ((operandExtents v).any fun x => s.extentBad (qPart q) x) ||
  (if dInline v then decide (8128 < resultBytes v)
   else inMemory v && (s.extentBad (resultPart q v) (dResultAddr v, sectorsOf (resultBytes v)) || decide (dResultLen v < sectorsOf (resultBytes v))))

def State.opDenied (s : State) (q v : Nat) (h : Hdr) : Bool :=
  h.part != qPart q || !s.partKnown h.part || !s.holds h.ep h.part (opRight (dOpcode v)) ||
  (dOpcode v == opCopy && !(s.partKnown (copyOf v).dstPart && s.holds h.ep (copyOf v).dstPart 1)) ||
  (operandAddrs v).any fun a => (faOf a == s.fa) != s.sSide

/-- The status of an OP_SUBMIT (R186), and its fit. -/
def State.submitStatus (s : State) (p : Packet) : Nat × Fit :=
  let v := descVal p.payload
  let q := s.queueCfg (p.hdr.aux % 64)
  let bound := qDepth q != 0
  let bad := !opKnown (dOpcode v) || descMalformed v s.sSide
  let fit : Fit := if bound && !bad && !descBadFormat v then s.fit q v else ⟨true, 1, 0, 0⟩
  let off := bound && qMask q != 0 && !((List.range 8).any fun k => (qMask q).testBit k && s.poweredDom (10 + k))
  let st := worst [
    if s.arrayFenced || (bound && s.partFenced (qPart q)) then stFenced else stOk,
    if off then stDomainOff else stOk,
    if bad then stMalformed else stOk,
    if bound && s.opDenied q v p.hdr then stDenied else stOk,
    if descBadFormat v then stFormat else stOk,
    if bound && !bad && s.outOfRange q v then stRange else stOk,
    if fit.ok then stOk else stExceeds,
    if !bound || p.hdr.tc != qTc q || (s.inQueue (p.hdr.aux % 64)).length ≥ qDepth q || s.obj .arrClusterEn % 256 = 0 ||
        (s.countedCells (qMask q)).isEmpty || s.obj .oprUcodeVer = 0 then stRefused else stOk]
  (st, fit)

/-! ### Completion (R187) -/

/-- The fields of a completion record that are not the same in every record. -/
structure Record where
  status : Nat
  info : Nat
  aclk : Nat
  tiles : Nat
  bytes : Nat
  fitValue : Nat
  fitByte : Nat
  passes : Nat
  rerun : Bool
  ou : Bool
  partly : Bool
  queue : Nat
  desc : Nat
  deriving DecidableEq, Repr

/-- The 64 bytes of R187. -/
def Record.encode (r : Record) : List Byte :=
  toBytes 64 (packFields [(16, r.desc), (6, r.queue), (2, 0), (8, r.status), (8, 0), (1, ofBool r.partly), (1, ofBool r.ou),
    (1, ofBool r.rerun), (5, 0), (8, r.passes), (8, r.fitByte), (64, 0), (32, min r.fitValue 0xFFFFFFFF), (32, r.bytes), (32, r.tiles),
    (32, r.aclk), (128, 0), (128, r.info)])

/-- The OP_CPL of a request. -/
def opCpl (req : Hdr) (r : Record) (inline : List Byte) : Packet :=
  let body := r.encode ++ slice inline 0 (32 * ceilDiv inline.length 32)
  ⟨{ respHdr req r.status 0 with ou := r.ou, len := body.length / 32 }, body, []⟩

/-- A descriptor is queued, or refused. -/
def State.submit (s : State) (p : Packet) (fromLink : Bool) : State :=
  let v := descVal p.payload
  let q := p.hdr.aux % 64
  let (st, fit) := s.submitStatus p
  if st = stOk then
    let d : Desc :=
      { id := s.arr.nextDesc, queue := q, req := p.hdr, bytes := p.payload, fromLink := fromLink, passes := fit.passes, phase := .queued,
        units := ceilDiv (staging v fit.passes) 65536, mem := [], fails := [], nextTile := 0, merged := 0, ran := 0, rerun := [],
        results := [], acc := Vals.zero, written := [], issued := [0, 0, 0], okSectors := [], inline := [], info := 0, ou := false,
        rerunFlag := false, dropCpl := false }
    let arr := { s.arr with descs := s.arr.descs ++ [d], nextDesc := s.arr.nextDesc + 1 }
    ({ s with arr := arr }).whenOk (fit.passes > 1) fun t => t.count .oprPassSplits 1
  else
    let exceeds := st = stExceeds
    let r : Record := { status := st, info := 0, aclk := 0, tiles := 0, bytes := 0, fitValue := if exceeds then fit.value else 0,
                        fitByte := if exceeds then fit.byte else 0, passes := 0, rerun := false, ou := false, partly := false, queue := q,
                        desc := dId v }
    (s.count .arrSubmitRefused 1).originate (opCpl p.hdr r [])

/-- OP_SUBMIT: the oldest OP_SUBMIT handed to the array is checked. -/
def execOpSubmit (s : State) : Host.Outcome State Fault Refusal :=
  s.run fun s =>
    match s.arr.submits with
    | [] => s
    | (p, fromLink) :: rest => ({ s with arr := { s.arr with submits := rest } }).submit p fromLink

/-! ### Worst-case execution times (R205 to R208) -/

/-- A of R206 in ps. -/
def State.accessLat (s : State) : Nat :=
  if s.sSide then s.stackLat + s.obj .tclStackAccess + s.stackLat + 4 * s.lclk else s.obj .arrRemoteAccess

/-- Deadline queue j ranks at or above deadline queue q (R195). -/
def ranksBefore (tcj j tcq q : Nat) : Bool := tcj < tcq || (tcj == tcq && j ≤ q)

/-- wcet(q) of R207, 0 for other queues. -/
def State.wcet (s : State) (q : Nat) : Nat :=
  let e := s.queueCfg q
  if !qDeadline e then 0
  else
    let same := (List.range 64).filter fun j => qDeadline (s.queueCfg j) && qMask (s.queueCfg j) == qMask e
    let ahead := same.filter fun j => ranksBefore (qTc (s.queueCfg j)) j (qTc e) q
    let work := (ahead.map fun j => qDepth (s.queueCfg j) * (qCap (s.queueCfg j) * aclkPs + 2 * s.accessLat)).sum
    min 0xFFFFFFFF (2 * (4 * aclkPs + 3 * s.lclk) + (if ahead.length < same.length then 4096 * aclkPs else 0) + work)

/-- ARR_QUEUE_WCET for every queue. -/
def State.showWcet (s : State) : State := (List.range 64).foldl (fun t q => t.setEntry .arrQueueWcet q (t.wcet q)) s

/-- WCET_RECOMPUTE (R208): every wcet anew, and the slack rules for the flows that end in a queue here. -/
def execWcetRecompute (s : State) : Host.Outcome State Fault Refusal :=
  s.run fun s => s.showWcet.recomputeFlows

end Sys2Proof.Machine
end

