-- ==== Sys2Proof/Machine/Array.lean ====
section
/-! DEFINITION. How descriptors run: tiles and passes (07, R192, R193, R201), operand and result accesses (R199, R209, R431; 09, R268),
the merge in tile order, results, and completion (R187, R209 to R212). -/

namespace Sys2Proof.Machine

def Desc.v (d : Desc) : Nat := descVal d.bytes
def Desc.op (d : Desc) : Nat := dOpcode d.v

/-! ### Tiles and passes -/

/-- Heads, row blocks or head blocks that passes divide (R231, R241, R251), and the tiles of each. -/
def passUnits (v : Nat) : Nat × Nat :=
  let op := dOpcode v
  if op = opAttn then ((attnOf v).kvHeads, (attnOf v).nl * (attnOf v).nc)
  else if op = opMerge then (mergeBlocks v, (attnMergeOf v).sources)
  else if op = opGemv then (gemvRowBlocks (gemvOf v), gemvColBlocks (gemvOf v))
  else if op = opTopk then (1, topkTiles v)
  else if op = opReduce then (1, ceilDiv (reduceOf v).elements 512)
  else if op = opGather then (1, (gatherOf v).bags * gatherChunks (gatherOf v) * 16)
  else if op = opQuant then (1, quantTiles v)
  else if op = opCopy then (1, copyTiles v) else (1, 0)

def tileCount (v : Nat) : Nat := (passUnits v).1 * (passUnits v).2

/-- Units of one pass, and its tiles. -/
def passStep (v p : Nat) : Nat := ceilDiv (passUnits v).1 p
def passTiles (v p : Nat) : Nat := passStep v p * (passUnits v).2

/-- init(d). -/
def initAcc (v : Nat) : Vals :=
  let op := dOpcode v
  if op = opAttn then { Vals.zero with words := List.replicate (attnOf v).heads (emptyPart (attnOf v).dim) }
  else if op = opMerge then { Vals.zero with words := List.replicate (attnMergeOf v).heads (emptyPart (attnMergeOf v).dim) }
  else Vals.zero

/-- tile_result(d, t) over the operand sectors read so far. -/
def State.tileResult (s : State) (d : Desc) (t : Nat) : Rd Vals :=
  let part := qPart (s.queueCfg d.queue)
  let lo := s.partBase part
  let hi := s.partLimit part
  let op := d.op
  if op = opAttn then attnTile d.v d.mem t else if op = opTopk then topkTile d.v d.mem t
  else if op = opMerge then mergeTile d.v d.mem s.sSide s.fa lo hi t
  else if op = opGemv then gemvTile d.v d.mem t else if op = opReduce then reduceTile d.v d.mem t
  else if op = opGather then gatherTile d.v d.mem s.sSide lo hi t
  else if op = opQuant then quantTile d.v d.mem t else if op = opCopy then copyTile d.v d.mem t else .ok Vals.zero

/-- merge(d, acc, p). -/
def mergeVals (v : Nat) (acc : Vals) (t : Nat) (p : Vals) : Vals :=
  let op := dOpcode v
  if op = opAttn then combineAt acc (t / (passUnits v).2 * (attnOf v).gqa) p
  else if op = opTopk then topkMerge v acc p
  else if op = opMerge then combineAt acc (16 * (t / (passUnits v).2)) p
  else if op = opGemv then gemvMerge v acc t p
  else if op = opGather then gatherMerge acc t p
  else if op = opQuant then quantMerge v acc t p
  else { acc with info := acc.info + p.info, tally := acc.tally.add p.tally }

/-- The byte ranges that a descriptor writes; the first is its result (R204, R266). -/
def resultRanges (v : Nat) : List ByteRange :=
  let op := dOpcode v
  if op = opQuant then [(quantOf v).dst v, (quantOf v).scales, (quantOf v).sum]
  else if op = opTopk then [⟨dResultAddr v, 0, 4 * min (attnOf v).blocks (candidates (attnOf v)).length⟩]
  else [⟨dResultAddr v, 0, resultBytes v⟩]

/-! ### Descriptors and counters -/

def State.findDesc (s : State) (id : Nat) : Option Desc := s.arr.descs.find? fun d => d.id == id

def State.setDesc (s : State) (d : Desc) : State :=
  { s with arr := { s.arr with descs := s.arr.descs.map fun x => if x.id == d.id then d else x } }

/-- The events of R296 counted. -/
def State.countTally (s : State) (t : Tally) : State :=
  ((((s.count .oprCvtSat t.sat).count .oprCvtOvf t.ovf).count .oprNanMade t.nanMade).count .oprNanBlocks t.nanBlocks).count .oprAccOvf t.accOvf

/-- Cells that work on a descriptor give it up. -/
def State.dropWork (s : State) (id : Nat) : State :=
  let work := s.arr.work.filter fun (w : Nat × CellWork) => match w.2 with
    | .tile d _ => d != id
    | .redWr _ _ => true
  { s with arr := { s.arr with work := work } }

/-- A failure ends the operator: no further access, and its cells are free (R209). -/
def State.failDesc (s : State) (d : Desc) (st : Nat) : State :=
  (s.setDesc { d with phase := .ending, fails := d.fails ++ [st], rerun := [], results := [], written := [] }).dropWork d.id

/-! ### Accesses -/

/-- Runs of consecutive numbers, at most 128 long (R199). -/
def runsOf : List Nat → List (Nat × Nat)
  | [] => []
  | a :: rest =>
    match runsOf rest with
    | (b, n) :: more => if a + 1 = b && n < 128 then (a, n + 1) :: more else (a, 1) :: (b, n) :: more
    | [] => [(a, 1)]

/-- Ascending order without repeats. -/
def natSet (l : List Nat) : List Nat := (natSort l).eraseDups

/-- One access given to the Stack Port of an S-side instance, or sent as a request by an H-side one (R197, R199). On an S-side
instance it covers one sector; one in a fenced partition ends at once (11, R312). -/
def State.startAccess (s : State) (d : Desc) (part addr n : Nat) (data : Option (List Byte)) (poison : Bool) (patch : Option (List (Nat × List Byte))) :
    State :=
  let id := s.arr.nextAccess
  let tc := qTc (s.queueCfg d.queue)
  let a : OpAccess := ⟨id, d.id, addr, n, data.isSome, patch, none⟩
  let s : State := { s with arr := { s.arr with accesses := s.arr.accesses ++ [a], nextAccess := id + 1 } }
  if s.sSide then
    if s.partFenced part then s.ownResult (.access id) stFenced false []
    else s.arrayOp id (addrOf addr) part tc data poison patch.isSome
  else
    match data with
    | none => s.issueOwn (.access id) ⟨ownHdr tRdReq (faOf addr) (addrOf addr) n part tc 0, [], []⟩
    | some bs => s.issueOwn (.access id) ⟨ownHdr tWrReq (faOf addr) (addrOf addr) 0 part tc (2 * n), bs, if poison then [(0, 64 * n)] else []⟩

/-- A read of these sectors is in flight for the descriptor. -/
def State.readInFlight (s : State) (id a : Nat) : Bool :=
  s.arr.accesses.any fun x => x.desc == id && !x.write && x.patch.isNone && x.addr ≤ a && a < x.addr + x.n

/-- Reads of the sectors that a tile still needs. -/
def State.readSectors (s : State) (d : Desc) (need : List Nat) : State :=
  let l := natSet (need.filter fun a => !s.readInFlight d.id a)
  let runs := if s.sSide then l.map fun a => (a, 1) else runsOf l
  runs.foldl (fun t r => t.startAccess d (qPart (t.queueCfg d.queue)) r.1 r.2 none false none) s

/-- The failed check of a running descriptor counted (08, R219, R239; 09, R263). -/
def State.countDataErr (s : State) (op : Nat) : State :=
  if op ≤ 3 then s.count .oprAttnDataErrs 1 else s.count .oprStreamDataErrs 1

/-- A tile that a cell holds reads what it still needs, or ends the operator on bad data. -/
def State.feedTile (s : State) (id t : Nat) : State :=
  match s.findDesc id with
  | none => s
  | some d =>
    if d.phase != .running then s
    else match s.tileResult d t with
      | .error (.need l) => s.readSectors d l
      | .error (.bad st) => (s.countDataErr d.op).failDesc d st
      | .ok _ => s

/-! ### Results -/

/-- Bytes cut at sector boundaries: sector, offset in it, bytes. a is the absolute byte address. -/
def cutSectors (a : Nat) (bs : List Byte) : List (Nat × Nat × List Byte) :=
  if bs.isEmpty then []
  else (List.range ((a + bs.length - 1) / 64 + 1 - a / 64)).map fun i =>
    let sec := a / 64 + i
    let lo := max a (64 * sec)
    let hi := min (a + bs.length) (64 * sec + 64)
    (sec, lo - 64 * sec, slice bs (lo - a) (hi - lo))

/-- Bytes of a range in a sector. -/
def ByteRange.within (r : ByteRange) (sec : Nat) : Nat :=
  let lo := max (r.base * 64 + r.off) (64 * sec)
  let hi := min (r.base * 64 + r.off + r.len) (64 * sec + 64)
  hi - lo

/-- The bytes of a range that wait for a sector. -/
def Desc.waitingFor (d : Desc) (r : ByteRange) (sec : Nat) : List (Nat × List Byte) :=
  (d.written.filter fun x => x.1 == sec && r.base * 64 + r.off ≤ 64 * sec + x.2.1 && 64 * sec + x.2.1 < r.base * 64 + r.off + r.len).map (·.2)

/-- Bytes laid over 64 others. -/
def overlay (base : List Byte) (l : List (Nat × List Byte)) : List Byte :=
  l.foldl (fun b x => slice b 0 x.1 ++ x.2 ++ b.drop (x.1 + x.2.length)) (slice base 0 64)

/-- Sectors of a range, from number k on, whose bytes are all there. -/
def completeRun (d : Desc) (r : ByteRange) : Nat → List Nat → List Nat
  | 0, _ => []
  | _, [] => []
  | n + 1, sec :: rest =>
    if ((d.waitingFor r sec).map fun x => x.2.length).sum = r.within sec then sec :: completeRun d r n rest else []

/-- The result is written with the poison mark (09, R259, R271). -/
def State.poisonResult (s : State) (d : Desc) : Bool :=
  (d.op == opCopy && (copyOf d.v).poison) || s.arr.reductions.any fun r => r.desc == d.id && r.poison

/-- A result write touches the target of an open reduction that is not its own (09, R261). -/
def State.resultBlocked (s : State) (d : Desc) (sec : Nat) : Bool :=
  s.sSide && s.arr.reductions.any fun r => r.desc != d.id && addrOf sec < r.target + r.sectors && r.target ≤ addrOf sec

/-- One sector of a result leaves an S-side array: one that is written in part is merged with the stored bytes by QUANT_WRITE (R268),
and filled with zero otherwise (R431). -/
def State.issueSector (s : State) (d : Desc) (r : ByteRange) (sec : Nat) : State :=
  let part := resultPart (s.queueCfg d.queue) d.v
  if ((s.findDesc d.id).map (·.phase)).getD .ending = .ending then s
  else if s.resultBlocked d sec then (s.count .redWrBlocked 1).failDesc d stDenied
  else if d.op = opQuant && r.within sec != 64 then
    (s.count .oprQuantRmw 1).startAccess d part sec 1 none false (some (d.waitingFor r sec))
  else s.startAccess d part sec 1 (some (overlay (zeros 64) (d.waitingFor r sec))) (s.poisonResult d) none

/-- Complete sectors of range i leave, in ascending order (R209). -/
def State.issueRange (s : State) (d : Desc) (i : Nat) (r : ByteRange) : State :=
  let secs := completeRun d r (ceilDiv r.len 64 + 1) (r.sectors.drop (d.issued.getD i 0))
  let out := secs.map fun sec => (sec, d.waitingFor r sec)
  let keep := d.written.filter fun (x : Nat × Nat × List Byte) => !(out.any fun y => y.1 == x.1 && y.2.contains x.2)
  let s := s.setDesc { d with issued := d.issued.set i (d.issued.getD i 0 + secs.length), written := keep }
  if s.sSide then secs.foldl (fun t sec => t.issueSector d r sec) s
  else
    (runsOf secs).foldl (fun t x =>
      let bs := ((List.range x.2).map fun k => overlay (zeros 64) (d.waitingFor r (x.1 + k))).flatten
      t.startAccess d (resultPart (t.queueCfg d.queue) d.v) x.1 x.2 (some bs) (t.poisonResult d) none) s

/-- Bytes of a result: into the inline result, or on their way to memory. -/
def State.emitResult (s : State) (id : Nat) (l : List Piece) : State :=
  match s.findDesc id with
  | none => s
  | some d =>
    if dInline d.v then s.setDesc { d with inline := d.inline ++ (l.map (·.2)).flatten }
    else
      let s := s.setDesc { d with written := d.written ++ (l.map fun x => cutSectors x.1 x.2).flatten }
      let rs := resultRanges d.v
      ((List.range rs.length).zip rs).foldl (fun t x =>
        match t.findDesc id with
        | some d => if d.phase == .ending then t else t.issueRange d x.1 x.2
        | none => t) s

/-- What a merged tile writes: pieces, what it adds to the count of OP_INFO, and events. -/
def mergedOutput (v p : Nat) (mem : Mem) (acc res : Vals) (t : Nat) : List Piece × Nat × Tally :=
  let op := dOpcode v
  let base := dResultAddr v * 64
  let step := passStep v p
  let units := (passUnits v).1
  -- the pass ends with tile t
  let ends := (t + 1) % (passUnits v).2 = 0 && ((t + 1) / (passUnits v).2 % step = 0 || (t + 1) / (passUnits v).2 = units)
  let u := t / (passUnits v).2
  let lo := u / step * step
  let hi := min units (lo + step)
  if op = opAttn then
    if ends then
      let d := attnOf v
      let (bs, n, tl) := attnRecords v d.final d.dim acc (lo * d.gqa) (hi * d.gqa)
      ([(base + lo * d.gqa * recordBytes d.final d.dim (dOutFmt v), bs)], n, tl)
    else ([], 0, {})
  else if op = opMerge then
    if ends then
      let d := attnMergeOf v
      let (bs, n, tl) := attnRecords v d.final d.dim acc (16 * lo) (min d.heads (16 * hi))
      ([(base + 16 * lo * recordBytes d.final d.dim (dOutFmt v), bs)], n, tl)
    else ([], 0, {})
  else if op = opGemv then
    if ends then
      let d := gemvOf v
      let (bs, n, tl) := gemvRows v acc (32 * lo) (min d.rows (32 * hi))
      ([(base + 32 * lo * d.batch * e32 (dOutFmt v), bs)], n, tl)
    else ([], 0, {})
  else if op = opGather then
    if t % 16 = 15 then
      let d := gatherOf v
      let b := t / (gatherChunks d * 16)
      let c := t % (gatherChunks d * 16) / 16
      let off := (List.range 2).map fun i => u32At ((⟨d.offAddr, 4 * (b + i), 4⟩ : ByteRange).bytes mem) 0
      let (bs, empty, tl) := gatherOutput v acc (off.getD 1 0 - off.headD 0) t
      ([(base + (b * d.dim + 512 * c) * e32 (dOutFmt v), bs)], if empty && c = 0 then 1 else 0, tl)
    else ([], 0, {})
  else if op = opQuant || op = opCopy then (res.out, 0, {})
  else ([], 0, {})

/-- What finish writes after the last tile. -/
def finalOutput (v : Nat) (acc : Vals) : List Piece × Tally :=
  let op := dOpcode v
  if op = opTopk then ([(dResultAddr v * 64, ((topkChosen v acc).map (toBytes 4)).flatten)], {})
  else if op = opQuant && (quantOf v).summary then
    let (bs, tl) := quantSummary v acc
    ([((quantOf v).sumAddr * 64 + (quantOf v).sumOff, bs)], tl)
  else ([], {})

/-- Operand sectors that stay for the next pass: a list that is read once (R221, R232, R241). -/
def keepMem (v : Nat) (mem : Mem) : Mem :=
  let stay := fun (a n : Nat) => mem.filter fun (x : Nat × List Byte) => a ≤ x.1 && x.1 < a + n
  if dOpcode v = opAttn && (attnOf v).blocklist then stay (attnOf v).blockAddr (sectorsOf (4 * (attnOf v).blocks))
  else if dOpcode v = opMerge then stay (attnMergeOf v).srcTable (sectorsOf (8 * (attnMergeOf v).sources))
  else []

/-- The object in which an operator counts what it finds as it writes, and what it reads. -/
def State.countOperator (s : State) (op found : Nat) (res : Vals) : State :=
  if op = opAttn then (s.count .oprAttnEmpty found).count .oprAttnRows (2 * (res.info / 2 ^ 32))
  else if op = opMerge then s.count .oprAttnEmpty found
  else if op = opTopk then s.count .oprTopkNan res.info
  else if op = opGemv then s.count .oprGemvBytes res.info
  else if op = opGather then (s.count .oprGatherEmpty found).count .oprGatherRows res.info
  else s

/-- The values that an initial tile read enter the accumulators (09, R256 step 3). -/
def addAccs (accs : List (Nat × Acc)) (first : Nat) (l : List Acc) : List (Nat × Acc) × Tally :=
  ((List.range l.length).zip l).foldl (fun x a =>
    let i := first + a.1
    let old := ((x.1.find? fun y => y.1 == i).map (·.2)).getD Acc.zero
    let (n, t) := runCalc x.2 (eaddAcc old a.2)
    (if n = old then x.1 else (i, n) :: x.1.filter fun y => y.1 != i, t)) (accs, {})

def State.addInitial (s : State) (desc first : Nat) (l : List Acc) : State :=
  match s.arr.reductions.find? fun r => r.desc == desc with
  | none => s
  | some r =>
    let (accs, t) := addAccs r.accs first l
    let reds := s.arr.reductions.map fun (x : Reduction) => if x.desc == desc then { x with accs := accs } else x
    ({ s with arr := { s.arr with reductions := reds } }).countTally t

/-- One tile result merged (R193). -/
def State.mergeOne (s : State) (d : Desc) (t : Nat) (res : Vals) : State :=
  let v := d.v
  let acc := mergeVals v { d.acc with tally := {} } t res
  let (out, found, tl) := mergedOutput v d.passes d.mem acc res t
  let nextPass := (t + 1) % passTiles v d.passes = 0
  let d' : Desc := { d with merged := t + 1, acc := { acc with tally := {} }, info := d.info + found,
                            results := d.results.filter fun x => x.1 != t, mem := if nextPass then keepMem v d.mem else d.mem }
  let s := (((s.setDesc d').countTally acc.tally).countTally tl).countOperator d.op found res
  (if d.op = opReduce then s.addInitial d.id (512 * t) res.accs else s).emitResult d.id out

/-- Tile results merged in index order while the next one is there. -/
def State.mergeReady : Nat → State → Nat → State
  | 0, s, _ => s
  | n + 1, s, id =>
    match s.findDesc id with
    | none => s
    | some d =>
      match (if d.phase = .running then d.results.find? fun x => x.1 == d.merged else none) with
      | some r => State.mergeReady n (s.mergeOne d r.1 r.2) id
      | none => s

/-- After the last tile: finish writes what is left; a REDUCE_ON_WRITE waits for its contributors (09, R256). -/
def State.lastTile (s : State) (id : Nat) : State :=
  match s.findDesc id with
  | none => s
  | some d =>
    if d.phase = .running && d.merged = tileCount d.v then
      if d.op = opReduce then s.setDesc { d with phase := .waiting }
      else
        let (out, tl) := finalOutput d.v d.acc
        ((s.setDesc { d with phase := .writing }).countTally tl).emitResult id out
    else s

/-! ### Completion (R187, R209) -/

/-- Sectors of a range written with OK from its first on. -/
def goodRun (ok : List Nat) : List Nat → Nat
  | [] => 0
  | a :: rest => if ok.contains a then 1 + goodRun ok rest else 0

/-- The longest prefix of the result written with OK, in bytes. -/
def Desc.goodPrefix (d : Desc) : Nat :=
  let r := (resultRanges d.v).headD ⟨0, 0, 0⟩
  let n := goodRun d.okSectors r.sectors
  if n = 0 then 0 else min r.len (64 * n - r.off % 64)

def Desc.resultLen (d : Desc) : Nat := ((resultRanges d.v).headD ⟨0, 0, 0⟩).len

/-- OP_INFO (08, R230, R236, R240; 09, R250, R264, R269). -/
def Desc.opInfo (d : Desc) : Nat :=
  let op := d.op
  if op = opAttn then d.acc.info % 2 ^ 32 + d.info * 2 ^ 32
  else if op = opTopk then
    let a := attnOf d.v
    min a.blocks (candidates a).length + (candidates a).length * 2 ^ 32 + topkThreshold d.acc * 2 ^ 64 + d.acc.info * 2 ^ 96
  else if op = opGather then d.info + d.acc.info * 2 ^ 32
  else if op = opCopy then 0
  else if op = opQuant then quantRmw d.v
  else d.info

/-- The OP_CPL of a descriptor, which leaves its queue. ACLK_USED counts cycles that the model does not follow: a free value for a
descriptor whose tiles have started. -/
def State.complete (s : State) (d : Desc) (st : Nat) : State :=
  let ran := d.started && d.nextTile != 0
  let (aclk, s) := if ran then s.fresh 32 else (0, s)
  let inl := dInline d.v && d.op != opFlush
  let bytes := if inl then (if st = stOk then d.inline.length else 0) else d.goodPrefix
  let r : Record := { status := st, info := d.opInfo, aclk := aclk, tiles := d.ran, bytes := bytes, fitValue := 0, fitByte := 0,
                      passes := if d.started then d.passes else 0, rerun := d.rerunFlag, ou := d.ou, partly := decide (bytes < d.resultLen),
                      queue := d.queue, desc := dId d.v }
  let descs := s.arr.descs.filter fun (x : Desc) => x.id != d.id
  let accs := s.arr.accesses.filter fun (a : OpAccess) => a.desc != d.id
  let s : State := { s with arr := { s.arr with descs := descs, accesses := accs } }
  let s := (s.dropWork d.id).whenOk (st = stOk) fun t => t.count .oprDescDone 1
  if d.dropCpl then s.count .lnkDownDrops 1
  else if s.fenced then s.answerFenced d.req (dId d.v) d.ou
  else s.originate (opCpl d.req r (if inl && st = stOk then d.inline else []))

end Sys2Proof.Machine
end

