-- ==== Sys2Proof/Machine/Reduce.lean ====
section
/-! DEFINITION. The life of a reduction (09, R253 to R261): opening, flushing, RED_WR packets, the write of the target, closing. -/

namespace Sys2Proof.Machine

def State.findRed (s : State) (id : Nat) : Option Reduction := s.arr.reductions.find? fun r => r.id == id

def State.setRed (s : State) (r : Reduction) : State :=
  { s with arr := { s.arr with reductions := s.arr.reductions.map fun x => if x.id == r.id then r else x } }

/-- The reduction takes contributions: it has not stopped, and no failure ends it (R258, R259). -/
def State.redOpen (s : State) (r : Reduction) : Bool :=
  r.state == 1 && !(((s.findDesc r.desc).map fun d => d.phase == .ending).getD true)

/-- A descriptor completes at its next DESCRIPTOR_FINISH with nothing to write. -/
def State.endWith (s : State) (d : Desc) (info : Nat) : State := s.setDesc { d with phase := .writing, info := info }

/-! ### Start (R256, R260) -/

/-- ELEMENTS accumulators are free, and fewer than 4,096 reductions are open. -/
def State.redRoom (s : State) (d : Desc) : Bool := (reduceOf d.v).elements ≤ s.accFree && s.arr.reductions.length < 4096

/-- A REDUCE_ON_WRITE opens its reduction, or is denied. -/
def State.openRed (s : State) (d : Desc) : State :=
  let x := reduceOf d.v
  let r : Reduction :=
    { id := x.redId, slot := ((List.range 4096).find? fun i => !(s.arr.reductions.any fun y => y.slot == i)).getD 0,
      part := qPart (s.queueCfg d.queue), queue := d.queue, desc := d.id, target := addrOf (dResultAddr d.v), elements := x.elements,
      contributors := x.contributors, counted := 0, state := 1, outFmt := dOutFmt d.v, inFmt := x.inFmt, init := x.init, poison := false,
      accs := [], endCode := 0, flush := none }
  if (s.findRed x.redId).isSome || s.inTarget r.target r.sectors then
    s.setDesc { d with phase := .ending, fails := [stDenied] }
  else
    let s := s.setDesc { d with phase := .running }
    { s with arr := { s.arr with reductions := s.arr.reductions ++ [r] } }

/-- A REDUCE_FLUSH acts. -/
def State.startFlush (s : State) (d : Desc) : State :=
  match s.findRed (flushId d.v) with
  | none => s.endWith d 0
  | some r =>
    if !s.redOpen r then s.endWith d 0
    else if r.part != qPart (s.queueCfg d.queue) then s.setDesc { d with phase := .ending, fails := [stDenied] }
    else
      (s.setDesc { d with phase := .waiting }).setRed { r with state := 2, endCode := if flushAbort d.v then 2 else 1, flush := some d.id }

/-! ### RED_WR packets (R257, R258) -/

/-- Elements that a packet carries, the target sectors that they fill, and the first element. -/
def Reduction.shape (r : Reduction) (p : Packet) : Nat × Nat × Nat :=
  let n := p.payload.length / e32 r.inFmt
  (n, n * e32 r.outFmt / 64, (p.hdr.addr - r.target) * 64 / e32 r.outFmt)

/-- The packet lies in the target, in whole target sectors. -/
def Reduction.fits (r : Reduction) (p : Packet) : Bool :=
  let (n, _, first) := r.shape p
  r.target ≤ p.hdr.addr && n * e32 r.outFmt % 64 == 0 && first + n ≤ r.elements

/-- The outcome of a RED_WR packet. -/
def State.redStatus (s : State) (p : Packet) : Nat :=
  let h := p.hdr
  match s.findRed h.aux with
  | none =>
    worst [if s.arrayFenced then stFenced else stOk, s.accessStatus h 1, if s.partLimit h.part < h.addr + p.sectors - 1 then stRange else stOk,
           stRefused, if p.poison.isEmpty then stOk else stPoisoned]
  | some r =>
    worst [if s.arrayFenced then stFenced else stOk, s.accessStatus h (max 1 (r.shape p).2.1),
           if h.part != r.part then stDenied else stOk, if r.fits p then stOk else stRange,
           if s.redOpen r then stOk else stRefused, if p.poison.isEmpty then stOk else stPoisoned]

/-- A free ACTIVE cell of a mask, in a cluster that is not gated. -/
def State.freeCell (s : State) (mask : Nat) : Option Nat :=
  (s.activeCells mask).find? fun x => !(s.arr.work.any fun w => w.1 == x) && !s.arr.gated.testBit (x / 17) && !s.clusterHeld (x / 17) && s.readyDom (10 + x / 17)

/-- RED_WR: the oldest RED_WR packet handed to the array is given to a cell, or is refused. With no free cell it waits, ahead of every
tile that has not started. -/
def State.takeRed (s : State) (p : Packet) : State :=
  let st := s.redStatus p
  if st = stOk then
    match s.findRed p.hdr.aux with
    | none => s
    | some r =>
      match s.freeCell (qMask (s.queueCfg r.queue)) with
      | some x => { s with arr := { s.arr with work := s.arr.work ++ [(x, .redWr r.id p)] } }
      | none => { s with arr := { s.arr with redAgain := s.arr.redAgain ++ [(r.id, p)] } }
  else
    let s := s.whenOk (st = stRefused) fun t => t.count .redRefused 1
    let s := s.whenOk (st = stDenied) fun t => t.count .stkDenied 1
    let s := match (if st = stPoisoned then s.findRed p.hdr.aux else none) with
      | some r => s.setRed { r with poison := true }
      | none => s
    s.performed p.hdr st false false [] []

def execRedWr (s : State) : Host.Outcome State Fault Refusal :=
  s.run fun s =>
    match s.arr.redIn with
    | [] => s
    | (p, _) :: rest => ({ s with arr := { s.arr with redIn := rest } }).takeRed p

/-- The values of a packet added into the accumulators (R259). -/
def Reduction.add (r : Reduction) (p : Packet) : Reduction × Tally :=
  let (n, _, first) := r.shape p
  let vals := (List.range n).map fun i => decodeElem r.inFmt (elemAt r.inFmt p.payload i)
  let (l, t) := runCalc {} (vals.mapM fun x => eadd Acc.zero x)
  let (accs, t2) := addAccs r.accs first l
  ({ r with accs := accs }, t.add t2)

/-- RED_WR_ADD_DONE: the oldest addition under way has been made without a cell fault. -/
def execRedWrAddDone (s : State) : Host.Outcome State Fault Refusal :=
  s.run fun s =>
    let isAdd := fun (w : Nat × CellWork) => match w.2 with
      | .redWr _ _ => true
      | .tile _ _ => false
    match s.arr.work.find? isAdd with
    | some (x, .redWr id p) =>
      let s : State := { s with arr := { s.arr with work := s.arr.work.erase (x, .redWr id p) } }
      match s.findRed id with
      | some r =>
        let (r, t) := r.add p
        ((s.setRed r).countTally t).performed p.hdr stOk false false [] []
      | none => (s.count .redRefused 1).performed p.hdr stRefused false false [] []
    | _ => s

/-! ### The target (R259) -/

/-- Initial tiles are merged and no packet is being added. -/
def State.redQuiet (s : State) (r : Reduction) : Bool :=
  ((s.findDesc r.desc).map fun d => d.phase == .waiting).getD true &&
  !(s.arr.work.any fun w => match w.2 with
    | .redWr id _ => id == r.id
    | .tile _ _ => false) && !(s.arr.redAgain.any fun x => x.1 == r.id)

/-- The target's bytes: every accumulator rounded. -/
def Reduction.targetBytes (r : Reduction) (sat : Bool) : List Byte × Tally :=
  let (l, t) := runCalc {} ((List.range r.elements).mapM fun i =>
    eround r.outFmt (((r.accs.find? fun y => y.1 == i).map (·.2)).getD Acc.zero) sat)
  (codesBytes r.outFmt l, t)

/-- OP_INFO of the opening descriptor. -/
def Reduction.info (r : Reduction) : Nat := r.counted + r.endCode * 2 ^ 16 + ofBool r.poison * 2 ^ 24

/-- REDUCE_FINISH: a stopped reduction whose work is done rounds its target and starts to write it; an aborted one writes nothing. -/
def execReduceFinish (id : Nat) (s : State) : Host.Outcome State Fault Refusal :=
  s.run fun s =>
    match s.findRed id with
    | none => s
    | some r =>
      match s.findDesc r.desc with
      | none => s
      | some d =>
        s.whenOk (r.state = 2 && s.redQuiet r && !s.arrayFenced) fun s =>
          let s := s.setDesc { d with phase := .writing, info := r.info }
          if r.endCode = 2 then s.setRed { r with state := 3, accs := [] }
          else
            let (bs, t) := r.targetBytes (dSat d.v)
            (((s.setRed { r with state := 3 }).countTally t)).emitResult d.id [(dResultAddr d.v * 64, bs)]

/-- A reduction closes with its opening descriptor: its accumulators are free, and the flush that waits for it can complete (R260). -/
def State.closeRed (s : State) (desc : Nat) : State :=
  match s.arr.reductions.find? fun r => r.desc == desc with
  | none => s
  | some r =>
    let rest := s.arr.reductions.filter fun (x : Reduction) => x.id != r.id
    let again := s.arr.redAgain.filter fun (x : Nat × Packet) => x.1 != r.id
    let gone := s.arr.redAgain.filter fun (x : Nat × Packet) => x.1 == r.id
    let s : State := { s with arr := { s.arr with reductions := rest, redAgain := again } }
    let s := gone.foldl (fun t x => (t.count .redRefused 1).performed x.2.hdr stRefused false false [] []) s
    match r.flush with
    | none => s
    | some f =>
      let s := s.count .redFlushes 1
      match s.findDesc f with
      | some d => s.endWith d (max 1 r.endCode + r.counted * 2 ^ 16)
      | none => s

end Sys2Proof.Machine
end

