-- ==== Sys2Proof/Machine/Tiles.lean ====
section
/-! DEFINITION. The schedule of the array (07, R180 to R182, R194, R195, R200, R209 to R212): starts, tiles and cells, cell faults and
sparing, accesses that end, completion, and idle gating. -/

namespace Sys2Proof.Machine

/-! ### Start (R194, R200) -/

/-- The descriptor that may start next in a queue: the oldest that has not, unless AFTER or its staging holds it. -/
def State.nextStart (s : State) (q : Nat) : Option Desc :=
  let l := s.inQueue q
  match l.find? fun d => !d.started with
  | none => none
  | some d =>
    let earlier := l.filter fun x => x.id < d.id
    let room := if qDeadline (s.queueCfg q) then !(earlier.any Desc.started) else d.units ≤ s.stageFree
    let after := dAfter d.v && !earlier.isEmpty
    if room && !after && (d.op != opReduce || s.redRoom d) then some d else none

/-- DESCRIPTOR_START. -/
def execDescriptorStart (q : Fin 64) (s : State) : Host.Outcome State Fault Refusal :=
  s.run fun s => s.whenOk (!s.arrayFenced) fun s =>
    match s.nextStart q with
    | none => s
    | some d =>
      if d.op = opReduce then s.openRed d
      else if d.op = opFlush then s.startFlush d
      else s.setDesc { d with phase := .running, acc := initAcc d.v }

/-! ### Dispatch (R195) -/

/-- The next tile of a descriptor: a tile to run again first, then the next of this pass while the merge buffer has room (R181,
R193). -/
def Desc.nextOf (d : Desc) : Option Nat :=
  if d.phase != .running then none
  else match d.rerun with
    | t :: _ => some t
    | [] =>
      let per := passTiles d.v d.passes
      if d.nextTile < tileCount d.v && d.nextTile - d.merged < 256 && d.nextTile / per = d.merged / per then some d.nextTile else none

/-- Every tile of the descriptor has been dispatched. -/
def Desc.dispatched (d : Desc) : Bool := d.phase != .queued && (d.phase != .running || (d.rerun.isEmpty && d.nextTile ≥ tileCount d.v))

/-- The next tile of a list of descriptors, oldest first: an earlier one gives all its tiles before a later one (R194). -/
def firstTile : List Desc → Option (Desc × Nat)
  | [] => none
  | d :: rest =>
    match d.nextOf with
    | some t => some (d, t)
    | none => if d.dispatched then firstTile rest else none

/-- The next tile of a queue; a tile to run again goes ahead of every tile not yet started. -/
def State.queueTile (s : State) (q : Nat) : Option (Desc × Nat) :=
  match (s.inQueue q).find? fun d => d.phase == .running && !d.rerun.isEmpty with
  | some d => d.nextOf.map fun t => (d, t)
  | none => firstTile (s.inQueue q)

/-- The queues with a tile ready for a cluster, deadline queues first in rank order. -/
def State.readyQueues (s : State) (k : Nat) : List Nat × List Nat :=
  let l := (List.range 64).filter fun q => qDepth (s.queueCfg q) != 0 && (qMask (s.queueCfg q)).testBit k && (s.queueTile q).isSome
  let tc := fun (n : Nat) => l.filter fun q => qTc (s.queueCfg q) == n
  (tc 1 ++ tc 2, l.filter fun q => !isDl (qTc (s.queueCfg q)))

/-- The weighted round robin: each queue has WEIGHT tiles in a round, and a round ends when no ready queue has any left. Whether a new
round begins, and the queue. -/
def State.nextShare (s : State) (l : List Nat) : Option (Bool × Nat) :=
  match l.find? fun q => s.arr.shares.getD q 0 < qWeight (s.queueCfg q) with
  | some q => some (false, q)
  | none => l.head?.map fun q => (true, q)

/-- A cell takes a tile. -/
def State.giveTile (s : State) (cell : Nat) (d : Desc) (t : Nat) : State :=
  let d := if d.rerun.contains t then { d with rerun := d.rerun.erase t } else { d with nextTile := t + 1 }
  let s := s.setDesc d
  let s : State := { s with arr := { s.arr with work := s.arr.work ++ [(cell, CellWork.tile d.id t)] } }
  s.feedTile d.id t

/-- The cell is ACTIVE, supplied, not gated, and free. -/
def State.cellFree (s : State) (x : Nat) : Bool :=
  s.entry .arrCellState x == 0 && s.readyDom (10 + x / 17) && !s.arr.gated.testBit (x / 17) && !s.clusterHeld (x / 17) && !(s.arr.work.any fun w => w.1 == x)

/-- A free cell takes its next work: a waiting RED_WR packet of a queue whose mask holds it, then by R195. -/
def State.dispatchCell (s : State) (x : Nat) : State :=
  let k := x / 17
  match s.arr.redAgain.find? fun w => ((s.findRed w.1).map fun r => (qMask (s.queueCfg r.queue)).testBit k).getD false with
  | some w => { s with arr := { s.arr with redAgain := s.arr.redAgain.erase w, work := s.arr.work ++ [(x, .redWr w.1 w.2)] } }
  | none =>
    let (dl, be) := s.readyQueues k
    match dl with
    | q :: _ => match s.queueTile q with
      | some (d, t) => s.giveTile x d t
      | none => s
    | [] =>
      match s.nextShare be with
      | none => s
      | some (fresh, q) =>
        match s.queueTile q with
        | none => s
        | some (d, t) =>
          let l := if fresh then List.replicate 64 0 else s.arr.shares
          ({ s with arr := { s.arr with shares := l.set q (l.getD q 0 + 1) } }).giveTile x d t

def execTileDispatch (cell : Fin 136) (s : State) : Host.Outcome State Fault Refusal :=
  s.run fun s => s.whenOk (!s.arrayFenced && s.cellFree cell) fun s => s.dispatchCell cell

/-! ### Tiles that end (R193) -/

/-- A tile of an attention operator whose rows are all invisible is skipped, and does not count as executed (08, R225, R227). -/
def skipped (op : Nat) (res : Vals) : Bool := op = opAttn && res.info = 0

/-- TILE_DONE: the cell's tile has all its operands; its result enters the merge buffer. -/
def execTileDone (cell : Fin 136) (s : State) : Host.Outcome State Fault Refusal :=
  s.run fun s => s.whenOk (!s.arrayFenced) fun s =>
    match s.arr.work.find? fun w => w.1 == cell.val with
    | some (x, .tile id t) =>
      match s.findDesc id with
      | none => s
      | some d =>
        match s.tileResult d t with
        | .ok res =>
          let s : State := { s with arr := { s.arr with work := s.arr.work.erase (x, .tile id t) } }
          let d' : Desc := { d with results := d.results ++ [(t, res)], ran := d.ran + (if skipped d.op res then 0 else 1) }
          (State.mergeReady 257 (s.setDesc d') id).lastTile id
        | .error _ => s
    | _ => s

/-! ### Accesses that end (R209) -/

/-- The statuses that leave a write's outcome unknown (R210). -/
def writeUnknown (st : Nat) (ou : Bool) : Bool := (st = stLinkDown && ou) || st = stTimeout

/-- The tiles of a descriptor that cells hold. -/
def State.tilesOf (s : State) (id : Nat) : List Nat :=
  s.arr.work.filterMap fun w => match w.2 with
    | .tile d t => if d = id then some t else none
    | .redWr _ _ => none

/-- What a completed access gives its descriptor. -/
def State.accessDone (s : State) (a : OpAccess) (st : Nat) (ou : Bool) (data : List Byte) : State :=
  match s.findDesc a.desc with
  | none => s
  | some d =>
    let s := s.whenOk (a.write && st = stOk && d.op = opCopy) fun t => t.count .oprCopySectors a.n
    let d : Desc := { d with ou := d.ou || ((a.write || a.patch.isSome) && writeUnknown st ou) }
    if st != stOk then
      if d.phase = .ending then s.setDesc { d with fails := d.fails ++ [st] } else s.failDesc d st
    else if a.write then
      s.setDesc { d with okSectors := d.okSectors ++ (List.range a.n).map (a.addr + ·) }
    else if d.phase = .ending then
      s.whenOk a.patch.isSome fun t => { t with stk := { t.stk with lockedAddrs := t.stk.lockedAddrs.erase (addrOf a.addr) } }
    else match a.patch with
      | some l =>
        -- the write of a sector that was merged (09, R268)
        let w : OpAccess := { a with write := true, patch := none, done := none }
        let s := s.setDesc d
        ({ s with arr := { s.arr with accesses := s.arr.accesses ++ [w] } }).arrayOp a.id (addrOf a.addr) (resultPart (s.queueCfg d.queue) d.v)
          (qTc (s.queueCfg d.queue)) (some (overlay data l)) false true
      | none =>
        let got := (List.range a.n).map fun i => (a.addr + i, slice data (64 * i) 64)
        let s := s.setDesc { d with mem := d.mem ++ got }
        (s.tilesOf d.id).foldl (fun t tile => t.feedTile d.id tile) s

/-- OPERAND_ACCESS_DONE: the array takes the result of a completed access. -/
def execOperandAccessDone (id : Nat) (s : State) : Host.Outcome State Fault Refusal :=
  s.run fun s =>
    match s.arr.accesses.find? fun a => a.id == id && a.done.isSome with
    | none => s
    | some a =>
      match a.done with
      | none => s
      | some (st, ou, data) =>
        (({ s with arr := { s.arr with accesses := s.arr.accesses.erase a } }).accessDone a st ou data).wakeOwn

/-! ### Completion (R187, R209) -/

/-- Nothing of a descriptor is in flight. -/
def State.quiet (s : State) (d : Desc) : Bool := !(s.arr.accesses.any fun a => a.desc == d.id)

/-- Every byte of the result has been issued. -/
def Desc.allIssued (d : Desc) : Bool :=
  d.op == opFlush || dInline d.v || d.written.isEmpty

/-- A descriptor that can complete. -/
def State.finishable (s : State) (d : Desc) : Bool :=
  s.quiet d && (d.phase == .ending || (d.phase == .writing && d.allIssued))

/-- The sequence of an end: the descriptor completes, its reduction closes. -/
def State.endDesc (s : State) (d : Desc) (st : Nat) : State := (s.complete d st).closeRed d.id

/-- DESCRIPTOR_FINISH: the oldest descriptor of the queue that can complete does. -/
def execDescriptorFinish (q : Fin 64) (s : State) : Host.Outcome State Fault Refusal :=
  s.run fun s =>
    match (s.inQueue q).find? s.finishable with
    | none => s
    | some d =>
      let poisoned := d.op == opReduce && s.arr.reductions.any fun r => r.desc == d.id && r.poison && r.endCode != 2
      let st := if d.phase = .ending then worst d.fails else if poisoned then stPoisoned else stOk
      (s.whenOk (st = stPoisoned && d.phase = .writing) fun t => t.count .redPoisoned 1).endDesc d st

/-- Every descriptor of a list completes at once (R211, R212). -/
def State.endAll (s : State) (l : List Desc) (st : Nat) : State :=
  l.foldl (fun t d => match t.findDesc d.id with
    | some x => t.endDesc x st
    | none => t) s

/-- An access of the descriptor has written, or may have (R210). -/
def State.hasWritten (s : State) (d : Desc) : Bool :=
  !d.okSectors.isEmpty || s.arr.accesses.any fun a => a.desc == d.id && (a.write || a.patch.isSome)

/-- OU for what had issued a write when the fence came (R210). -/
def State.markFenced (s : State) : State :=
  { s with arr := { s.arr with descs := s.arr.descs.map fun (d : Desc) => ({ d with ou := d.ou || s.hasWritten d } : Desc) } }

/-- The array is fenced by loss of ACLK: every queued and running descriptor completes with FENCED (R211), and what waits for the
array is answered. -/
def State.fenceArray (s : State) : State :=
  let s := s.markFenced
  let adds := (s.arr.work.filterMap fun w => match w.2 with
    | .redWr _ p => some p
    | .tile _ _ => none) ++ s.arr.redAgain.map (·.2) ++ s.arr.redIn.map (·.1)
  let subs := s.arr.submits
  let s : State := { s with arr := { s.arr with clkFence := true, work := [], redAgain := [], redIn := [], submits := [] } }
  let s := adds.foldl (fun t p => t.performed p.hdr stFenced false false [] []) s
  let s := s.endAll s.arr.descs stFenced
  subs.foldl (fun t x => t.submit x.1 x.2) s

/-! ### Cells (R180, R181) -/

/-- Cell x changes its state; a SPARE cell of its cluster takes the place of an ACTIVE one that leaves. -/
def State.setCell (s : State) (x code : Nat) : State :=
  let was := s.entry .arrCellState x
  let s := s.setEntry .arrCellState x code
  if was = 0 && code != 0 then
    match ((List.range 17).map fun i => 17 * (x / 17) + i).find? fun y => s.entry .arrCellState y == 1 with
    | some y => s.setEntry .arrCellState y 0
    | none => s
  else s

/-- The cells of a cluster at its power-up, or when it loses power. -/
def State.clusterCells (s : State) (k : Nat) (on : Bool) : State :=
  (List.range 17).foldl (fun t i =>
    let x := 17 * k + i
    if t.entry .arrCellState x = 2 then t
    else t.setEntry .arrCellState x (if !on then 4 else if i = 16 then 1 else 0)) s

/-- Sparing after a power-up with FAILED cells: the SPARE cell becomes ACTIVE where fewer than 16 are. -/
def State.clusterSpare (s : State) (k : Nat) : State :=
  if (s.activeCells (2 ^ k)).length < 16 && s.entry .arrCellState (17 * k + 16) = 1 then s.setEntry .arrCellState (17 * k + 16) 0 else s

/-- A FAILED cell that passes screen test becomes SPARE or ACTIVE (R180). -/
def State.cellPassed (s : State) (x : Nat) : State :=
  s.setEntry .arrCellState x (if (s.activeCells (2 ^ (x / 17))).length = 16 then 1 else 0)

/-- Queues left with no ACTIVE cell: their descriptors complete with QUEUE_REFUSED (R212). -/
def State.emptyQueues (s : State) : State :=
  s.endAll (s.arr.descs.filter fun d => (s.countedCells (qMask (s.queueCfg d.queue))).isEmpty) stRefused

/-- CELL_FAULT: a check fails on the work of a cell. -/
def execCellFault (cell : Fin 136) (s : State) : Host.Outcome State Fault Refusal :=
  s.run fun s =>
    match s.arr.work.find? fun w => w.1 == cell.val with
    | none => s
    | some w =>
      let s : State := { s with arr := { s.arr with work := s.arr.work.erase w } }
      let s := ((s.setCell cell 2).count .arrCellFails 1).raise 0x60 2 (some .arrCellFails) [b8 cell.val]
      let s := match w.2 with
        | .redWr id p => { s with arr := { s.arr with redAgain := (id, p) :: s.arr.redAgain } }
        | .tile id t => match s.findDesc id with
          | some d => (s.setDesc { d with rerun := natSort (t :: d.rerun), rerunFlag := true }).count .oprTileReruns 1
          | none => s
      s.emptyQueues

/-! ### Idle gating (R182) -/

/-- CLUSTER_IDLE_GATE: ARR_IDLE_GATE µs without a tile on an enabled cluster outside every deadline mask. -/
def execClusterIdleGate (k : Fin 8) (s : State) : Host.Outcome State Fault Refusal :=
  s.run fun s =>
    let idle := (s.obj .arrClusterEn).testBit k && s.readyDom (10 + k) && s.obj .arrIdleGate != 0 && !s.deadlineMask.testBit k &&
      !(s.arr.work.any fun w => w.1 / 17 == k.val)
    s.whenOk idle fun s => { s with arr := { s.arr with gated := setBit s.arr.gated k true } }

/-- Work waits for a gated cluster. -/
def State.wanted (s : State) (k : Nat) : Bool :=
  let r := s.readyQueues k
  !r.1.isEmpty || !r.2.isEmpty || s.arr.redAgain.any fun w => ((s.findRed w.1).map fun r => (qMask (s.queueCfg r.queue)).testBit k).getD false

/-- CLUSTER_WAKE. -/
def execClusterWake (k : Fin 8) (s : State) : Host.Outcome State Fault Refusal :=
  s.run fun s => s.whenOk (s.arr.gated.testBit k && s.wanted k) fun s =>
    { s with arr := { s.arr with gated := setBit s.arr.gated k false } }

end Sys2Proof.Machine
end

