-- ==== Sys2Proof/Machine/Clocks.lean ====
section
/-! DEFINITION. Clock supervision (02, R20, R21) and the restarts after a clock fault (R21, R22). -/

namespace Sys2Proof.Machine

/-- A command that gives the AON domain the counts a; nothing while the AON supply is off. -/
def State.runAon (s : State) (a : Aon) (f : State → State) : Host.Outcome State Fault Refusal :=
  if s.aon.up then .next { f { s with aon := a } with pending := s.pending, aon := a } else .next s

/-- Clocks in the order of PWR_CLK_STATE. -/
def clkLclk : Nat := 0
def clkAclk : Nat := 1
def clkSclk : Nat := 2
def clkFclk : Nat := 3
def clkHclk : Nat := 4
def clkMclk : Nat := 5
def clkRclk : Nat := 6

/-- A count differs from its nominal by more than n in a thousand. -/
def offBy (n count nominal : Nat) : Bool := n * nominal < 1000 * (count - nominal) || n * nominal < 1000 * (nominal - count)

/-- Nominal LCLK count of a rate code. -/
def lclkNominal (rate : Nat) : Nat := match rate with
  | 0 => 16000
  | 1 => 12800
  | _ => 10240

/-- The code of a clock for a window's count: 0 present and in range, 1 out of range, 2 absent. -/
def State.clockCode (s : State) (i count : Nat) : Nat :=
  if count = 0 then 2
  else ofBool (match i with
    | 0 => offBy 5 count (lclkNominal s.trn.lclkRate)
    | 1 => offBy 5 count 16384
    | 2 => offBy 10 count (128 * s.obj .stkSclkDiv)
    | 3 => offBy 10 count (128 * s.obj .pktSportFclkDiv)
    | 4 => 5222 < count
    | _ => offBy 5 count 2048)

/-- A clock whose user has power and is present on this side is watched: the other side's port is gated (01, R10). -/
def State.clockWatched (s : State) (i : Nat) : Bool :=
  match i with
  | 0 => s.linkCore
  | 1 => (List.range 8).any fun k => s.poweredDom (10 + k)
  | 2 => s.sSide
  | 3 => s.hSide
  | 4 => true
  | _ => s.poweredDom 19

/-- The Stack Port is fenced by loss of SCLK: every request for the stack completes with FENCED. -/
def State.stackDown (s : State) : State :=
  let s := s.abandonStack stFenced true
  let s : State := { s with stk := { s.stk with up := false, clkFence := true, lock := .off } }
  s.setFld .stkSportState 3 3 0

/-- What R21 does when a clock becomes absent or out of range. -/
def State.clockAction (s : State) (i : Nat) : State :=
  match i with
  | 0 => s.linkDown downClock
  | 1 => s.fenceArray
  | 2 => s.stackDown
  | 3 => s.streamDown true
  | 4 => { s with pwr := { s.pwr with hclkStop := true } }
  | _ => ({ s with pwr := { s.pwr with mclkStop := true } }).seqStop

/-- A clock's code as recorded; a fault acts and raises an event. -/
def State.setClock (s : State) (i code : Nat) : State :=
  let old := s.fld .pwrClkState (2 * i + 1) (2 * i)
  let s := s.setFld .pwrClkState (2 * i + 1) (2 * i) code
  if code = 0 || code = old then s
  else (s.raise 0x90 2 (some .pwrClkState) [b8 i, b8 code]).clockAction i

/-- A port comes up when it can: at bring-up, or when its divisor becomes valid (R35). -/
def State.portsCome (s : State) : State :=
  let s := if s.hSide && s.sp.up && !inRange 120 160 (s.obj .pktSportFclkDiv) then s.streamDown false else s
  let s := if s.streamCan && !s.sp.up && !s.sp.clkFence then s.restartStream else s
  let s := if s.stackCan && !s.stk.up && !s.stk.clkFence then s.restartStackPort else s
  let s := if s.hSide then s.showPort .stream 3 s.sp.up else s
  if s.sSide then s.showPort .stack 2 s.stk.up else s

/-- The count of one clock at the end of a window. -/
def State.countClock (s : State) (i count : Nat) : State :=
  let s := s.setEntry .pwrClkCount i count
  if s.clockWatched i then s.setClock i (s.clockCode i count) else s

/-- CLOCK_WINDOW: every 1,024 RCLK. The Control Port returns by itself with HCLK. -/
def execClockWindow (lclk aclk sclk fclk hclk mclk : Nat) (s : State) : Host.Outcome State Fault Refusal :=
  s.run fun s => s.whenOk (!s.aon.rclkAbsent) fun s =>
    let s := (((((s.countClock 0 lclk).countClock 1 aclk).countClock 2 sclk).countClock 3 fclk).countClock 4 hclk).countClock 5 mclk
    let s : State := { s with pwr := { s.pwr with hclkStop := s.pwr.hclkStop && s.fld .pwrClkState 9 8 != 0 } }
    s.portsCome

/-- PLL_LOSS_OF_LOCK: absent at once. -/
def execPllLossOfLock (pll : Pll) (s : State) : Host.Outcome State Fault Refusal :=
  s.run fun s =>
    let i := match pll with
      | .lclk => 0
      | .aclk => 1
      | .mclk => 5
    s.whenOk (s.clockWatched i) fun s => s.setClock i 2

/-- RCLK_ABSENT: the AON domain runs from its own oscillator, and the link goes down. -/
def execRclkAbsent (s : State) : Host.Outcome State Fault Refusal :=
  s.runAon (if s.aon.rclkAbsent then s.aon else { s.aon with rclkAbsent := true, ps := 0 }) fun t => t.whenOk (!s.aon.rclkAbsent) fun s =>
    (((s.setFld .pwrClkState 12 12 1).raise 0x90 2 (some .pwrClkState) [b8 clkRclk, b8 2]).linkDown downClock)

/-- RCLK_RETURN: the count continues from the value it has reached (R430). -/
def execRclkReturn (s : State) : Host.Outcome State Fault Refusal :=
  s.runAon (if s.aon.rclkAbsent then { s.aon with rclkAbsent := false, ps := 0 } else s.aon) fun t => t.whenOk s.aon.rclkAbsent fun s =>
    s.setFld .pwrClkState 12 12 0

/-! ### Restarts (R21, R22) -/

/-- PWR_CLK_RESTART bit 0: the sequencer runs again from its image. -/
def State.restartSeq (s : State) : State :=
  if !s.pwr.mclkStop then s
  else if s.clockOk clkMclk then ({ s with pwr := { s.pwr with mclkStop := false } }).seqStart
  else s.raise 0x90 2 (some .pwrClkState) [b8 clkMclk, b8 (s.fld .pwrClkState 11 10)]

/-- PWR_CLK_RESTART bit 1: the array is unfenced. -/
def State.restartArray (s : State) : State :=
  if !s.arr.clkFence then s
  else if s.clockOk clkAclk then { s with arr := { s.arr with clkFence := false } }
  else s.raise 0x90 2 (some .pwrClkState) [b8 clkAclk, b8 (s.fld .pwrClkState 3 2)]

/-- PWR_CLK_RESTART_SEQ. -/
def execPwrClkRestartSeq (r : Requester) (s : State) : Host.Outcome State Fault Refusal :=
  s.access r fun s => s.restartSeq.reply stOk

/-- PWR_CLK_RESTART_ARRAY. -/
def execPwrClkRestartArray (r : Requester) (s : State) : Host.Outcome State Fault Refusal :=
  s.access r fun s => s.restartArray.reply stOk

end Sys2Proof.Machine
end

