-- ==== Sys2Proof/Machine/Mailbox.lean ====
section
/-! DEFINITION. Mailboxes and the tunnel (15, R403 to R407). -/

namespace Sys2Proof.Machine

/-- Mailboxes 4 and 5 are secure and reach key units; 2, 3 and 5 reach the far instance. -/
def mbxSecure (j : Nat) : Bool := j = 4 || j = 5
def mbxFar (j : Nat) : Bool := j = 2 || j = 3 || j = 5

def State.mbx (s : State) (j : Nat) : Mailbox := s.mgt.mailboxes.getD j Mailbox.reset

def State.setMbx (s : State) (j : Nat) (m : Mailbox) : State :=
  { s with mgt := { s.mgt with mailboxes := s.mgt.mailboxes.set j m } }

/-- A Control Port access is answered at all: HCLK present (02, R21). -/
def State.portRuns (s : State) : Bool := !s.pwr.hclkStop

/-! ### Tunnel fragments (R406) -/

/-- The fragments of a tunnel message. -/
def fragments (j st : Nat) (isReply : Bool) (msg : List Byte) : List (List Byte) :=
  let n := if msg.isEmpty then 1 else ceilDiv msg.length 58
  (List.range n).map fun i =>
    [b8 j, b8 ((if i = 0 then 0x80 else 0) + (if i + 1 = n then 0x40 else 0) + i), b8 st, b8 (ofBool isReply)] ++
      toBytes 2 msg.length ++ (msg.drop (58 * i)).take 58

/-- The frame type of a mailbox's tunnel: 0x20 TUNNEL, 0x21 TUNNEL_S (R403). -/
def tunnelType (j : Nat) : Nat := if mbxSecure j then 0x21 else 0x20

def State.sendTunnel (s : State) (j st : Nat) (isReply : Bool) (msg : List Byte) : State :=
  s.whenOk s.sbUp fun s => s.outs ((fragments j st isReply msg).map fun f => .sideband (tunnelType j) f)

/-! ### Replies (R405) -/

/-- The exchange of mailbox j ends with a reply. -/
def State.endExchange (s : State) (j st : Nat) (msg : List Byte) : State :=
  s.setMbx j { s.mbx j with inn := slice msg 0 256, inLen := msg.length, inStatus := st, inFull := true, taken := false }

/-- The target may write its reply now: inbound FULL is clear, or the reply goes back through the tunnel. -/
def State.mayReply (s : State) (t : Taken) : Bool := t.far || !(s.mbx t.mbx).inFull

/-- A taken message answered. -/
def State.replyTaken (s : State) (t : Taken) (st : Nat) (msg : List Byte) : State :=
  let s := { s with mgt := { s.mgt with taken := s.mgt.taken.erase t } }
  if t.far then s.sendTunnel t.mbx st true msg else s.endExchange t.mbx st msg

/-- The sequencer's reply to a request: bytes 0 to 15 of R407's table, and what follows. -/
def seqReply (msg : List Byte) (st : Nat) (rest : List Byte) : List Byte :=
  [b8 ((valAt msg 0 1 + 0x80) % 256)] ++ slice msg 1 1 ++ [b8 st, 0] ++ slice msg 4 3 ++ [0] ++ slice msg 8 4 ++ zeros 4 ++ rest

/-- The messages that a sequencer answers with MALFORMED: a CMD of no row of the table, or a short request (R407). -/
def seqMalformed (msg : List Byte) : Bool :=
  let cmd := valAt msg 0 1
  let len := valAt msg 10 2
  msg.length < 16 || cmd = 0 || cmd > 3 ||
    (cmd != 1 && (len = 0 || len > 240)) || (cmd = 3 && msg.length < 16 + len)

/-- A sequencer runs that can take messages. -/
def State.seqTakes (s : State) : Bool := s.seqRuns

/-- A message given to its target: a malformed one to a sequencer, and one to a key unit whose CMD is not of R317, is answered at
once. The key unit's reply to such a command is its RESULT 0x01, or 0x06 where it has no keys. -/
def State.take (s : State) (t : Taken) (key : Bool) : State :=
  let s := { s with mgt := { s.mgt with taken := s.mgt.taken ++ [t] } }
  if key then
    let cmd := valAt t.msg 0 1
    if (cmd = 1 || cmd = 2 || cmd = 3) || !s.mayReply t then s
    else (s.count .stkKeyRefused 1).replyTaken t stOk
      ([b8 ((cmd + 0x80) % 256), b8 (if s.noKeys then 6 else 1)] ++ slice t.msg 1 2 ++ toBytes 4 (s.obj .stkDigestGenNow) ++ zeros 8)
  else if seqMalformed t.msg && s.mayReply t then s.replyTaken t stOk (seqReply t.msg stMalformed [])
  else s

/-! ### Rows -/

/-- MAILBOX_SEND (R405): R8 selects the status. -/
def execMailboxSend (sec : Bool) (j : Fin 6) (len : Nat) (s : State) : Host.Outcome State Fault Refusal :=
  s.run fun s => s.whenOk s.portRuns fun s =>
    if mbxSecure j && !sec then s.reply stDenied
    else
      let m := s.mbx j
      let st := worst [if j.val ≤ 1 && !s.readyDom 19 then stDomainOff else stOk, if mbxFar j && !s.sbUp then stLinkDown else stOk,
                       if len = 0 then stMalformed else stOk, if len > 256 then stMbxLen else stOk,
                       if m.outFull then stRefused else stOk]
      let m := { m with lastStatus := st }
      (s.setMbx j (if st = stOk then { m with outFull := true, outLen := len } else m)).reply st

/-- MAILBOX_ABORT: discards a message that has not been taken. -/
def execMailboxAbort (sec : Bool) (j : Fin 6) (s : State) : Host.Outcome State Fault Refusal :=
  s.run fun s => s.whenOk s.portRuns fun s =>
    if mbxSecure j && !sec then s.reply stDenied
    else (s.setMbx j { s.mbx j with outFull := false }).reply stOk

/-- MAILBOX_RELEASE (R404): IN_CTRL [16]. -/
def execMailboxRelease (sec : Bool) (j : Fin 6) (s : State) : Host.Outcome State Fault Refusal :=
  s.run fun s => s.whenOk s.portRuns fun s =>
    if mbxSecure j && !sec then s.reply stDenied
    else (s.setMbx j { s.mbx j with inFull := false }).reply stOk

/-- MAILBOX_TAKEN: the target takes the message; through the tunnel it leaves as fragments. One exchange of a mailbox at a time. -/
def execMailboxTaken (j : Fin 6) (s : State) : Host.Outcome State Fault Refusal :=
  s.run fun s =>
    let m := s.mbx j
    let ready := if mbxFar j then s.sbUp else mbxSecure j || s.seqTakes
    s.whenOk (m.outFull && !m.taken && ready) fun s =>
      let msg := m.out.take m.outLen
      let s := s.setMbx j { m with outFull := false, taken := true }
      if mbxFar j then s.sendTunnel j 0 false msg else s.take ⟨j, false, msg⟩ (mbxSecure j)

/-- MAILBOX_BUFFER_WRITE: one word of a buffer (R403, R405). -/
def execMailboxBufferWrite (sec : Bool) (j : Fin 6) (inbound : Bool) (offset value : Nat) (s : State) : Host.Outcome State Fault Refusal :=
  s.run fun s => s.whenOk s.portRuns fun s =>
    if (mbxSecure j && !sec) || inbound then s.reply stDenied
    else if (s.mbx j).outFull then s.reply stRefused
    else (s.setMbx j { s.mbx j with out := splice (s.mbx j).out (offset % 256 / 4 * 4) (toBytes 4 value) }).reply stOk

/-- A complete tunnel message. -/
def State.tunnelComplete (s : State) (j st : Nat) (isReply : Bool) (msg : List Byte) : State :=
  if isReply then s.whenOk (s.mbx j).taken fun s => s.endExchange j st msg
  else if !mbxSecure j && !s.seqTakes then s.sendTunnel j stDomainOff true []
  else s.take ⟨j, true, msg⟩ (mbxSecure j)

/-- A tunnel fragment (R406): it continues its message, or discards it. -/
def State.tunnelFrame (s : State) (key : Bool) (f : List Byte) : State :=
  let j := valAt f 0 1
  let frag := valAt f 1 1
  let isReply := (valAt f 3 1).testBit 0
  let len := valAt f 4 2
  let old := s.mgt.tunnels.find? fun t => t.mbx == j && t.reply == isReply
  let others := s.mgt.tunnels.filter fun t => !(t.mbx == j && t.reply == isReply)
  let s := { s with mgt := { s.mgt with tunnels := others } }
  if f.length < 6 || f.length > 64 || !mbxFar j || mbxSecure j != key || len > 256 then s
  else
    let first := frag.testBit 7
    let n := frag % 64
    let start : Option (List Byte) :=
      if first then (if n = 0 then some [] else none)
      else match old with
        | some t => if t.next = n then some t.data else none
        | none => none
    match start with
    | none => s
    | some d =>
      let d := d ++ f.drop 6
      if frag.testBit 6 then (if d.length = len then s.tunnelComplete j (valAt f 2 1) isReply d else s)
      else { s with mgt := { s.mgt with tunnels := others ++ [⟨j, isReply, n + 1, d⟩] } }

def execTunnel (bytes : List Byte) (s : State) : Host.Outcome State Fault Refusal :=
  s.run fun s => s.whenOk s.sbUp fun s => s.tunnelFrame false bytes

def execTunnelS (bytes : List Byte) (s : State) : Host.Outcome State Fault Refusal :=
  s.run fun s => s.whenOk s.sbUp fun s => s.tunnelFrame true bytes

/-- TUNNEL_TIMEOUT: no reply within 10 ms. -/
def execTunnelTimeout (j : Fin 6) (s : State) : Host.Outcome State Fault Refusal :=
  s.run fun s => s.whenOk (mbxFar j && (s.mbx j).taken && !(s.mbx j).inFull) fun s => s.endExchange j stTimeout []

/-- The first message that the sequencer holds with a command code, and whose reply can be written. -/
def State.seqMsg (s : State) (cmd : Nat) : Option Taken :=
  if s.seqTakes then
    s.mgt.taken.find? fun t => !mbxSecure t.mbx && valAt t.msg 0 1 == cmd && !seqMalformed t.msg && s.mayReply t
  else none

/-- ECHO (R407): the reply repeats bytes 4 onwards. -/
def execEcho (s : State) : Host.Outcome State Fault Refusal :=
  s.run fun s =>
    match s.seqMsg 1 with
    | some t => s.replyTaken t stOk ([b8 0x81] ++ slice t.msg 1 1 ++ [b8 stOk, 0] ++ t.msg.drop 4)
    | none => s

/-- Messages that a sequencer held when it was reset: the AON domain answers them with DOMAIN_OFF and LEN 0 (R405). -/
def State.answerTakenOff (s : State) : State :=
  (s.mgt.taken.filter fun t => !mbxSecure t.mbx).foldl (fun t m => t.replyTaken m stDomainOff []) s

end Sys2Proof.Machine
end

