-- ==== Sys2Proof/Machine/Keys.lean ====
section
/-! DEFINITION. Keys, partitions and the digest (11, R311, R312, R315 to R320): the key commands, the apply of the staged tables, the
complement faults of partitions and slots, and the final-cut digest. -/

namespace Sys2Proof.Machine

/-! ### Key slots -/

/-- STK_KEY_STATE of a slot (R321). -/
def KeySlot.state (k : KeySlot) : Nat :=
  ofBool k.key0.isSome + 2 * ofBool k.key1.isSome + 4 * k.writeKey + 8 * ofBool k.walk.isSome + 16 * ofBool k.walkDone + 32 * ofBool k.fenced

/-- The KCV of a position; zero for an absent key (R315). -/
def KeySlot.kcv (k : KeySlot) (pos : Nat) : Nat := ((k.key pos).map fun b => Machine.kcv b).getD 0

def KeySlot.setKey (k : KeySlot) (pos : Nat) (v : Option (List Byte)) : KeySlot :=
  if pos = 0 then { k with key0 := v } else { k with key1 := v }

/-- What a key command does: its RESULT and the state after it (R317, in the order of its judgement). -/
def State.keyCommand (s : State) (cmd : Nat) (msg : List Byte) : Nat × State :=
  let p := valAt msg 0 1
  let k := valAt msg 1 1
  let rekey := (valAt msg 2 1).testBit 0
  let slot := s.slot p
  let length := msg.length + 1
  if s.noKeys then (6, s)
  else if k > 1 || length != (if cmd = 1 then 80 else 8) then (1, s)
  else if cmd = 1 && k = slot.writeKey && s.partValid p then (3, s)
  else if cmd = 3 && k = slot.writeKey then (3, s)
  else if cmd = 2 && (slot.key k).isNone then (4, s)
  else if cmd = 3 && slot.walk.isSome then (5, s)
  else if cmd = 1 then
    match kwUnwrap (slice Config.keyWrappingKey 0 32) (slice msg 7 72) with
    | none => (2, s)
    | some key => (0, (s.setSlot (slot.setKey k (some key))).digestChange)
  else if cmd = 2 then
    let slot := { slot with writeKey := k, fenced := false }
    let slot := if rekey then { slot with walk := some (s.partBase p), walkDone := false } else slot
    (0, (s.setSlot slot).digestChange)
  else (0, (s.setSlot (slot.setKey k none)).digestChange)

/-- The key unit answers the command that it holds. -/
def State.keyUnit (s : State) (cmd : Nat) (msg : List Byte) : State :=
  match s.mgt.taken.find? fun t => mbxSecure t.mbx && t.msg == b8 cmd :: msg && s.mayReply t with
  | none => s
  | some t =>
    let (res, s) := s.keyCommand cmd msg
    let s := s.count (if res = 0 then .stkKeyCmds else .stkKeyRefused) 1
    let p := valAt msg 0 1
    let k := valAt msg 1 1
    s.replyTaken t stOk ([b8 (cmd + 0x80), b8 res, b8 p, b8 k] ++ toBytes 4 (s.obj .stkDigestGenNow) ++
      toBytes 8 (if s.sSide && k ≤ 1 then (s.slot p).kcv k else 0))

def execKeyLoad (msg : List Byte) (s : State) : Host.Outcome State Fault Refusal := s.run fun s => s.keyUnit 1 msg

def execKeySelect (msg : List Byte) (s : State) : Host.Outcome State Fault Refusal := s.run fun s => s.keyUnit 2 msg

def execKeyClear (msg : List Byte) (s : State) : Host.Outcome State Fault Refusal := s.run fun s => s.keyUnit 3 msg

/-! ### The apply of the staged tables (R311) -/

def stagedParts (s : State) : List (Nat × Nat) :=
  ((s.entries .stkPartTable).zipIdx.filter fun x => x.1 != 0).map fun x => (x.2, x.1)

def stagedAccess (s : State) : List (Nat × Nat) :=
  ((s.entries .stkAccessTable).zipIdx.filter fun x => x.1 != 0).map fun x => (x.2, x.1)

def entryBase (v : Nat) : Nat := field v 39 0
def entryLimit (v : Nat) : Nat := field v 79 40
def entryValid (v : Nat) : Bool := bit v 80

/-- A queue bound to partition p holds a descriptor, or a reduction is open in p (R311 BUSY). -/
def State.partBusy (s : State) (p : Nat) : Bool :=
  (s.arr.descs.any fun d => field (s.entry .arrQueueCfg d.queue) 39 32 == p) || s.arr.reductions.any fun r => r.part == p

/-- The retake spill region lies wholly inside a partition entry (R111). -/
def State.spillInside (s : State) (v : Nat) : Bool :=
  let b := s.obj .lnkSpillBase
  entryValid v && entryBase v ≤ b && b + 131071 ≤ entryLimit v

/-- The first failing check of R311: code, entry, and whether it lies in the access table. -/
def State.applyCheck (s : State) : Option (Nat × Nat × Bool) :=
  let ps := (stagedParts s).filter fun x => entryValid x.2
  let as := (stagedAccess s).filter fun x => entryValid x.2
  let fieldP := if s.sSide then ps.find? fun x => entryBase x.2 % 32 != 0 || (entryLimit x.2 + 1) % 32 != 0 || entryLimit x.2 < entryBase x.2 else none
  let fieldA := as.find? fun x => field x.2 39 20 < field x.2 19 0 || (s.sSide && !(ps.any fun y => y.1 == field x.2 47 40))
  let cap := if s.sSide then ps.find? fun x => s.obj .stkSectors ≤ entryLimit x.2 else none
  let clash := if s.sSide then ps.find? fun x => ps.any fun y => y.1 != x.1 && entryBase x.2 ≤ entryLimit y.2 && entryBase y.2 ≤ entryLimit x.2 else none
  let busy := if s.sSide then (List.range 256).find? fun p =>
      let new := ((stagedParts s).find? fun x => x.1 == p).map (·.2)
      new.getD 0 != s.partEntry p && s.partBusy p else none
  let spillPart := s.obj .lnkSpillPart
  let spill := s.sSide && s.linkUp && !(s.spillInside ((((stagedParts s).find? fun x => x.1 == spillPart).map (·.2)).getD 0))
  match fieldP, fieldA, cap, clash, busy with
  | some x, _, _, _, _ => some (1, x.1, false)
  | none, some x, _, _, _ => some (1, x.1, true)
  | none, none, some x, _, _ => some (2, x.1, false)
  | none, none, none, some x, _ => some (3, x.1, false)
  | none, none, none, none, some p => some (4, p, false)
  | none, none, none, none, none => if spill then some (5, spillPart, false) else none

/-- The apply. A passing one writes every valid entry, lifts the fence of partitions whose bounds it writes, and counts once. -/
def State.applyParts (s : State) : State :=
  match s.applyCheck with
  | some (code, e, acc) => s.setObj .stkPartResult (code + e * 2 ^ 8 + ofBool acc * 2 ^ 18 + ofBool s.stk.stagedDiffers * 2 ^ 31)
  | none =>
    let ps := if s.sSide then stagedParts s else s.stk.parts
    let as := stagedAccess s
    let s := { s with stk := { s.stk with parts := ps, access := as, stagedDiffers := false, boundsFenced := [] } }
    ((s.setObj .stkPartResult 0).degrade).digestChange

/-! ### Complement faults of partitions and slots (R312) -/

def State.fencePart (s : State) (p : Nat) : State :=
  if s.stk.boundsFenced.contains p then s
  else ({ s with stk := { s.stk with boundsFenced := p :: s.stk.boundsFenced } }).digestChange

/-- Slot p's control has failed its check: both keys are zeroed. -/
def State.fenceSlot (s : State) (p : Nat) : State :=
  (s.setSlot { s.slot p with key0 := none, key1 := none, fenced := true }).digestChange

/-! ### The final-cut digest (R319, R320) -/

/-- One record of the digest message. -/
def digestRecord (type : Nat) (content : List Byte) : List Byte := toBytes 4 type ++ toBytes 4 content.length ++ content

/-- The key-wrapping key's KCV, STK_KWK_ID: zero on an H-side instance (R316, R321). -/
def State.kwkId (s : State) : Nat := if s.sSide then Machine.kcv (slice Config.keyWrappingKey 0 32) else 0

/-- The table of pairs as a whole table of 16-byte entries. -/
def tableBytes (n : Nat) (l : List (Nat × Nat)) : List Byte :=
  (List.range n).flatMap fun i => toBytes 16 (((l.find? fun x => x.1 == i).map (·.2)).getD 0)

/-- The message of R319 for the present state. -/
def State.digestMessage (s : State) : List Byte :=
  digestRecord 1 (toBytes 8 (s.obj .mgtSerial) ++ [b8 (s.obj .mgtFamily), b8 s.aon.side] ++ toBytes 2 (s.obj .mgtStepping) ++ toBytes 8 s.kwkId) ++
  digestRecord 2 s.mgt.script ++
  (((List.range 8).filter fun n => (s.obj .mgtSceneActive).testBit n).flatMap fun n =>
    digestRecord 3 (b8 n :: s.mgt.scenes.getD n [])) ++
  digestRecord 4 s.pwr.fwImage ++
  digestRecord 5 (tableBytes 256 (if s.sSide then s.stk.parts else [])) ++
  digestRecord 6 (tableBytes 1024 s.stk.access) ++
  digestRecord 7 ((List.range 256).flatMap fun p =>
    if s.sSide then b8 (s.slot p).state :: zeros 7 ++ toBytes 8 ((s.slot p).kcv 0) ++ toBytes 8 ((s.slot p).kcv 1) else zeros 24)

/-- DIGEST_DONE: the running computation completes. A change restarts it (R320), so what it publishes is the present state's. -/
def execDigestDone (s : State) : Host.Outcome State Fault Refusal :=
  s.run fun s => s.whenOk ((s.obj .stkDigestState).testBit 0 && !s.stk.selfTestFailed) fun s =>
    ((s.setObj .stkDigest (ofBytes (sha384 s.digestMessage))).setObj .stkDigestGen (s.obj .stkDigestGenNow)).setObj .stkDigestState 2

end Sys2Proof.Machine
end

