-- ==== Sys2Proof/Machine/Engines.lean ====
section
/-! DEFINITION. Stand-in engines and failures (12): engine states, the continuity link, YIELD and takeover, segment tests, the tests
after a yield, shared-storage errors, and the fence. -/

namespace Sys2Proof.Machine

/-! ### Engine states (R344) -/

def engOff : Nat := 0
def engLead : Nat := 1
def engStandby : Nat := 2
def engResync : Nat := 3
def engTesting : Nat := 4
def engFailed : Nat := 5

/-- The number of the lead, and of the other engine. -/
def State.lead (s : State) : Nat := s.fld .redEngState 8 8
def State.other (s : State) : Nat := 1 - s.lead

/-- An engine's state changes; the instance is unprotected while no engine stands by. -/
def State.setEng (s : State) (e code : Nat) : State :=
  let s := s.setFld .redEngState (4 * e + 2) (4 * e) code
  s.setFld .redEngState 9 9 (ofBool (s.engState 0 != engStandby && s.engState 1 != engStandby))

/-- UNPROTECTED: reason 0 segment failed, 1 test failed, 2 yield limit. -/
def State.raiseUnprotected (s : State) (e reason : Nat) : State :=
  s.raise 0x81 2 (some .redEngState) [b8 e, b8 reason]

/-- An engine's island loses power. -/
def State.engineOff (s : State) (e code : Nat) : State :=
  (s.switchDom e false).setEng e code

/-- Fields of an engine's health report (R336); STATE and the coverage are read where they stand. -/
def State.health (s : State) (e hi lo : Nat) : Nat := field (s.entry .redHealth e) hi lo
def State.setHealth (s : State) (e hi lo v : Nat) : State := s.setEntry .redHealth e (setField (s.entry .redHealth e) hi lo v)

/-- A full pass of an engine's test has ended. -/
def State.endPass (s : State) (e res : Nat) : State :=
  (s.setHealth e 127 64 (s.aon.rclk % 2 ^ 64)).setHealth e 15 8 res

/-! ### The continuity link (R325 to R327) -/

/-- Words of the state store that are not zero, by address. -/
def putWord (a v : Nat) : List (Nat × Nat) → List (Nat × Nat)
  | [] => if v = 0 then [] else [(a, v)]
  | x :: rest =>
    if x.1 < a then x :: putWord a v rest
    else if x.1 = a then (if v = 0 then rest else (a, v) :: rest)
    else if v = 0 then x :: rest else (a, v) :: x :: rest

def State.storeWord (s : State) (a v : Nat) : State :=
  if 245760 ≤ a then s else { s with eng := { s.eng with store := putWord a (v % 2 ^ 32) s.eng.store } }

/-- Fields of a frame, a number of 512 bits. -/
def frameCopy (v : Nat) : Bool := v.testBit 479
def frameNrec (v : Nat) : Nat := field v 475 472
def frameRecord (v i : Nat) : Nat × Nat := (field v (455 - 50 * i) (438 - 50 * i), field v (437 - 50 * i) (406 - 50 * i))

/-- A frame in error (R327). -/
def State.frameBad (s : State) (v : Nat) : Bool :=
  field v 511 496 != crc16 496 (field v 495 0) 0xFFFF ||
    (match s.eng.fseq with
      | some q => field v 495 480 != (q + 1) % 65536
      | none => false) ||
    (if frameCopy v then 4 else 9) < frameNrec v ||
    (List.range (frameNrec v)).any fun i => 245760 ≤ (frameRecord v i).1

/-- A frame applied: its chunk, then its records. -/
def State.applyFrame (s : State) (v : Nat) : State :=
  let c := field v 471 457
  let s := if !frameCopy v then s
           else
             let s := (List.range 8).foldl (fun t i => t.storeWord (8 * c + i) (field v (32 * i + 31) (32 * i))) s
             if c = s.eng.chunk then { s with eng := { s.eng with chunk := c + 1 } } else s
  (List.range (frameNrec v)).foldl (fun t i => t.storeWord (frameRecord v i).1 (frameRecord v i).2) s

/-- The held frame is applied: the lead's checks of its LCLK have passed. -/
def State.applyHeld (s : State) : State :=
  match s.eng.held with
  | some f => ({ s with eng := { s.eng with held := none } }).applyFrame (ofBytes f)
  | none => s

/-- An engine begins to receive a copy of the lead's store (R338). -/
def State.startResync (s : State) (e : Nat) : State :=
  ({ s with eng := { s.eng with chunk := 0, held := none, fseq := none, segTest := none, passRun := false } }).setEng e engResync

/-- CONTINUITY_FRAME. -/
def execContinuityFrame (frame : List Byte) (s : State) : Host.Outcome State Fault Refusal :=
  s.runIf (frame.length == 64) "CONTINUITY_FRAME" fun s =>
    let st := s.engState s.other
    s.whenOk (s.engineLeads && (st = engStandby || st = engResync)) fun s =>
      let s := s.applyHeld
      let v := ofBytes frame
      if s.frameBad v then
        let s := s.count .redFrameErrs 1
        if st = engResync then s.setEng s.other engFailed else s.startResync s.other
      else { s with eng := { s.eng with held := some frame, fseq := some (field v 495 480) } }

/-- RESYNC_DONE: chunk 30,719 has been applied. -/
def execResyncDone (s : State) : Host.Outcome State Fault Refusal :=
  s.run fun s => s.whenOk (s.engState s.other = engResync) fun s =>
    let s := s.applyHeld
    s.whenOk (s.eng.chunk = 30720) fun s => (s.setEng s.other engStandby).count .redResyncs 1

/-! ### The fence (R340, R341) -/

/-- Requests that the instance holds for an answer: those of the link transmitter, those queued for the Relay Port, those of the Stack
Port and of the message table. Outcome unknown where a modifying one has been forwarded or issued. -/
def State.heldRequests (s : State) : List (Hdr × Nat × Bool) :=
  let relay := (s.rl.egress.filter fun q => isRequest q.pkt.hdr.type).map fun q => (q.pkt.hdr, q.pkt.descId, false)
  let jobs := (s.stk.jobs.filter fun j => j.own.isNone && !j.settled && !j.dropped).map fun j =>
    (j.hdr, 0, isModifying j.hdr.type && s.jobStarted j)
  let msgs := (s.pk.msgs.filter fun m => isRequest m.hdr.type && !m.dropped).map fun m =>
    (m.hdr, 0, m.ou || (isModifying m.hdr.type && m.performed != 0))
  let subs := s.arr.submits.map fun x => (x.1.hdr, x.1.descId, false)
  mergeSettle (s.settleRequests ++ relay ++ jobs ++ msgs ++ subs)

/-- Responses and transit responses that are queued (R340). -/
def State.queuedResponses (s : State) : Nat :=
  ((s.tx.queue ++ s.rl.egress ++ s.sp.egress ++ s.pk.hold.filterMap id).filter fun q => !isRequest q.pkt.hdr.type).length

/-- The packets that the instance holds go; what has left for the link is still acknowledged. -/
def State.dropHeldPackets (s : State) : State :=
  let un := s.tx.unacked.map fun (u : Unacked) => ({ u with hdr := none } : Unacked)
  let t : LinkTx := { s.tx with queue := [], unacked := un }
  let k : Packets := { s.pk with msgs := [], hold := List.replicate 32 none, closed := [], ordered := [] }
  { s with tx := t, rl := { s.rl with egress := [] }, sp := { s.sp with egress := [] }, pk := k, crossings := [] }

/-- Own requests end with FENCED. -/
def State.endOwn (s : State) : State :=
  let wait := s.pk.ownWait
  let s : State := { s with pk := { s.pk with ownWait := [] } }
  let s := s.pk.own.foldl (fun t r => t.ownComplete r stFenced (isModifying r.hdr.type) []) s
  wait.foldl (fun t w => t.ownResult w.1 stFenced false []) s

/-- The array gives up what it holds; its descriptors are answered where anything is. -/
def State.fenceWork (s : State) (silent : Bool) : State :=
  let s := s.markFenced
  let s : State := { s with arr := { s.arr with work := [], redAgain := [], redIn := [], submits := [] } }
  if silent then { s with arr := { s.arr with descs := [], accesses := [], reductions := [] } }
  else s.endAll s.arr.descs stFenced

/-- What a fence does with everything that the instance holds. With no healthy engine nothing is answered (R339). -/
def State.fenceSettle (s : State) (silent : Bool) : State :=
  let reqs := s.heldRequests
  let drops := s.queuedResponses
  let s := s.abandonStack stFenced false
  let s := ((s.dropHeldPackets.endOwn).count .redFenceDrops drops).fenceWork silent
  let s := if silent then s else reqs.foldl (fun t x => t.answerFenced x.1 x.2.1 x.2.2) s
  s.withdrawLink 0

/-- The instance becomes fenced: cause 1 written, 2 no healthy engine. -/
def State.fenceNow (s : State) (cause : Nat) : State :=
  let s := ((s.setObj .redFence 1).setObj .redFenceCause cause).raise 0x83 3 (some .redFenceCause) [b8 cause]
  (s.faultRecord 0x8020 1 3 cause).fenceSettle (cause = 2)

/-- The path of a write of 1 to RED_FENCE; a Stream Port whose clock is absent takes the link down (16, R424). -/
def State.writeFence (s : State) : State :=
  if s.fenced then s
  else
    let s := s.fenceNow 1
    if s.hSide && s.fld .pwrClkState 7 6 = 2 then s.linkDown downForced else s

/-- FENCE. -/
def execFence (r : Requester) (s : State) : Host.Outcome State Fault Refusal :=
  s.access r fun s => if isSecure r then s.writeFence.reply stOk else s.reply stDenied

/-- The path of a write of 0 (R342): refused with FENCE_CAUSE 2 until an engine has passed screen test. -/
def State.writeUnfence (s : State) : State × Nat :=
  if s.obj .redFenceCause = 2 && !s.engineLeads then (s, stDenied)
  else ((s.setObj .redFence 0).setObj .redFenceCause 0, stOk)

/-- UNFENCE. -/
def execUnfence (r : Requester) (s : State) : Host.Outcome State Fault Refusal :=
  s.access r fun s => if isSecure r then (let x := s.writeUnfence; x.1.reply x.2) else s.reply stDenied

/-! ### YIELD and takeover (R329 to R334, R337, R339) -/

/-- No healthy engine remains. -/
def State.noEngine (s : State) : State :=
  let s : State := { s with eng := { s.eng with cycled := 0, takeover := false } }
  ((s.fenceNow 2).linkDown downEngine)

/-- Yields of an engine within the window (view RED_YIELD_COUNT). -/
def State.recentYields (s : State) (e : Nat) : Nat :=
  (s.eng.yields.filter fun y => y.1 == e && s.aon.rclk - y.2 < s.obj .redYieldWindow * 360000000000).length

/-- The yield is recorded, and old ones are forgotten. -/
def State.noteYield (s : State) (e code : Nat) : State :=
  let kept := s.eng.yields.filter fun (y : Nat × Nat) => s.aon.rclk - y.2 < s.obj .redYieldWindow * 360000000000
  let s : State := { s with eng := { s.eng with yields := kept ++ [(e, s.aon.rclk)] } }
  (s.setObj .redLastYield (code + e * 2 ^ 8 + s.lat.lcc % 2 ^ 48 * 2 ^ 16)).raise 0x80 1 (some .redLastYield) [b8 code, b8 e]

/-- The stand-in becomes the lead; its segment test is abandoned. -/
def State.takeOver (s : State) (e : Nat) : State :=
  let inPass := s.eng.segTest.isSome || s.eng.nextSeg != 0
  let s := (s.count .redTakeovers 1).setFld .redEngState 8 8 e
  let s := if inPass then s.setHealth e 15 8 3 else s
  ({ s with eng := { s.eng with takeover := true, held := none, fseq := none, segTest := none, passRun := false, nextSeg := 0 } }).setEng e engLead

/-- YIELD: a check of the lead fails. -/
def execYieldEngine (code : Fin 5) (s : State) : Host.Outcome State Fault Refusal :=
  s.run fun s => s.whenOk (code != 0 && s.engState s.lead = engLead) fun s =>
    let e := s.lead
    let standby := s.engState s.other = engStandby
    let s := s.noteYield e code
    let limit := s.obj .redYieldLimit ≤ s.recentYields e
    let s := s.engineOff e (if limit then engFailed else engOff)
    let s := if standby then s.takeOver (1 - e) else s
    let s := if limit then s.raiseUnprotected e 2 else s
    if standby then s else s.noEngine

/-- TAKEOVER_RESUME: the new lead executes; the receive log is cleared, and the engine that yielded is powered up for its test. -/
def execTakeoverResume (s : State) : Host.Outcome State Fault Refusal :=
  s.run fun s => s.whenOk s.eng.takeover fun s =>
    let s := ({ s with eng := { s.eng with takeover := false } }).clearLog
    let e := s.other
    if s.engState e = engOff && (s.obj .pwrDomainCtrl).testBit e then s.switchDom e true else s

/-- The test of an engine that has power begins (16, R415). -/
def State.testEngine (s : State) (e : Nat) : State :=
  ({ s with eng := { s.eng with retest := some e } }).setEng e engTesting

/-- An engine that has passed its whole test leads where none does, and copies the lead's store otherwise (R337; 16, R426). -/
def State.enginePassed (s : State) (e : Nat) : State :=
  let s := (s.endPass e 0).setHealth e 23 16 0xFF
  if s.engineLeads then s.startResync e else (s.setFld .redEngState 8 8 e).setEng e engLead

/-- An engine that has failed it stays off. -/
def State.engineFailed (s : State) (e : Nat) : State :=
  ((s.endPass e 1).engineOff e engFailed).raiseUnprotected e 1

/-- ENGINE_RETEST_DONE, in bring-up as well (14, R364): ENG-B follows ENG-A. -/
def execEngineRetestDone (pass : Bool) (s : State) : Host.Outcome State Fault Refusal :=
  s.run fun s =>
    match s.eng.retest with
    | none => s
    | some e => s.whenOk (s.engState e = engTesting && !s.scr.halted) fun s =>
      let s : State := { s with eng := { s.eng with retest := none } }
      let s := if pass then s.enginePassed e else s.engineFailed e
      -- the other engine waits for its test: ENG-B of bring-up, or both islands cycled
      if s.readyDom (1 - e) && s.engState (1 - e) = engOff then s.testEngine (1 - e) else s

/-! ### Segment tests of the stand-in (R335) -/

/-- The largest draw P that the family allows, in mW (01, R18), with the clusters that are enabled. -/
def State.maxPower (s : State) : Nat :=
  let k := popcount 8 (s.obj .arrClusterEn)
  8900 + (if k = 0 then 0 else 1550 * k + 100) + (if s.sSide then 3600 else 0)

/-- Extras of the tests in progress: granted tests, an engine or a segment of one (14, R369). -/
def State.extras (s : State) : Nat :=
  (s.scr.running.map fun r => r.extra).sum + (if s.eng.segTest.isSome || s.eng.retest.isSome then 640 else 0)

/-- The P check for a new test. -/
def State.powerFits (s : State) (extra : Nat) : Bool := s.scr.estimate + s.extras + extra ≤ s.maxPower

/-- STANDIN_SEGMENT_TEST: the next segment; the sequencer keeps the rotation. -/
def execStandinSegmentTest (s : State) : Host.Outcome State Fault Refusal :=
  s.run fun s =>
    s.whenOk (s.seqRuns && s.engState s.other = engStandby && s.eng.segTest.isNone && s.eng.retest.isNone && s.powerFits 640) fun s =>
      let s := if s.eng.nextSeg = 0 then s.setHealth s.other 31 24 0 else s
      { s with eng := { s.eng with segTest := some s.eng.nextSeg } }

/-- SEGMENT_DONE. -/
def execSegmentDone (pass : Bool) (s : State) : Host.Outcome State Fault Refusal :=
  s.run fun s =>
    match s.eng.segTest with
    | none => s
    | some g => s.whenOk (!s.scr.halted) fun s =>
      let e := s.other
      if !pass then
        let s : State := { s with eng := { s.eng with segTest := none, passRun := false, nextSeg := 0 } }
        (((s.endPass e 1).setHealth e 23 16 g).engineOff e engFailed).raiseUnprotected e 0
      else
        let s := s.setHealth e 31 24 (s.health e 31 24 + 1)
        let next := (g + 1) % 64
        let s : State := { s with eng := { s.eng with nextSeg := next, segTest := if s.eng.passRun && next != 0 then some next else none,
                                                      passRun := s.eng.passRun && next != 0 } }
        if next = 0 then (s.endPass e 0).setHealth e 23 16 0xFF else s

/-! ### Shared storage (R324) -/

/-- A row is replaced by a spare row of its bank of 512, where one of the 8 is free. -/
def State.spareRow (s : State) (array row : Nat) : State :=
  let used := (s.eng.spared.filter fun x => x.1 == array && x.2 / 512 == row / 512).length
  if used < 8 then
    let bad := s.eng.rowErrs.filter fun x => x != (array, row)
    let s : State := { s with eng := { s.eng with spared := s.eng.spared ++ [(array, row)], rowErrs := bad } }
    (s.setEntry .redSpareRows array (s.entry .redSpareRows array + 1)).raise 0x82 1 (some .redSpareRows) [b8 array, b8 0]
  else s.raise 0x82 1 (some .redSpareRows) [b8 array, b8 1]

/-- A corrected word: the second one of a row since AON power-up calls for a spare row. -/
def State.correctedWord (s : State) (array row : Nat) : State :=
  let n := (s.eng.rowErrs.filter fun x => x == (array, row)).length
  let s := s.count .redSharedCorr 1
  let s := if array = 0 then s.count .lnkRetakeEcc 1 else s
  if 2 ≤ n then s
  else
    let s : State := { s with eng := { s.eng with rowErrs := s.eng.rowErrs ++ [(array, row)] } }
    if n = 1 then s.spareRow array row else s

/-- A packet whose payload is poisoned. -/
def Packet.poisoned (p : Packet) : Packet := { p with poison := [(0, 32 * p.hdr.len)] }

/-- The n-th element that meets a condition is replaced, or goes. -/
def onNth {α : Type} (ok : α → Bool) (f : α → Option α) : Nat → List α → List α
  | _, [] => []
  | n, x :: l =>
    if ok x then
      match n with
      | 0 => (f x).toList ++ l
      | n + 1 => x :: onNth ok f n l
    else x :: onNth ok f n l

/-- The outcome of an uncorrectable word of each array. -/
def State.badWord (s : State) (e : EccError) : State :=
  let q := fun (x : QPkt) => if e.header then none else some ({ x with pkt := x.pkt.poisoned } : QPkt)
  match e.array.val with
  | 0 => s.linkDown downRetake
  | 1 =>
    let f := fun (x : InPkt) => if e.header then none else some ({ x with pkt := x.pkt.poisoned } : InPkt)
    ({ s with rx := { s.rx with queue := onNth (fun x => x.vc == e.vc.val) f e.pos s.rx.queue } }).updateXoff
  | 2 => { s with tx := { s.tx with queue := onNth (fun x => x.pkt.hdr.tc == e.vc.val) q e.pos s.tx.queue } }
  | 3 =>
    let h := (s.pk.hold.getD e.pos none).bind q
    { s with pk := { s.pk with hold := s.pk.hold.set e.pos h } }
  | _ =>
    -- the flit counts as failed (04, R102)
    { s with rx := { s.rx with log := onNth (fun _ => true) (fun f => some { f with bytes := zeros 256, alt := zeros 256 }) e.pos s.rx.log } }

/-- SHARED_ECC_ERROR. -/
def execSharedEccError (e : EccError) (s : State) : Host.Outcome State Fault Refusal :=
  s.run fun s => s.whenOk s.linkCore fun s =>
    if e.corrected then s.correctedWord e.array e.row else (s.count .redSharedUncorr 1).badWord e

end Sys2Proof.Machine
end

