-- ==== Sys2Proof/Machine/Screen.lean ====
section
/-! DEFINITION. Screen test (14): isolation and power of the tests in service and on request, the tests of bring-up, what a test's end
does, and the analogue checks. -/

namespace Sys2Proof.Machine

/-! ### Isolation (R367) -/

/-- A physical lane whose TX and RX are both Spare, and that no pending map names. -/
def State.laneSpare (s : State) (p : Nat) : Bool :=
  !s.txActive p && !s.rxActive p && !s.rxFailed p && !(s.lanes72 .phyTxFailed).testBit p && !s.inPending p && s.readyDom (2 + p / 9) &&
    !(match s.lanes.txPlan with
      | some x => (x.map.take x.width).contains p
      | none => false)

/-- Cluster k is the only one in the mask of a bound deadline queue (07, R182). -/
def State.onlyCluster (s : State) (k : Nat) : Bool :=
  (List.range 64).any fun q => qDeadline (s.queueCfg q) && qMask (s.queueCfg q) = 2 ^ k

/-- Unit u of the shared scratch can be taken: it is good, and its region has the room of a unit. -/
def State.scratchFree (s : State) (u : Nat) : Bool :=
  let inside := fun (r : Nat) => field r 15 8 ≤ u && u < field r 15 8 + field r 7 0
  !s.scratchBad.testBit u &&
    (if inside (s.obj .arrScratchRed) then 1639 ≤ s.accFree else if inside (s.obj .arrScratchStage) then 1 ≤ s.stageFree else true)

/-- Spare rows of a bank that are in use. -/
def State.bankUsed (s : State) (array bank : Nat) : Nat := (s.eng.spared.filter fun x => x.1 == array && x.2 / 512 == bank).length

/-- A training has filled both connection tables (03, R54). -/
def State.connected (s : State) : Bool :=
  (s.entries .phyRxConnect).any (fun c => c != 255) && (s.entries .phyFarConnect).any fun c => c != 255

/-- The link is at rest, and the tables and the zeroisation record allow far-end loopback (R366). -/
def State.farMay (s : State) : Bool := (s.obj .lnkState = 0 || s.obj .lnkState = 4) && s.connected && (s.entry .scrZeroRecord 1).testBit 0

/-- The unit can be isolated for a test in service or on request. -/
def State.canIsolate (s : State) (u : TestUnit) : Bool :=
  match u with
  | .cluster k => (s.obj .arrClusterEn).testBit k && s.readyDom (10 + k) && !s.onlyCluster k
  | .lane p => s.laneSpare p && s.cal.monitor != some p.val && s.cal.scan != some p.val && s.cal.recal != some p.val
  | .laneGroup g => !s.linkUp && s.readyDom (2 + g)
  | .farTest _ => s.farMay
  | .scratchUnit x => s.scratchFree x
  | .scratch => (List.range 128).any s.scratchFree
  | .storageBank a b => s.bankUsed a b < 8
  | .storage => !(s.eng.spared.any fun x => 8 ≤ s.bankUsed x.1 (x.2 / 512))
  | .analog c => 6 ≤ c.val || !s.linkUp
  | .secureStore => false

/-- Kinds of tests: at most one of each runs. -/
def testKind : TestUnit → Nat
  | .cluster _ => 0
  | .lane _ => 1
  | .laneGroup _ => 1
  | .farTest _ => 1
  | .scratchUnit _ => 2
  | .scratch => 2
  | .storageBank _ _ => 3
  | .storage => 3
  | .analog _ => 4
  | .secureStore => 5

def State.kindBusy (s : State) (u : TestUnit) : Bool :=
  s.tests (fun v => testKind v == testKind u) || s.scr.waiting.any fun v => testKind v == testKind u

/-! ### Power (R369) -/

/-- Extras at full pace. -/
def testExtra : TestUnit → Nat
  | .cluster _ => 1240
  | .laneGroup _ => 550
  | .farTest _ => 550
  | .lane _ => 30
  | _ => 0

/-- The paces at which a test can start: code and extra. -/
def paces (u : TestUnit) : List (Nat × Nat) :=
  match u with
  | .cluster _ => [(0, 1240), (1, 620), (2, 310), (3, 155)]
  | u => [(0, testExtra u)]

/-- What is left of the cap, with the reservation of a stand-in that stands by, or an engine's test. -/
def State.capLeft (s : State) : Nat :=
  let held := if s.engState s.other = engStandby || s.eng.retest.isSome then 640 else 0
  s.obj .scrExtraLimit - held - (s.scr.running.map fun r => r.extra).sum

/-- The tests whose units are free of work are isolated, and run. -/
def State.beginTests (s : State) : State :=
  (s.scr.running.filter fun r => !r.on).foldl (fun t r =>
    let start := fun (t : State) =>
      ({ t with scr := { t.scr with running := t.scr.running.map fun (x : Running) => if x.test == r.test then { x with on := true } else x } } : State)
    match r.test with
    | .cluster k =>
      if t.arr.work.any fun w => w.1 / 17 == k.val then t
      else
        let t : State := { t with arr := { t.arr with gated := setBit t.arr.gated k false } }
        start ((List.range 17).foldl (fun v i => v.setEntry .arrCellState (17 * k + i) 3) t)
    | _ => start t) s

/-- A test starts if its power is there. -/
def State.tryRun (s : State) (u : TestUnit) : Option State :=
  match (paces u).find? fun x => x.2 ≤ s.capLeft with
  | none => none
  | some (pace, extra) =>
    if !s.powerFits extra then none
    else
      let r : Running := ⟨u, extra, pace, false⟩
      some (({ s with scr := { s.scr with running := s.scr.running ++ [r] } }).beginTests.showScreen)

/-- A test starts, or waits for its power. -/
def State.runOrWait (s : State) (u : TestUnit) : State :=
  match s.tryRun u with
  | some t => t
  | none => { s with scr := { s.scr with waiting := s.scr.waiting ++ [u] } }

/-- Tests that waited start where they can. -/
def State.startWaiting (s : State) : State :=
  let l := s.scr.waiting
  l.foldl (fun t u => if t.canIsolate u then t.runOrWait u else { t with scr := { t.scr with waiting := t.scr.waiting ++ [u] } })
    ({ s with scr := { s.scr with waiting := [] } })

/-! ### The tests of bring-up (R364) -/

def isEarly : TestUnit → Bool
  | .analog _ => true
  | .secureStore => true
  | _ => false

def isClusterTest : TestUnit → Bool
  | .cluster _ => true
  | .scratch => true
  | _ => false

def isGroupTest : TestUnit → Bool
  | .laneGroup _ => true
  | _ => false

/-- An engine has its result, or no power. -/
def State.engineDone (s : State) (e : Nat) : Bool := !s.poweredDom e || (s.engState e != engOff && s.engState e != engTesting)

/-- The tests that run now: the analogue checks and the secure store first, then three streams at once. -/
def State.bootRunning (s : State) : List TestUnit :=
  let q := s.scr.bootQueue
  let early := q.filter isEarly
  if !early.isEmpty then early
  else (q.filter isClusterTest).take 1 ++ (q.filter isGroupTest).take 1 ++
    (if s.engineDone 0 && s.engineDone 1 && s.eng.retest.isNone then q.filter fun u => u == .storage else [])

/-- The engines' stream starts when the analogue checks and the secure store have ended. -/
def State.bootEngines (s : State) : State :=
  if s.scr.bootQueue.any isEarly || s.eng.retest.isSome then s
  else if s.readyDom 0 && s.engState 0 = engOff then s.testEngine 0
  else if s.readyDom 1 && s.engState 1 = engOff then s.testEngine 1
  else s

/-- Screen test of bring-up begins: every mark of the test before it goes, and units that are not tested have NEVER_RUN. -/
def State.startScreen (s : State) : State :=
  let en := s.obj .arrClusterEn
  let clusters := (List.range 8).filter fun k => en.testBit k
  let groups := (List.range 8).filter fun g => !(s.obj .phyGroupOff).testBit g
  let q := ((List.range 14).map fun c => TestUnit.analog (Fin.ofNat 14 c)) ++ [TestUnit.secureStore] ++
    (clusters.map fun k => TestUnit.cluster (Fin.ofNat 8 k)) ++ (if clusters.isEmpty then [] else [TestUnit.scratch]) ++
    (groups.map fun g => TestUnit.laneGroup (Fin.ofNat 8 g)) ++ [TestUnit.storage]
  let tested := q.filterMap resultEntry
  let s := (List.range 19).foldl (fun t e => if tested.contains e then t else t.setEntry .scrResults e (resNeverRun * 2 ^ 32)) s
  let s := (s.setObj .scrFailed 0).clearObj .scrScratchBad
  ({ s with scr := { s.scr with bootQueue := q, running := [], waiting := [] }, lanes := { s.lanes with rateFail := 0 },
            cal := { s.cal with sensorBad := 0 }, stk := { s.stk with selfTestFailed := false },
            pwr := { s.pwr with bandgapBad := false } }).showScreen

/-- Screen test has ended. -/
def State.screenEnded (s : State) : Bool := s.scr.bootQueue.isEmpty && s.eng.retest.isNone && s.engineDone 0 && s.engineDone 1

/-! ### The end of a test (R368, R370) -/

/-- SCREEN: the entry, the result and the failure map of a unit. -/
def State.raiseScreen (s : State) (entry res map : Nat) : State :=
  s.raise 0x86 2 (some .scrResults) ([b8 entry, b8 res, 0, 0] ++ toBytes 4 map)

/-- A result recorded, and an event for a failure. -/
def State.record (s : State) (e map : Nat) : State :=
  let s := s.setResult e (if map % 2 ^ 32 = 0 then resPassed else resFailed) map
  if map % 2 ^ 32 = 0 then s else s.raiseScreen e resFailed map

/-- Cells of a cluster after its test: failing ones FAILED, the others as at power-up (07, R180). -/
def State.testedCells (s : State) (k map : Nat) : State :=
  ((List.range 17).foldl (fun t i =>
      t.setEntry .arrCellState (17 * k + i) (if map.testBit i || map.testBit 17 then 2 else if i = 16 then 1 else 0)) s).clusterSpare k

/-- Marks of SCR_FAILED. -/
def State.markFailed (s : State) (m : Nat) : State := s.setObj .scrFailed (s.obj .scrFailed ||| m)

/-- An analogue check's limit (R363). -/
def analogPass (c v : Nat) : Bool :=
  let x := toSigned 16 v
  if c = 0 then -150 ≤ x && x ≤ 150 else if c ≤ 5 then v % 65536 ≤ 2000 else -24 ≤ x && x ≤ 24

/-- An analogue check: 0 bandgap, 1 to 3 the lane PLL at rate codes 0 to 2, 4 and 5 the ACLK and MCLK PLLs, 6 to 13 the sensors. -/
def State.analogDone (s : State) (c v : Nat) : State :=
  let ok := analogPass c v
  let s := s.setEntry .scrAnalog c (v % 65536 + ofBool ok * 2 ^ 16 + 2 ^ 17)
  if ok then s
  else
    let s := s.raiseScreen 0xFF resFailed c
    match c with
    | 0 => ({ s with pwr := { s.pwr with bandgapBad := true } }).markFailed (2 ^ 17 + 0xFF00)
    | 4 =>
      let s := (List.range 136).foldl (fun t x => if t.entry .arrCellState x = 4 then t else t.setEntry .arrCellState x 2) s
      (s.markFailed (2 ^ 16 + 0xFF)).emptyQueues
    | 5 => { s with pwr := { s.pwr with mclkStop := true } }
    | _ =>
      if c ≤ 3 then { s with lanes := { s.lanes with rateFail := setBit s.lanes.rateFail (c - 1) true } }
      else { s with cal := { s.cal with sensorBad := setBit s.cal.sensorBad (c - 6) true } }

/-- A unit's test ends: what it finds, and the unit's return to service. -/
def State.finishTest (s : State) (u : TestUnit) (map : Nat) (rows : List (Nat × Nat)) : State :=
  match u with
  | .cluster k =>
    let s := ((s.record k (map % 2 ^ 18)).testedCells k map)
    (if map.testBit 17 then s.markFailed (2 ^ k.val) else s).emptyQueues
  | .lane p =>
    let bits := 2 ^ (p.val % 9) + 2 ^ (9 + p.val % 9)
    let old := s.resultMap (8 + p / 9)
    let new := old - (old &&& bits) + (map &&& bits)
    let s := s.setResult (8 + p / 9) (if new = 0 then resPassed else resFailed) new
    (if map &&& bits = 0 then s else s.raiseScreen (8 + p / 9) resFailed new).loadTrims p s.rateNow
  | .laneGroup g =>
    let m := if map.testBit 18 then 2 ^ 19 - 1 else map % 2 ^ 18
    let s := (List.range 9).foldl (fun t i => t.loadTrims (9 * g + i) t.rateNow) (s.record (8 + g) m)
    if map.testBit 18 then s.markFailed (2 ^ (8 + g.val)) else s
  | .farTest g => s.record (8 + g) (map % 2 ^ 19)
  | .scratchUnit x =>
    let s := s.record 16 (ofBool (map != 0))
    if map = 0 then s else s.setEntry .scrScratchBad (x / 32) (setBit (s.entry .scrScratchBad (x / 32)) (x % 32) true)
  | .scratch =>
    let s := s.record 16 (ofBool (map % 2 ^ 128 != 0))
    (List.range 4).foldl (fun t i => t.setEntry .scrScratchBad i (t.entry .scrScratchBad i ||| field map (32 * i + 31) (32 * i))) s
  | .storageBank _ _ => rows.foldl (fun t r => t.spareRow r.1 r.2) (s.record 17 (ofBool !rows.isEmpty))
  | .storage => rows.foldl (fun t r => t.spareRow r.1 r.2) (s.record 17 (ofBool !rows.isEmpty))
  | .secureStore =>
    let s := s.record 18 (ofBool (map != 0))
    if map = 0 then s
    else (((({ s with stk := { s.stk with selfTestFailed := true } }).markFailed (2 ^ 18)).setObj .stkDigest 0).setObj .stkDigestState 0)
  | .analog c => s.analogDone c map

/-- TEST_DONE: a test in service or on request, or one of bring-up. -/
def execTestDone (u : TestUnit) (map : Nat) (rows : List (Nat × Nat)) (s : State) : Host.Outcome State Fault Refusal :=
  s.run fun s => s.whenOk (!s.scr.halted) fun s =>
    if s.scr.running.any fun r => r.test == u && r.on then
      let run := s.scr.running.filter fun (r : Running) => r.test != u
      ((({ s with scr := { s.scr with running := run } }).finishTest u map rows).startWaiting).showScreen
    else if s.bootRunning.contains u then
      ((({ s with scr := { s.scr with bootQueue := s.scr.bootQueue.erase u } }).finishTest u map rows).bootEngines).showScreen
    else s

/-! ### The rotation in service (R365) -/

/-- The rotation tests this unit. -/
def State.inRotation (s : State) (u : TestUnit) : Bool :=
  match u with
  | .cluster k => (s.obj .arrClusterEn).testBit k
  | .lane p => s.laneSpare p
  | .scratchUnit x => s.scratchFree x
  | .storageBank _ _ => true
  | _ => false

/-- SKIPPED: the entry keeps its time and map. -/
def State.skipTest (s : State) (u : TestUnit) : State :=
  match resultEntry u with
  | none => s
  | some e =>
    let s := s.setEntry .scrResults e (setField (s.entry .scrResults e) 39 32 resSkipped)
    (s.count .scrSkips 1).raiseScreen e resSkipped (s.resultMap e)

/-- FIELD_TEST_TURN. -/
def execFieldTestTurn (u : TestUnit) (taken : Bool) (s : State) : Host.Outcome State Fault Refusal :=
  s.run fun s => s.whenOk (s.seqRuns && s.linkActive && s.obj .scrFieldEn = 1 && s.inRotation u) fun s =>
    if !taken then s.skipTest u
    else if s.canIsolate u && !s.kindBusy u then (s.tryRun u).getD s
    else s

/-- POWER_ESTIMATE: the draw over the last 100 µs; scan shift stops while it passes P with the extras. -/
def execPowerEstimate (mW : Nat) (s : State) : Host.Outcome State Fault Refusal :=
  s.run fun s =>
    let boot := (s.bootRunning.map testExtra).sum
    let s : State := { s with scr := { s.scr with estimate := mW, halted := decide (s.maxPower < mW + s.extras + boot) } }
    (s.beginTests.startWaiting).showScreen

/-- SENSOR_REFERENCE_CHECK: every 10 s. -/
def execSensorReferenceCheck (g : Fin 8) (deviation : Int) (s : State) : Host.Outcome State Fault Refusal :=
  s.run fun s => s.whenOk (s.seqRuns && s.obj .scrFieldEn = 1) fun s => s.analogDone (6 + g) (ofSigned 16 deviation)

/-! ### Tests on request (R366) -/

/-- A test asked for: refused with ACCESS_DENIED where the unit cannot be isolated or a test of its kind runs. -/
def State.runTest (s : State) (u : TestUnit) : State × Nat :=
  if !s.canIsolate u || s.kindBusy u then (s, stDenied) else (s.runOrWait u, stOk)

/-- A write to SCR_RUN: unit code and index. -/
def State.writeScrRun (s : State) (code index : Nat) : State × Nat :=
  match code with
  | 1 => if index < 8 then s.runTest (.cluster (Fin.ofNat 8 index)) else (s, stDenied)
  | 2 => if index < 8 then s.runTest (.laneGroup (Fin.ofNat 8 index)) else (s, stDenied)
  | 3 => if index < 8 then s.runTest (.farTest (Fin.ofNat 8 index)) else (s, stDenied)
  | 4 =>
    if index = 0xFF then ({ s with scr := { s.scr with farRespond := none } }, stOk)
    else if index < 8 && s.farMay && !s.kindBusy (.farTest 0) && s.scr.farRespond.isNone then
      ({ s with scr := { s.scr with farRespond := some index } }, stOk)
    else (s, stDenied)
  | 5 =>
    if s.engState s.other = engStandby && s.eng.segTest.isNone && s.eng.retest.isNone then
      ({ s.setHealth s.other 31 24 0 with eng := { s.eng with segTest := some 0, nextSeg := 0, passRun := true } }, stOk)
    else (s, stDenied)
  | 6 => s.runTest .scratch
  | 7 => s.runTest .storage
  | 8 =>
    if s.kindBusy (.analog 0) then (s, stDenied)
    else
      let l := ((List.range 14).map fun c => TestUnit.analog (Fin.ofNat 14 c)).filter s.canIsolate
      (l.foldl (fun t u => t.runOrWait u) s, stOk)
  | _ => (s, stDenied)

/-- One write of a code and an index. -/
def State.scrRun (s : State) (code index : Nat) : State :=
  let x := s.writeScrRun code index
  x.1.reply x.2

def execScrRunCluster (r : Requester) (index : Nat) (s : State) : Host.Outcome State Fault Refusal := s.access r fun s => s.scrRun 1 index

def execScrRunLaneGroup (r : Requester) (index : Nat) (s : State) : Host.Outcome State Fault Refusal := s.access r fun s => s.scrRun 2 index

def execScrRunFarTest (r : Requester) (index : Nat) (s : State) : Host.Outcome State Fault Refusal := s.access r fun s => s.scrRun 3 index

def execScrRunFarRespond (r : Requester) (index : Nat) (s : State) : Host.Outcome State Fault Refusal := s.access r fun s => s.scrRun 4 index

def execScrRunStandin (r : Requester) (s : State) : Host.Outcome State Fault Refusal := s.access r fun s => s.scrRun 5 0

def execScrRunScratch (r : Requester) (s : State) : Host.Outcome State Fault Refusal := s.access r fun s => s.scrRun 6 0

def execScrRunSharedStorage (r : Requester) (s : State) : Host.Outcome State Fault Refusal := s.access r fun s => s.scrRun 7 0

def execScrRunAnalog (r : Requester) (s : State) : Host.Outcome State Fault Refusal := s.access r fun s => s.scrRun 8 0

end Sys2Proof.Machine
end

