-- ==== Sys2Proof/Machine/Images.lean ====
section
/-! DEFINITION. The script and scene images (15, R390, R391), the candidate that images make, its checks (15, R394; 03, R85, R86; 04,
R106, R111, R117; 06, R160, R161; 07, R185), and the script at a reset (15, R393). -/

namespace Sys2Proof.Machine

/-! ### Images (R390) -/

/-- One entry of an image: what it names and its data bytes. -/
structure ImageEntry where
  index : Nat
  sub : Nat
  off : Nat
  data : List Byte
  deriving DecidableEq, Repr

def imageLength (img : List Byte) : Nat := valAt img 4 4

/-- The check word at the end of an image is good. -/
def checkWordGood (img : List Byte) : Bool :=
  let n := imageLength img
  20 ≤ n && n ≤ img.length && crc32c (img.take (n - 4)) == valAt img (n - 4) 4

/-- n entries that fill some bytes exactly. -/
def parseEntries : Nat → List Byte → Option (List ImageEntry)
  | 0, bs => if bs.isEmpty then some [] else none
  | n + 1, bs =>
    let len := valAt bs 6 2
    let size := 8 + ceilDiv len 4 * 4
    if len = 0 || bs.length < size then none
    else (parseEntries n (bs.drop size)).map (⟨valAt bs 0 2, valAt bs 2 1, valAt bs 4 2, (bs.drop 8).take len⟩ :: ·)

def imageEntries (img : List Byte) : Option (List ImageEntry) := parseEntries (valAt img 2 2) ((img.take (imageLength img - 4)).drop 16)

/-- A header field breaks R390, or the image does not fit its place in the config store. -/
def State.headerBad (s : State) (script : Bool) (img : List Byte) : Bool :=
  valAt img 0 2 != (if script then 1 else 2) || (!script && 128 < valAt img 2 2) || (if script then 65536 else 8192) < imageLength img ||
    valAt img 8 1 != s.obj .mgtFamily || (valAt img 9 1 != 0xFF && valAt img 9 1 != s.aon.side)

/-! ### Entries (R391) -/

/-- Objects that only a scene may name. -/
def Obj.sceneOnly : Obj → Bool
  | .tclFlowTable => true
  | .tclGateVc1 => true
  | .tclGateVc2 => true
  | _ => false

/-- The entries of an object that a range of bytes holds whole: the first and how many. -/
def Obj.span (o : Obj) (off len : Nat) : Option (Nat × Nat) :=
  let l := o.row.layout
  if o.row.ty != .table then (if off = 0 && len = l.bytes then some (0, 1) else none)
  else
    let e := l.entryAt off
    let f := l.entryAt (off + len - 1)
    if 0 < len && off + len ≤ l.bytes && l.offset e = off && l.offset f + l.size f = off + len then some (e, f + 1 - e) else none

/-- A value that an entry of an object takes: object, entry, value. -/
structure Write where
  obj : Obj
  entry : Nat
  val : Nat
  deriving DecidableEq, Repr

/-- What an entry writes; none where R391 refuses its name or its range. -/
def ImageEntry.writes (x : ImageEntry) (script : Bool) : Option (List Write) :=
  match objAt x.index x.sub with
  | none => none
  | some o =>
    if !(o.row.access = .rw || o.row.access = .rwLocked) || (script && o.sceneOnly) then none
    else match o.span x.off x.data.length with
      | none => none
      | some (e, n) => some ((List.range n).map fun i =>
          ⟨o, e + i, o.fit (e + i) (valAt x.data (o.row.layout.offset (e + i) - x.off) (o.row.layout.size (e + i)))⟩)

/-- The valid values of an object on this instance: MGT_EVT_EN takes only 0 on an S-side one (R409). -/
def State.validHere (s : State) (o : Obj) (e v : Nat) : Bool := o.valid e v && (o != .mgtEvtEn || s.hSide || v = 0)

def State.entryGood (s : State) (script : Bool) (x : ImageEntry) : Bool :=
  match x.writes script with
  | none => false
  | some l => l.all fun w => s.validHere w.obj w.entry w.val

def ImageEntry.overlaps (x y : ImageEntry) : Bool :=
  x.index == y.index && x.sub == y.sub && x.off < y.off + y.data.length && y.off < x.off + x.data.length

/-- The first entry at fault; of two that overlap, the later one. -/
def State.badEntry (s : State) (script : Bool) (l : List ImageEntry) : Option Nat :=
  (l.zipIdx.find? fun x => !s.entryGood script x.1 || (l.take x.2).any fun y => y.overlaps x.1).map (·.2)

/-- Check 0x05 on one image: the entry at fault, 0xFF where none is (R394). -/
def State.entryFault (s : State) (script : Bool) (img : List Byte) : Option Nat :=
  if s.headerBad script img then some 0xFF
  else match imageEntries img with
    | none => some 0xFF
    | some l => (s.badEntry script l).map fun i => min i 0xFE

/-- Everything that a good image writes. -/
def imageWrites (script : Bool) (img : List Byte) : List Write :=
  ((imageEntries img).getD []).flatMap fun x => (x.writes script).getD []

/-! ### The candidate (R394) -/

/-- The state with the named objects at their factory defaults, and then some values over them. -/
def State.overlay (s : State) (named : Obj → Bool) (l : List Write) : State :=
  { s with dict := l.foldl (fun d w => d.put w.obj w.entry w.val) (s.dict.drop named) }

/-- Check 0x06: R85, R106 and R117. -/
def State.linkFault (c : State) : Bool :=
  let t := c.obj .phyLatTarget
  let h := c.obj .lnkXoffHeadroom
  let regions := c.entries .lnkVcRegion
  c.obj .phyWidthMax < c.obj .phyWidthMin || c.obj .lnkNakRepeat < 2 * t + 8 || h < 4 * (2 * t + 2) + 35 || regions.any (fun r => r < h + 36) ||
    4096 < regions.sum

/-- Check 0x06: the spill region's place, which a scene commit checks (R111). -/
def State.spillFault (c : State) : Bool :=
  if c.hSide then c.farSlate != 0 && field (c.obj .lnkSpillFa) 11 6 == field c.farFa 11 6
  else !c.spillInside (c.partEntry (c.obj .lnkSpillPart))

/-- A gate list that R161 refuses. -/
def State.gateFault (c : State) (vc : Nat) : Bool :=
  let p := c.gatePeriod vc
  let w := c.gateWindows vc
  c.gateCount vc != 0 && (!inRange 64 (2 ^ 20) p || c.lat.lcc + p < c.gateBase vc ||
    w.any (fun x => x.2 ≤ x.1 || p < x.2 || x.2 - x.1 ≤ ceilDiv 36 c.txF) || (w.zip (w.drop 1)).any fun x => x.2.1 < x.1.2)

/-- Check 0x07. -/
def State.classFault (c : State) : Bool :=
  (c.entries .tclBucketRate).any (fun v => !inRange 1 1024 v) || (c.entries .tclBucketBurst).any (fun v => !inRange 36 4096 v) ||
    c.obj .lnkSpillTc = 1 || c.obj .lnkSpillTc = 2 || c.obj .pktDrainRelayHold < c.obj .tclRelayTransit || c.gateFault 1 || c.gateFault 2

/-- The regions of the shared scratch: base unit and size. -/
def regionBase (v : Nat) : Nat := field v 15 8
def regionSize (v : Nat) : Nat := field v 7 0

/-- Queues that are bound. -/
def State.boundQueues (c : State) : List Nat := (List.range 64).filter fun q => qDepth (c.queueCfg q) != 0

/-- The first deadline queue whose STAGE takes the sum over the staging region. -/
def stageOver (region : Nat) (stage : Nat → Nat) : Nat → List Nat → Option Nat
  | _, [] => none
  | sum, q :: rest => if region < sum + stage q then some q else stageOver region stage (sum + stage q) rest

/-- The first failure of R185: code and queue. s is the state in force, c the candidate. -/
def State.arrayFault (s c : State) : Option (Nat × Nat) :=
  let r := c.obj .arrScratchRed
  let t := c.obj .arrScratchStage
  let cfg := c.queueCfg
  let bound := c.boundQueues
  let dl := bound.filter fun q => qDeadline (cfg q)
  let overlap := regionBase r < regionBase t + regionSize t && regionBase t < regionBase r + regionSize r
  let badField := bound.find? fun q =>
    qTc (cfg q) = 0 || qWeight (cfg q) = 0 || qMask (cfg q) = 0 || qMask (cfg q) &&& c.obj .arrClusterEn != qMask (cfg q)
  let badMask := dl.find? fun q => bound.any fun p =>
    p != q && qMask (cfg p) &&& qMask (cfg q) != 0 && (!qDeadline (cfg p) || qMask (cfg p) != qMask (cfg q))
  let badCap := dl.find? fun q => qCap (cfg q) = 0 || qStage (cfg q) = 0
  let overfull := stageOver (goodUnits c.scratchBad t) (fun q => qStage (cfg q)) 0 dl
  let busy := (List.range 64).find? fun q => s.queueCfg q != cfg q && !(s.inQueue q).isEmpty
  if overlap || 128 < regionBase r + regionSize r || 128 < regionBase t + regionSize t || accCapacity (goodUnits c.scratchBad r) = 0 then some (1, 0)
  else if (s.obj .arrScratchRed != r || s.obj .arrScratchStage != t) && !(s.arr.reductions.isEmpty && s.arr.descs.isEmpty) then some (2, 0)
  else if 1024 < (bound.map fun q => qDepth (cfg q)).sum then some (3, 0)
  else match badField, badMask, badCap, overfull, busy with
    | some q, _, _, _, _ => some (4, q)
    | none, some q, _, _, _ => some (5, q)
    | none, none, some q, _, _ => some (6, q)
    | none, none, none, some q, _ => some (6, q)
    | none, none, none, none, b => b.map fun q => (7, q)

/-! ### The script at a reset (R393) -/

/-- The check code that sends a reset to factory defaults, and the candidate where none does. -/
def State.scriptCode (s : State) : Nat × State :=
  let img := s.mgt.script
  if !checkWordGood img then (4, s)
  else if (s.entryFault true img).isSome then (5, s)
  else
    let w := imageWrites true img
    let c := s.overlay (fun o => w.any fun x => x.obj == o) w
    if c.linkFault then (6, s)
    else if c.classFault then (7, s)
    else match s.arrayFault c with
      | some (code, q) => (8, s.setObj .arrCheckResult (code + q * 2 ^ 8))
      | none => (0, c)

/-- R393, on objects that read their factory defaults. -/
def State.applyScript (s : State) : State :=
  let x := s.scriptCode
  let s := (x.2.setObj .mgtDefaultsUsed x.1).setObj .mgtScriptId (if x.1 = 0 then valAt s.mgt.script 12 4 else 0)
  if x.1 = 0 then s else (s.raise 0x04 1 (some .mgtDefaultsUsed) [b8 x.1]).faultRecord 0x9000 2 2 x.1

end Sys2Proof.Machine
end

