-- ==== Sys2Proof/Machine/Power.lean ====
section
/-! DEFINITION. Power domains (16, R415 to R417), resets (R418, R419; 15, R429), bring-up (R420, R421) and the firmware image (R422,
R423). -/

namespace Sys2Proof.Machine

/-! ### What a domain loses (15, R429) -/

/-- State and counter objects of a unit at their defaults. Applied trims and read points hold while the sequencer is away (13, R352). -/
def State.clearHolder (s : State) (h : Holder) : State :=
  { s with dict := s.dict.drop fun o => o.row.access = .ro && o.row.holder = h && o != .calTrimNow && o != .calDeskew }

/-- The microcode version of the loaded image (R422). -/
def State.ucodeVer (s : State) : Nat := if s.pwr.fwImage.isEmpty then 0 else valAt s.pwr.fwImage 10 2

/-- The cells as the loss of every cluster leaves them: a FAILED cell stays so until it passes a test (07, R180). -/
def State.cellsOff (s : State) (failed : List Nat) : State :=
  (List.range 136).foldl (fun t x => t.setEntry .arrCellState x (if failed.contains x then 2 else 4)) s

def State.failedCells (s : State) : List Nat := (List.range 136).filter fun x => s.entry .arrCellState x = 2

/-- Shared scratch and array control lose power with the last cluster (R415). -/
def State.arrayOff (s : State) : State :=
  let failed := s.failedCells
  let a : ArrayUnit := { State.reset.arr with nextDesc := s.arr.nextDesc, nextAccess := s.arr.nextAccess, submits := s.arr.submits,
                                              redIn := s.arr.redIn, clkFence := s.arr.clkFence }
  ((({ s with arr := a }).clearHolder .array).cellsOff failed).setObj .oprUcodeVer s.ucodeVer

/-- A cluster loses power: what its cells work on is worked on again. -/
def State.clusterOff (s : State) (k : Nat) : State :=
  let s := (s.abandonTests fun u => u == .cluster (Fin.ofNat 8 k)).switchDom (10 + k) false
  let mine := s.arr.work.filter fun w => w.1 / 17 == k
  let work := s.arr.work.filter fun w => w.1 / 17 != k
  let again := mine.filterMap fun w => match w.2 with
    | .redWr id p => some (id, p)
    | .tile _ _ => none
  let a : ArrayUnit := { s.arr with work := work, redAgain := again ++ s.arr.redAgain, gated := setBit s.arr.gated k false }
  let s := mine.foldl (fun (t : State) w => match w.2 with
    | .tile id n => match t.findDesc id with
      | some d => t.setDesc { d with rerun := natSort (n :: d.rerun) }
      | none => t
    | .redWr _ _ => t) { s with arr := a }
  let s := (s.clusterCells k false).emptyQueues
  if (List.range 8).any fun j => s.poweredDom (10 + j) then s else s.arrayOff

/-- SPORT loses power: on an S-side instance every outstanding stack command completes with DOMAIN_OFF (R417). -/
def State.sportOff (s : State) : State :=
  let s := if s.hSide then s.streamDown false
           else
             let s := s.abandonStack stDomainOff true
             { s with stk := { s.stk with up := false, lock := .off } }
  (s.switchDom 18 false).clearHolder .sport

/-- SEQ loses power (13, R352; 15, R400, R405). -/
def State.seqOff (s : State) : State := ((((s.seqStop).dropSeqLocks).switchDom 19 false).answerTakenOff).clearHolder .seq

/-- The link core is off: the link is down, own requests end, and everything that the core holds is gone (R416). -/
def State.coreOff (s : State) : State :=
  let s := ((s.linkDown downEngine).endOwn).clearHolder .core
  let r := State.reset
  let jobs := s.stk.jobs.map fun j => ({ j with settled := true } : Job)
  let owed := s.sp.ingOwed.zipIdx.map fun x => x.1 + ((s.sp.ingress.filter fun p => p.vc == x.2).map fun p => p.space).sum
  { s with sp := { s.sp with ingress := [], egress := [], sending := [none, none], ingOwed := owed }, rl := { r.rl with siblings := s.rl.siblings },
           tx := { r.tx with draws := s.tx.draws }, rx := r.rx, crossings := [], lanes := r.lanes, trn := { r.trn with lclkRate := s.trn.lclkRate, activeRate := s.trn.activeRate },
           lat := r.lat, pk := { r.pk with nextId := s.pk.nextId, nextMsgId := s.pk.nextMsgId, done := s.pk.done }, cls := r.cls,
           stk := { s.stk with jobs := jobs } }

/-- An engine's island is turned off by a write (R339 counts it as cycled). -/
def State.engineDown (s : State) (e : Nat) : State :=
  let retest := if s.eng.retest = some e then none else s.eng.retest
  let n : Engines := { s.eng with retest := retest, cycled := setBit s.eng.cycled e true }
  let n : Engines := if s.other = e then { n with store := [], held := none, fseq := none, chunk := 0, segTest := none, passRun := false } else n
  let was := s.linkCore
  let s := ({ s with eng := n }).engineOff e engOff
  if was && !s.linkCore then s.coreOff else s

/-- A domain turns off. -/
def State.domainOff (s : State) (d : Nat) : State :=
  if d ≤ 1 then s.engineDown d
  else if !s.poweredDom d then s
  else if d ≤ 9 then s.groupOff (d - 2)
  else if d ≤ 17 then s.clusterOff (d - 10)
  else if d = 18 then s.sportOff
  else s.seqOff

/-! ### Turning domains on and off (R415, R417) -/

/-- A domain may have power. -/
def State.mayPower (s : State) (d : Nat) : Bool :=
  (s.obj .pwrDomainCtrl).testBit d &&
    (if inRange 2 9 d then !(s.obj .phyGroupOff).testBit (d - 2) else !inRange 10 17 d || (s.obj .arrClusterEn).testBit (d - 10))

/-- Domains of a mask turned on, from step 2 of bring-up on. -/
def State.domainsOn (s : State) (m : Nat) : State :=
  if s.bringupStep < 2 then s
  else (List.range 20).foldl (fun t d => if m.testBit d && !t.poweredDom d && t.mayPower d then t.switchDom d true else t) s

/-- What a write may not turn off while the instance is not fenced. -/
def State.protects (s : State) (m : Nat) : Bool :=
  !s.fenced && ((m.testBit s.lead && s.engState s.lead = engLead) ||
    (s.linkUp && (List.range 8).any fun g => m.testBit (2 + g) && s.groupActive g) ||
    (List.range 8).any fun k => m.testBit (10 + k) && s.arr.descs.any fun d => (qMask (s.queueCfg d.queue)).testBit k)

/-- The domains of a mask turn off, in order. -/
def State.domainsOff (s : State) (m : Nat) : State := (List.range 20).foldl (fun t d => if m.testBit d then t.domainOff d else t) s

/-- A write of PWR_DOMAIN_CTRL. -/
def State.writeDomainCtrl (s : State) (v : Nat) : State × Nat :=
  let v := v % 2 ^ 20
  let old := s.obj .pwrDomainCtrl
  let off := old - (old &&& v)
  if s.protects off then (s, stDenied)
  else (((s.setObj .pwrDomainCtrl v).domainsOff off).domainsOn (v - (old &&& v)), stOk)

/-- PWR_DOMAIN_CTRL_WRITE. -/
def execPwrDomainCtrlWrite (r : Requester) (value : Nat) (s : State) : Host.Outcome State Fault Refusal :=
  s.access r fun s => if isSecure r then (let x := s.writeDomainCtrl value; x.1.reply x.2) else s.reply stDenied

/-- A write of PWR_CYCLE. -/
def State.writeCycle (s : State) (v : Nat) : State × Nat :=
  let v := v % 2 ^ 20
  if s.protects v then (s, stDenied) else ((s.domainsOff v).domainsOn v, stOk)

/-- PWR_CYCLE. -/
def execPwrCycle (r : Requester) (value : Nat) (s : State) : Host.Outcome State Fault Refusal :=
  s.access r fun s => let x := s.writeCycle value; x.1.reply x.2

/-- SPORT is ready: a port restart, which is also the one that waited (R427). -/
def State.sportReady (s : State) : State :=
  if s.streamCan then s.restartStream else if s.stackCan then s.restartStackPort else s

/-- What a domain does when it becomes ready. -/
def State.becomeReady (s : State) (d : Nat) : State :=
  if d ≤ 1 then
    (if s.bringupStep ≤ 2 then s
     else if s.bringupStep = 3 then s.bootEngines
     else if s.eng.retest.isNone && s.engState d = engOff then s.testEngine d else s)
  else if d ≤ 9 then s
  else if d ≤ 17 then (s.clusterCells (d - 10) true).clusterSpare (d - 10)
  else if d = 18 then s.sportReady
  else if s.pwr.mclkStop then s else s.seqStart

/-- DOMAIN_READY. -/
def execDomainReady (d : Fin 20) (s : State) : Host.Outcome State Fault Refusal :=
  s.run fun s => s.whenOk (s.poweredDom d && !s.readyDom d) fun s =>
    ({ s with pwr := { s.pwr with ready := setBit s.pwr.ready d true } }).becomeReady d

/-! ### The firmware image (R422, R423) -/

/-- n bytes of a table of U8 entries, from off on. -/
def State.tableSlice (s : State) (o : Obj) (off n : Nat) : List Byte := (List.range n).map fun i => b8 (s.entry o (off + i))

/-- The check code of a load with value 1 or 2. -/
def State.fwCode (s : State) (v : Nat) : Nat :=
  let h := s.tableSlice .pwrFwImage 0 20
  let n := valAt h 12 4
  let ucode := valAt h 10 2
  if valAt h 0 4 != 0x5A465701 then 1
  else if valAt h 4 1 != s.obj .mgtFamily || ucode = 0 then 2
  else if n % 4 != 0 || !inRange 32 65536 n || n < 24 + valAt h 16 4 then 3
  else
    let img := s.tableSlice .pwrFwImage 0 n
    if crc32c (img.take (n - 4)) != valAt img (n - 4) 4 then 4
    else if v = 2 && ucode != s.obj .oprUcodeVer && !s.arr.descs.isEmpty then 5
    else if (v = 1 && s.bringupStep != 2) || (v = 2 && s.pwr.fwImage.isEmpty) then 6
    else 0

/-- A load that passes. -/
def State.takeImage (s : State) : State :=
  let n := valAt (s.tableSlice .pwrFwImage 0 20) 12 4
  let img := s.tableSlice .pwrFwImage 0 n
  ((({ s with pwr := { s.pwr with fwImage := img } }).setObj .oprUcodeVer (valAt img 10 2)).setObj .pwrFwResult
    (2 ^ 8 + valAt img 8 2 * 2 ^ 16)).digestChange

/-- A write of 1: a failed check is bring-up's failure 0x01 until a load passes. -/
def State.fwLoad (s : State) : State :=
  let c := s.fwCode 1
  let failed := s.fld .pwrBringupState 15 8
  if c = 0 then s.takeImage.setFld .pwrBringupState 15 8 (if failed = 1 then 0 else failed)
  else (s.setFld .pwrFwResult 7 0 c).setFld .pwrBringupState 15 8 (if s.bringupStep = 2 && failed = 0 then 1 else failed)

/-- PWR_FW_LOAD. -/
def execPwrFwLoad (r : Requester) (s : State) : Host.Outcome State Fault Refusal :=
  s.access r fun s => if isSecure r then s.fwLoad.reply stOk else s.reply stDenied

/-- A write of 2: the sequencer stops, and starts from the new image. -/
def State.fwUpdate (s : State) : State :=
  let c := s.fwCode 2
  if c != 0 then s.setFld .pwrFwResult 7 0 c
  else
    let s := s.seqStop.takeImage
    if s.readyDom 19 && !s.pwr.mclkStop then s.seqStart else s

/-- FW_ONLINE_UPDATE. -/
def execFwOnlineUpdate (r : Requester) (s : State) : Host.Outcome State Fault Refusal :=
  s.access r fun s => if isSecure r then s.fwUpdate.reply stOk else s.reply stDenied

/-! ### Bring-up (R420, R421) -/

/-- Step 2 begins: the script, and then the domains get power. LCLK runs at the fastest rate allowed until training sets another.
Bring-up of an instance that is zeroised stops here. -/
def State.enterStep2 (s : State) : State :=
  let s := s.applyScript.setObj .pwrBringupState (2 + (if s.zeroised then 4 * 2 ^ 8 else 0))
  let r := (s.rateLeft (s.obj .phyRateMax)).getD 0
  ({ s with trn := { s.trn with lclkRate := r } }).domainsOn (2 ^ 20 - 1)

/-- The ring position, of L positions (15, R376). -/
def State.setRing (s : State) : State :=
  let l := Config.ringLength % 64 + 1
  s.setObj .mgtRingState (Config.ringPosition % l + (l % 64) * 2 ^ 8 + 2 ^ 16 + s.fld .mgtRingState 17 17 * 2 ^ 17)

/-- The condition on which a step ends. -/
def State.stepEnds (s : State) (n : Nat) : Bool :=
  match n with
  | 1 => true
  | 2 => !s.pwr.fwImage.isEmpty
  | 3 => s.screenEnded
  | 4 => 8 ≤ s.obj .phyTrnState || s.linkUp
  | 5 => s.linkActive
  | 6 => s.fa != 0xFFF
  | 7 => (s.entries (if s.epochNow = 0 then .pktRouteA else .pktRouteB)).any fun v => v != 0
  | 8 => s.hSide || (s.stk.parts.any (fun x => entryValid x.2) && s.stk.slots.any fun k => k.key0.isSome || k.key1.isSome)
  | 9 => s.obj .mgtSceneActive != 0
  | 10 => s.fa != 0xFFF && s.linkActive
  | _ => false

/-- The end of screen test: an engine leads, or bring-up stops with the instance fenced (R420 code 2). Training starts by itself where
PWR_AUTO_TRAIN says so. -/
def State.afterScreen (s : State) : State :=
  if s.engineLeads then
    let auto := s.fld .pwrBringupState 15 8 = 0 && s.obj .pwrAutoTrain = 1
    let s := s.setObj .pwrBringupState 4
    if auto then s.startTraining true else s
  else if s.fld .pwrBringupState 15 8 = 0 then (s.setFld .pwrBringupState 15 8 2).noEngine
  else s

/-- Step n ends. -/
def State.endStepOf (s : State) (n : Nat) : State :=
  let s := s.setEntry .pwrBringupTime (n - 1) (s.aon.rclk % 2 ^ 64)
  match n with
  | 1 => s.setRing.enterStep2
  | 2 => (s.setObj .pwrBringupState 3).startScreen
  | 3 => s.afterScreen
  | 10 => s
  | n => s.setObj .pwrBringupState (n + 1)

/-- BRINGUP_STEP. A zeroised instance stays at its step (R427). -/
def execBringupStep (n : Fin 11) (s : State) : Host.Outcome State Fault Refusal :=
  s.run fun s => s.whenOk (n.val = s.bringupStep && s.fld .pwrBringupState 15 8 != 4 && s.stepEnds n) fun s => s.endStepOf n

/-! ### Resets (R418, R419) -/

/-- Objects that keep their values at a domain reset (15, R429). -/
def Obj.kept (o : Obj) : Bool :=
  o = .redFence || o = .mgtSeal || o = .ageHistory || (o.row.access = .ro && o.row.holder = .aon)

/-- Steps 2 to 4: the link goes down, every domain but AON turns off, and bring-up runs from step 2. What the AON domain holds stays:
keys and active tables, locks of ranks 2 to 4, script and scenes, ring and mailboxes, event records, and what counts since AON
power-up. -/
def State.domainReset (s : State) : State :=
  let s := (((((s.linkDown downForced).endOwn).seqStop).dropSeqLocks).abandonTests fun _ => true).answerTakenOff
  let failed := s.failedCells
  let r := State.reset
  let differs := !(s.stk.parts.isEmpty && s.stk.access.isEmpty)
  let m : Mgmt := { s.mgt with commit := none, cfgFenced := false, seqLockWait := none }
  let t : State :=
    { r with pending := s.pending, aon := s.aon, dict := s.dict.drop fun o => !o.kept, sb := s.sb, mgt := m, free := s.free, outbox := s.outbox,
             rl := { r.rl with siblings := s.rl.siblings }, tx := { r.tx with draws := s.tx.draws }, trn := { r.trn with activeRate := s.trn.activeRate },
             pk := { r.pk with nextId := s.pk.nextId, nextMsgId := s.pk.nextMsgId, done := s.pk.done },
             stk := { r.stk with parts := s.stk.parts, access := s.stk.access, stagedDiffers := differs, boundsFenced := s.stk.boundsFenced,
                                 slots := s.stk.slots, downPins := s.stk.downPins, selfTestFailed := s.stk.selfTestFailed },
             arr := { r.arr with nextDesc := s.arr.nextDesc, nextAccess := s.arr.nextAccess, clkFence := s.arr.clkFence },
             eng := { r.eng with yields := s.eng.yields, rowErrs := s.eng.rowErrs, spared := s.eng.spared, cycled := 3 },
             scr := { r.scr with zeroCycled := s.scr.zeroCycled },
             pwr := { r.pwr with tap := s.pwr.tap, wrapper := s.pwr.wrapper, boundary := s.pwr.boundary, hclkStop := s.pwr.hclkStop,
                                 mclkStop := s.pwr.mclkStop } }
  let t := ((t.cellsOff failed).setObj .redEngState 0).setFld .redEngState 9 9 1
  let t := (((t.setObj .mgtSceneActive 0).setFld .mgtCommitResult 24 24 0).setFld .stkPartResult 31 31 (ofBool differs)).setFld .pwrFwResult 8 8 0
  (((t.setFld .pwrFwResult 31 16 0).count .pwrResetCount 1).digestChange).enterStep2

/-- A write of 1 to PWR_RESET: step 1 settles what the instance holds. It waits for a zeroisation that runs (R427), and where LCLK is not
confirmed the settlement is given up after 10 µs. -/
def State.writeReset (s : State) : State :=
  if s.obj .pwrReset = 1 then s
  else
    let s := s.setObj .pwrReset 1
    if s.obj .scrZeroise = 1 then { s with pwr := { s.pwr with resetWaits := true } }
    else if s.linkCore && s.fld .pwrClkState 1 0 != 0 then { s with pwr := { s.pwr with resetStep := 1 } }
    else (if s.linkCore then s.fenceSettle false else s).domainReset

/-- PWR_RESET. -/
def execPwrReset (r : Requester) (s : State) : Host.Outcome State Fault Refusal :=
  s.access r fun s => if isSecure r then s.writeReset.reply stOk else s.reply stDenied

/-- RESET_SETTLE_TIMEOUT: what is held completes by its requesters' timeouts. -/
def execResetSettleTimeout (s : State) : Host.Outcome State Fault Refusal :=
  s.run fun s => s.whenOk (s.pwr.resetStep = 1) fun s =>
    if s.obj .scrZeroise = 1 then { s with pwr := { s.pwr with resetStep := 0, resetWaits := true } } else s.domainReset

/-- AON_POWER_UP: everything clears, and the strap is sampled. What has left the block, and the model's own counts of drawings and free
values, go on. -/
def execAonPowerUp (strap : Bool) (s : State) : Host.Outcome State Fault Refusal :=
  .next { State.reset with pending := s.pending, aon := { State.reset.aon with side := ofBool strap }, free := s.free, outbox := s.outbox,
                           tx := { State.reset.tx with draws := s.tx.draws } }

/-- AON_POWER_LOSS (R427). -/
def execAonPowerLoss (s : State) : Host.Outcome State Fault Refusal := .next { s with aon := { s.aon with up := false } }

end Sys2Proof.Machine
end

