-- ==== Sys2Proof/Machine/Zeroise.lean ====
section
/-! DEFINITION. Zeroisation (14, R372, R373; 16, R427). -/

namespace Sys2Proof.Machine

/-- The secure store cleared: both keys and the write pointer of every slot, the active and the staged partition table. -/
def State.clearSecureStore (s : State) : State :=
  let s := s.clearObj .stkPartTable
  let differs := stagedAccess s != s.stk.access
  let s : State := { s with stk := { s.stk with slots := [], parts := [], boundsFenced := [], stagedDiffers := differs } }
  ((s.setFld .stkPartResult 31 31 (ofBool differs)).degrade).digestChange

/-- Every test is abandoned; the march of the key-slot memory is the one that runs (R373). -/
def State.stopTests (s : State) : State :=
  let s := s.abandonTests fun _ => true
  let e : Engines := { s.eng with retest := none, segTest := none, passRun := false, nextSeg := 0 }
  let march : Running := ⟨.secureStore, 0, 0, true⟩
  ({ s with eng := e, scr := { s.scr with running := [march], waiting := [], bootQueue := [], farRespond := none } }).showScreen

/-- The first steps of zeroisation: the fence, the link, the secure store. Every domain that has power has its clear to confirm, and
bring-up stops. -/
def State.zeroise (s : State) : State :=
  if s.obj .scrZeroise = 1 then s
  else
    let s := (s.setObj .scrZeroise 1).writeFence
    let s := ((s.linkDown downForced).stopTests).clearSecureStore
    let s : State := { s with scr := { s.scr with zeroWait := s.pwr.powered, zeroCycled := false } }
    if s.bringupStep < 10 then s.setFld .pwrBringupState 15 8 4 else s

/-- SCR_ZEROISE. -/
def execScrZeroise (r : Requester) (s : State) : Host.Outcome State Fault Refusal :=
  s.access r fun s => if isSecure r then s.zeroise.reply stOk else s.reply stDenied

/-- ZEROISE_CLEAR_TIMEOUT: a domain that has not confirmed within 2 ms is power-cycled, and counts as cleared. -/
def execZeroiseClearTimeout (d : Fin 20) (s : State) : Host.Outcome State Fault Refusal :=
  s.run fun s => s.whenOk (s.obj .scrZeroise = 1 && s.scr.zeroWait.testBit d) fun s =>
    let s : State := { s with scr := { s.scr with zeroWait := setBit s.scr.zeroWait d false, zeroCycled := true } }
    (s.domainOff d).domainsOn (2 ^ d.val)

/-- Every array and register that can hold plaintext, cleared: scratch and cells, shared storage and both state stores, the port queues,
the spill key. -/
def State.wipe (s : State) : State :=
  let r := State.reset
  let a : ArrayUnit := { r.arr with nextDesc := s.arr.nextDesc, nextAccess := s.arr.nextAccess, clkFence := s.arr.clkFence, gated := s.arr.gated }
  let pcs := s.stk.pcs.map fun c => ({ c with waiting := [], queue := [], outstanding := c.outstanding.map fun o => ({ o with data := zeros 64 } : StkOp) } : Pc)
  let done := s.pk.done.map fun d => ({ d with data := [] } : OwnDone)
  { s with arr := a, eng := { s.eng with store := [], held := none },
           tx := { s.tx with queue := [], retake := [], readBack := [], spillKey := none }, rx := { s.rx with queue := [], part := none, log := [] },
           pk := { s.pk with hold := r.pk.hold, own := [], ownWait := [], done := done },
           sp := { s.sp with ingress := [], egress := [], sending := [none, none] }, rl := { s.rl with ingress := [], egress := [] },
           stk := { s.stk with pcs := pcs, jobs := [] } }

/-- ZEROISE_DONE: every clear is confirmed, and the record is written. A domain reset that waited runs now. -/
def execZeroiseDone (s : State) : Host.Outcome State Fault Refusal :=
  s.run fun s => s.whenOk (s.obj .scrZeroise = 1 && !s.tests fun u => u == .secureStore) fun s =>
    let word := 1 + 2 * ofBool s.scr.zeroCycled
    let s := ((s.wipe.setObj .scrZeroise 0).setEntry .scrZeroRecord 0 (s.aon.rclk % 2 ^ 64)).setEntry .scrZeroRecord 1 word
    let s := ((s.raise 0x91 3 (some .scrZeroRecord) (toBytes 8 word)).faultRecord 0x8320 2 5 0)
    let s : State := { s with scr := { s.scr with zeroWait := 0 } }
    if s.pwr.resetWaits then s.domainReset else s

end Sys2Proof.Machine
end

