-- ==== Sys2Proof/Machine/Rules.lean ====
section
/-! DEFINITION. What a write of a configuration object does, by its chapter's rules: when it is refused (03, R85, R86; 05, R140, R152; 15,
R386, R411), and what it brings with it. Direct writes and scene commits share it (15, R395). -/

namespace Sys2Proof.Machine

/-- A write that leaves PIDX − CIDX above the ring's size (15, R411). -/
def State.cidxBad (s : State) (v : Nat) : Bool := s.obj .mgtEvtSize < (s.obj .mgtEvtPidx + 2 ^ 32 - v % 2 ^ 32) % 2 ^ 32

/-- A direct write or a commit of this value is refused: R140, R152, R411, and RW-locked objects under MGT_SEAL (R386). -/
def State.writeRefused (s : State) (o : Obj) (v : Nat) : Bool :=
  (o.row.access = .rwLocked && s.obj .mgtSeal != 0) || match o with
    | .pktFa => !s.idlePackets
    | .pktRouteA => s.epochNow = 0 || s.drain 0 != 0
    | .pktRouteB => s.epochNow = 1 || s.drain 1 != 0
    | .mgtEvtCidx => s.cidxBad v
    | _ => false

/-- A direct write is refused: R85 and R86, which a commit checks on its candidate. -/
def State.directRefused (s : State) (o : Obj) (v : Nat) : Bool :=
  match o with
  | .phyWidthMax => v < s.obj .phyWidthMin
  | .phyWidthMin => s.obj .phyWidthMax < v
  | .phyLatTarget => s.obj .lnkNakRepeat < 2 * v + 8 || s.obj .lnkXoffHeadroom < 4 * (2 * v + 2) + 35
  | _ => false

/-- An instance with a new FA: credits flow, its own requests start, and the far instance learns its slate (05, R139, R140). -/
def State.newFa (s : State) (v : Nat) : State := (((s.setObj .pktFa v).releaseCredits).wakeOwn).sendSlate

/-- A new route epoch: a change is counted, and this home's flows are walked again (06, R174), unless a commit walks them. -/
def State.newEpoch (s : State) (v : Nat) : State :=
  let old := s.epochNow
  let s := s.setObj .pktRouteActive v
  let s := if s.epochNow = old then s else s.count .pktRouteFlips 1
  let flows := (List.range 256).filter fun i => s.entry .tclFlowState i = 1 || s.entry .tclFlowState i = 2
  if s.epochNow = old || s.mgt.commit.isSome || flows.isEmpty then s
  else ({ s with cls := { s.cls with walk := some ⟨flows, false, true⟩ } }).askWalk flows

/-- A write of a port's lock object (02, R27, R29). -/
def State.writeLock (s : State) (p : Port) (v : Nat) : State := if v = 1 then s.enableLock p else (s.disableLock p).setObj (lockObj p) v

/-- A new PKT_SPORT_FCLK_DIV: out of range it takes the Stream Port down; in range the port comes up when the clock agrees (02, R35). -/
def State.newFclk (s : State) (v : Nat) : State :=
  let s := s.setObj .pktSportFclkDiv v
  if s.hSide && s.sp.up && !inRange 120 160 v then s.streamDown false else s

/-- New clusters (07, R182; 16, R415). -/
def State.newClusters (s : State) (v : Nat) : State :=
  let old := s.obj .arrClusterEn
  ((s.setObj .arrClusterEn v).domainsOff ((old - (old &&& v)) * 2 ^ 10)).domainsOn ((v - (old &&& v)) * 2 ^ 10)

/-- A new set of trim codes is used from the next training on (13, R346). -/
def State.newTrimSet (s : State) (e v : Nat) : State :=
  let old := s.entry .calTrimSets e
  let now := if s.cal.setsNow.any fun x => x.1 == e then s.cal.setsNow else s.cal.setsNow ++ [(e, old)]
  ({ s with cal := { s.cal with setsNow := now } }).setEntry .calTrimSets e v

/-- A value of a configuration object that is not refused takes effect, with the actions of its chapter. -/
def State.store (s : State) (o : Obj) (e v : Nat) : State :=
  match o with
  | .phyGroupOff => s.writeGroupOff v
  | .pktFa => s.newFa v
  | .pktRouteActive => s.newEpoch v
  | .pktSportLockEn => s.writeLock .stream v
  | .stkSportLockEn => s.writeLock .stack v
  | .pktRelayLockEn => s.writeLock .relay v
  | .pktSportFclkDiv => s.newFclk v
  | .arrClusterEn => s.newClusters v
  | .calTrimSets => s.newTrimSet e v
  | .lnkSpillEn => (s.setObj .lnkSpillEn v).whenOk s.linkUp fun t => t.showSpill
  | .calTrimOffset => let s := s.setEntry o e v; if s.seqRuns then s.settleTrims e else s
  | o => s.setEntry o e v

end Sys2Proof.Machine
end

