-- ==== Sys2Proof/Machine/Scenes.lean ====
section
/-! DEFINITION. Script and scene loads (15, R392), the scene commit (R394, R395; 06, R169 to R171), and complement faults (R396). -/

namespace Sys2Proof.Machine

/-- The requester holds lock 0 (R399, R402). -/
def State.holdsLock0 (s : State) (r : Requester) : Bool :=
  match s.mgt.locks.getD 0 none with
  | some x => rankOf x == rankOf r && gwOf x == gwOf r
  | none => false

/-! ### Loads (R392) -/

/-- The staged image: its LENGTH bytes. -/
def State.stagedImage (s : State) : List Byte := s.tableSlice .mgtImage 0 (min 65536 (imageLength (s.tableSlice .mgtImage 0 20)))

/-- The check code of a load and the entry at fault. slot is none for the script. -/
def State.loadCheck (s : State) (slot : Option Nat) (r : Requester) : Nat × Nat :=
  let active := match slot with
    | some n => (s.obj .mgtSceneActive).testBit n
    | none => false
  if s.mgt.commit.isSome || active then (1, 0xFF)
  else if !s.holdsLock0 r then (2, 0xFF)
  else if s.mgt.cfgFenced then (3, 0xFF)
  else if !checkWordGood s.stagedImage then (4, 0xFF)
  else match s.entryFault slot.isNone s.stagedImage with
    | some i => (5, i)
    | none => (0, 0)

/-- A load: the image replaces what is stored, or nothing changes. -/
def State.loadImage (s : State) (slot : Option Nat) (r : Requester) : State :=
  let x := s.loadCheck slot r
  if x.1 != 0 then s.setObj .mgtLoadResult (x.1 + x.2 * 2 ^ 8 + slot.getD 0xFF * 2 ^ 16)
  else
    let img := s.stagedImage
    let s := s.setObj .mgtLoadResult 0
    match slot with
    | some n => ({ s with mgt := { s.mgt with scenes := s.mgt.scenes.set n img } }).setFld .mgtSceneStored n n 1
    | none => (({ s with mgt := { s.mgt with script := img } }).setFld .mgtSceneStored 8 8 1).digestChange

/-- MGT_SCRIPT_LOAD. -/
def execMgtScriptLoad (r : Requester) (s : State) : Host.Outcome State Fault Refusal :=
  s.access r fun s => if isSecure r then (s.loadImage none r).reply stOk else s.reply stDenied

/-- MGT_SCENE_LOAD: a number above 7 is refused. -/
def execMgtSceneLoad (r : Requester) (n : Nat) (s : State) : Host.Outcome State Fault Refusal :=
  s.access r fun s => if isSecure r && n ≤ 7 then (s.loadImage (some n) r).reply stOk else s.reply stDenied

/-! ### The checks of a commit (R394) -/

/-- Scene numbers of a mask, ascending. -/
def scenesOf (m : Nat) : List Nat := (List.range 8).filter fun n => m.testBit n

def State.scene (s : State) (n : Nat) : List Byte := s.mgt.scenes.getD n []

/-- The images of a commit by their number in MGT_COMMIT_RESULT, the script first where one is stored. -/
def State.commitImages (s : State) (m : Nat) : List (Nat × List Byte) :=
  (if s.mgt.script.isEmpty then [] else [(0xFF, s.mgt.script)]) ++ (scenesOf m).map fun n => (n, s.scene n)

/-- A failing check: code, image and entry, as MGT_COMMIT_RESULT holds them. -/
structure CommitFault where
  code : Nat
  image : Nat
  entry : Nat
  deriving DecidableEq, Repr

def CommitFault.result (f : CommitFault) : Nat := f.code + f.image * 2 ^ 8 + f.entry * 2 ^ 16

/-- A failure that no image is at fault for. -/
def plainFault (code : Nat) : CommitFault := ⟨code, 0xFE, 0xFF⟩

/-- Objects that a commit gives values: those of the script and of every scene active before or in the mask. -/
def State.named (s : State) (m : Nat) : List Obj :=
  ((s.commitImages (m ||| s.obj .mgtSceneActive)).flatMap fun x => (imageWrites (x.1 = 0xFF) x.2).map fun w => w.obj).eraseDups

/-- The candidate: the state with all candidate values in its dictionary. -/
def State.withCandidate (s : State) (m : Nat) : State :=
  let l := s.named m
  s.overlay (fun o => l.contains o) ((s.commitImages m).flatMap fun x => imageWrites (x.1 = 0xFF) x.2)

/-- The candidate values that differ from those in force. -/
def State.changes (s c : State) (named : List Obj) : List Write :=
  named.flatMap fun o => (List.range o.row.layout.count).filterMap fun e =>
    if s.entry o e = c.entry o e then none else some ⟨o, e, c.entry o e⟩

/-- The first entry of an image that writes a value. -/
def writerOf (script : Bool) (img : List Byte) (w : Write) : Option Nat :=
  (((imageEntries img).getD []).zipIdx.find? fun x => ((x.1.writes script).getD []).any fun y => y.obj == w.obj && y.entry == w.entry).map (·.2)

/-- The image and the entry that a refused write comes from: the last image that holds it. -/
def State.blame (s : State) (m : Nat) (w : Write) : CommitFault :=
  match (s.commitImages m).reverse.findSome? fun x => (writerOf (x.1 = 0xFF) x.2 w).map fun i => (x.1, i) with
  | some (n, i) => ⟨5, n, min i 0xFE⟩
  | none => plainFault 5

/-- Checks 0x04 to 0x08. -/
def State.imageChecks (s : State) (m : Nat) : Option CommitFault :=
  let imgs := s.commitImages m
  match imgs.find? fun x => !checkWordGood x.2 with
  | some x => some ⟨4, x.1, 0xFF⟩
  | none =>
    match imgs.findSome? fun x => (s.entryFault (x.1 = 0xFF) x.2).map fun i => (⟨5, x.1, i⟩ : CommitFault) with
    | some f => some f
    | none =>
      let c := s.withCandidate m
      match (s.changes c (s.named m)).find? fun w => s.writeRefused w.obj w.val with
      | some w => some (s.blame m w)
      | none =>
        if c.linkFault || c.spillFault then some (plainFault 6)
        else if c.classFault then some (plainFault 7)
        else if (s.arrayFault c).isSome then some (plainFault 8)
        else none

/-- Checks 0x01 to 0x08 of a commit that starts. -/
def State.commitChecks (s : State) (m : Nat) (r : Requester) : Option CommitFault :=
  if s.mgt.commit.isSome then some (plainFault 1)
  else if !s.holdsLock0 r then some (plainFault 2)
  else if s.mgt.cfgFenced then some (plainFault 3)
  else s.imageChecks m

/-- A refusal: nothing changes but the results, the count and the event (R395). The running bit stays where another commit runs. -/
def State.refuseCommit (s : State) (m : Nat) (f : CommitFault) : State :=
  let s := s.setFld .mgtCommitResult 23 0 f.result
  let s := if f.code = 8 then (match s.arrayFault (s.withCandidate m) with
      | some (code, q) => s.setObj .arrCheckResult (code + q * 2 ^ 8)
      | none => s) else s
  (s.count .mgtCommitRefusals 1).raise 0x05 0 (some .mgtCommitResult) (toBytes 4 (s.obj .mgtCommitResult))

/-- A commit starts: what the table of R394 checks without the other instances is checked at once, and the flows of the candidate are
walked (06, R169). -/
def State.startCommit (s : State) (m : Nat) (r : Requester) : State :=
  match s.commitChecks m r with
  | some f => s.refuseCommit m f
  | none =>
    let c := s.withCandidate m
    let flows := c.flowsUsed
    let s : State := { s with mgt := { s.mgt with commit := some ⟨m⟩ }, cls := { s.cls with walk := some ⟨flows, false, false⟩ } }
    let s := (s.setObj .mgtSceneCommit m).setObj .mgtCommitResult (2 ^ 24)
    s.outs ((flows.map fun i => [Out.ask (c.queryOf i false), Out.ask (c.queryOf i true)]).flatten)

/-- MGT_SCENE_COMMIT. -/
def execMgtSceneCommit (r : Requester) (mask : Nat) (s : State) : Host.Outcome State Fault Refusal :=
  s.access r fun s => if isSecure r then (s.startCommit (mask % 256) r).reply stOk else s.reply stDenied

/-! ### The end of a commit (R395) -/

/-- The verdicts on some flows in index order; each is a candidate for those that follow. -/
def State.verdicts (s : State) (answers : List HopAnswer) : List Nat → List (Nat × Verdict)
  | [] => []
  | i :: rest => (i, s.verdict answers i) :: ((s.remember (s.queryOf i false)).remember (s.queryOf i true)).verdicts answers rest

/-- What the later flows of a walk add to the bound of flow i. -/
def addedTo (fa i : Nat) (l : List (Nat × Verdict)) : Nat :=
  ((l.filter fun x => i < x.1).flatMap fun x => x.2.hops.flatMap fun a => (a.rises.filter fun r => r.1 == fa && r.2.1 == i).map fun r => r.2.2).sum

/-- The first failure of R171: the flow and its verdict. -/
def State.admitFault (s : State) (l : List (Nat × Verdict)) : Option (Nat × Verdict) :=
  l.findSome? fun x =>
    let total := x.2.bound + addedTo s.fa x.1 l
    if x.2.code != 0 then some x
    else if fDeadline (s.flow x.1) < total then some (x.1, { x.2 with code := 0x0A, bound := total, fa := Machine.largestTerm s.fa 0 x.2.hops })
    else none

/-- The commit is over. -/
def State.closeCommit (s : State) : State :=
  let asked := s.cls.asked.filter fun (t : Transit) => t.q.home != s.fa
  ({ s with mgt := { s.mgt with commit := none }, cls := { s.cls with walk := none, asked := asked } }).setObj .mgtSceneCommit 0

/-- A commit that runs is refused. -/
def State.endRefused (s : State) (m : Nat) (f : CommitFault) : State := (s.closeCommit.setFld .mgtCommitResult 24 24 0).refuseCommit m f

/-- ADMISSION fails: the result, its event, and the instances that were asked forget the candidates. -/
def State.refuseAdmission (s c : State) (m i : Nat) (v : Verdict) (told : List Nat) : State :=
  let res := c.admitResult i v
  let s := (s.setObj .tclAdmitResult res).raise 0x52 0 (some .tclAdmitResult) (toBytes 16 res)
  (s.outs (told.map fun h => .tell h (.remove s.fa 256))).endRefused m (plainFault 9)

/-- This home's registrations go, here and on every path, before the flows of the commit are registered. -/
def State.clearFlows (s : State) : State :=
  (List.range 256).foldl (fun t i =>
    let hops := ((t.cls.paths.find? fun p => p.1 == i).map (·.2)).getD []
    let t := if t.entry .tclFlowState i = 1 || t.entry .tclFlowState i = 2 then (t.outs (hops.map fun h => .tell h (.remove t.fa i))).unregister t.fa i
             else t
    (t.setEntry .tclFlowState i 0).setEntry .tclFlowBound i 0) s

/-- Every candidate value takes effect, and what a change brings: full buckets (06, R159), gate lists (R162), execution times (07, R208). -/
def State.takeChanges (s : State) (l : List Write) : State :=
  let touched := fun (o : Obj) => l.any fun w => w.obj == o
  let s := l.foldl (fun t w => t.store w.obj w.entry w.val) s
  let s := if touched .tclBucketRate || touched .tclBucketBurst then s.fillBuckets else s
  let s := if touched .tclGateVc1 then s.startGate 1 else s
  let s := if touched .tclGateVc2 then s.startGate 2 else s
  if touched .arrQueueCfg || touched .arrClusterEn || touched .arrStackShare then s.showWcet else s

/-- A commit that passes. -/
def State.applyCommit (s : State) (m : Nat) (l : List Write) (verdicts : List (Nat × Verdict)) : State :=
  let s := (s.closeCommit.clearFlows).takeChanges l
  let s := verdicts.foldl (fun t x => t.admitFlow x.1 x.2) s
  ((((s.setObj .tclAdmitResult 0).setObj .mgtSceneActive m).setObj .mgtCommitResult 0).count .mgtCommits 1).digestChange

/-- The end of a commit: the checks hold still, and every flow is admitted. -/
def State.finishCommit (s : State) (m : Nat) (answers : List HopAnswer) : State :=
  match s.imageChecks m with
  | some f => s.endRefused m f
  | none =>
    let c := s.withCandidate m
    let l := c.verdicts answers c.flowsUsed
    let told := ((answers.map fun a => a.fa).eraseDups).filter fun f => f != s.fa
    match c.admitFault l with
    | some (i, v) => s.refuseAdmission c m i v told
    | none => s.applyCommit m (s.changes c (s.named m)) l

/-- COMMIT_DONE. It also ends the walk of a new route epoch (06, R174). -/
def execCommitDone (answers : List HopAnswer) (s : State) : Host.Outcome State Fault Refusal :=
  s.run fun s =>
    match s.cls.walk, s.mgt.commit with
    | some w, some c => s.finishCommit c.mask (if w.timedOut then [] else answers)
    | some w, none =>
      let asked := s.cls.asked.filter fun (t : Transit) => t.q.home != s.fa
      ({ s with cls := { s.cls with walk := none, asked := asked } }).rewalk (if w.timedOut then [] else answers) w.flows
    | none, some c => s.finishCommit c.mask answers
    | none, none => s

/-! ### Complement faults (R396) -/

/-- Index and sub-index of a complement-stored value. -/
def compName : CompValue → Nat × Nat
  | .txMap => (0x2010, 0x01)
  | .rxMap => (0x2010, 0x02)
  | .partBounds _ => (0x7000, 0x02)
  | .keySlot _ => (0x7200, 0x02)
  | .routeActive => (0x4010, 0x01)
  | .lock _ => (0x9020, 0x01)
  | .sceneActive => (0x9010, 0x06)

/-- The action of a mismatch. -/
def State.complementFault (s : State) (v : CompValue) : State :=
  match v with
  | .txMap => s.linkDown downMap
  | .rxMap => s.linkDown downMap
  | .partBounds p => s.fencePart p
  | .keySlot p => s.fenceSlot p
  | .routeActive => { s with pk := { s.pk with routeFenced := true } }
  | .lock n => { s with mgt := { s.mgt with lockFault := setBit s.mgt.lockFault n true } }
  | .sceneActive => { s with mgt := { s.mgt with cfgFenced := true } }

/-- COMPLEMENT_CHECK: a check finds that a value differs from its complement. -/
def execComplementCheck (v : CompValue) (s : State) : Host.Outcome State Fault Refusal :=
  s.run fun s =>
    let n := compName v
    let s := s.faultRecord n.1 n.2 1 0
    (s.raise 0x03 2 none (toBytes 4 (n.2 * 2 ^ 8 + n.1 * 2 ^ 16))).complementFault v

end Sys2Proof.Machine
end

