-- ==== Sys2Proof/Machine/Views.lean ====
section
/-! DEFINITION. What a read of an object finds (15, R385, R429): the views of state that the dictionary does not store, each as the table of
its chapter defines it, and the bytes of an object. -/

namespace Sys2Proof.Machine

/-! ### Views -/

/-- ARR_CLUSTER_STATE (07, R180). -/
def State.clusterView (s : State) : Nat := field s.pwr.powered 17 10 + s.arr.gated % 256 * 2 ^ 8 + s.deadlineMask % 256 * 2 ^ 16

/-- Entry i of RED_TABLE (09, R277). -/
def State.redEntry (s : State) (i : Nat) : Nat :=
  match s.arr.reductions.find? fun r => r.slot == i with
  | none => 0
  | some r =>
    packFields [(16, r.id), (8, r.part), (4, r.outFmt), (4, r.state), (16, r.contributors), (16, r.counted), (18, r.elements), (6, r.queue),
      (1, ofBool r.init), (1, ofBool r.poison)]

/-- PWR_DOMAIN_STATE (16, R416). -/
def State.domainView (s : State) : Nat := s.pwr.powered % 2 ^ 20 + ofBool s.linkCore * 2 ^ 20

/-- What bring-up waits for: 1 firmware, 2 the far instance, 3 the driver (16, R420). -/
def State.waitsFor (s : State) : Nat :=
  match s.bringupStep with
  | 2 => 1
  | 4 => if s.trn.running then 2 else 3
  | 6 => 3
  | 7 => 3
  | 8 => 3
  | 9 => 3
  | _ => 0

def State.bringupView (s : State) : Nat := setField (setField (s.obj .pwrBringupState) 3 0 s.bringupStep) 7 4 s.waitsFor

/-- Byte 15 of entry p of CAL_TRIM_NOW: STALE, stepping, measuring; the rejected bit is stored (13, R348, R349, R351). -/
def State.trimView (s : State) (p : Nat) : Nat :=
  let m := s.cal.recal == some p
  let v := setBit (setBit (s.entry .calTrimNow p) 120 (m || !s.seqRuns)) 122 m
  setBit v 121 (s.seqRuns && !m && s.linkCore && s.stepping p)

/-- Lane p's AGE_EYE entry is STALE (R351). -/
def State.eyeStale (s : State) (p : Nat) : Bool :=
  !s.seqRuns || s.cal.stale.testBit p || s.scr.running.any fun r => match r.test with
    | .laneGroup g => g.val == p / 9
    | .farTest g => g.val == p / 9
    | _ => false

/-- STATE, and the coverages of the test set (12, R336; 14, R362). -/
def State.healthView (s : State) (e : Nat) : Nat :=
  setField (setField (setField (s.entry .redHealth e) 63 48 9850) 47 32 9200) 7 0 (s.engState e)

/-- Entry n of MGT_LOCK_STATE: an owner code (15, R399). -/
def State.lockCode (s : State) (n : Nat) : Nat :=
  (match s.mgt.locks.getD n none with
    | some r => rankOf r + gwOf r % 4096 * 2 ^ 16
    | none => 0) + ofBool (s.mgt.lockFault.testBit n) * 2 ^ 31

/-- Partitions 32i to 32i + 31 that are fenced (11, R312). -/
def State.fencedView (s : State) (i : Nat) : Nat :=
  (List.range 32).foldl (fun m b => if s.partFenced (32 * i + b) then m + 2 ^ b else m) 0

/-- Open ordered requests of an epoch (05, R154). -/
def State.ordOpen (s : State) (e : Nat) : Nat := (s.pk.ordered.filter fun h => h.epoch == e).length

/-- Entries 4 to 11 of a port block are the current depths (06, R177). -/
def State.portView (s : State) (e : Egress) (i : Nat) : Nat := if inRange 4 11 i then s.depthUnits e (i - 4) else s.entry (portObj e) i

/-- Entry e of an object as a read finds it: computed where the state itself holds what the object shows. -/
def State.view (s : State) (o : Obj) (e : Nat) : Nat :=
  match o with
  | .mgtSide => s.aon.side
  | .pktSlate => (s.slate.getD e 0).toNat
  | .pktMsgOpen => s.msgOpen
  | .pktDrainA => s.drain 0
  | .pktDrainB => s.drain 1
  | .pktHoldUsed => (s.pk.hold.filterMap id).length
  | .pktOrdOpen => s.ordOpen e
  | .pktSportLatIn => s.streamLat
  | .pktSportLatOut => s.streamLat
  | .stkSportLatCmd => s.stackLat
  | .stkSportLatRsp => s.stackLat
  | .phyLcc => s.lat.lcc % 2 ^ 48
  | .lnkVcFree => s.regionFree e
  | .lnkRetakeFill => s.tx.retake.length
  | .lnkSpillFill => s.tx.spilled.length
  | .lnkRecordsUsed => s.crossings.length
  | .tclPortLink => s.portView .link e
  | .tclPortRelay => s.portView .relay e
  | .tclPortStream => s.portView .stream e
  | .arrClusterState => s.clusterView
  | .arrQueueFill => (s.inQueue e).length
  | .arrStageFree => s.stageFree
  | .arrAccCapacity => s.accCap
  | .arrOwnTags => (s.pk.own.filter fun r => 0x100 ≤ r.tag).length
  | .redOpen => s.arr.reductions.length
  | .redAccFree => s.accFree
  | .redTable => s.redEntry e
  | .stkPartFenced => s.fencedView e
  | .stkKwkId => s.kwkId
  | .stkKeyState => if s.sSide then (s.slot e).state else 0
  | .stkKcv => if s.sSide then (s.slot (e / 2)).kcv (e % 2) else 0
  | .redYieldCount => min 255 (s.recentYields e)
  | .redHealth => s.healthView e
  | .calTemp => setBit (s.entry .calTemp e) 16 (!s.seqRuns)
  | .calTrimNow => s.trimView e
  | .calDeskew => setBit (s.entry .calDeskew e) 8 (!s.seqRuns)
  | .calSeqState => setBit (s.obj .calSeqState) 0 s.seqRuns
  | .ageEye => setBit (s.entry .ageEye e) 16 (s.eyeStale e)
  | .ageRo => setBit (s.entry .ageRo e) 16 (!s.seqRuns || !s.readyDom (monitorDomain e))
  | .mgtLockState => s.lockCode e
  | .pwrDomainState => s.domainView
  | .pwrBringupState => s.bringupView
  | o => s.entry o e

/-! ### Bytes (R384) -/

/-- Bytes [base, base + n) of an object that start and end with entries e to e + k - 1; bytes between entries are zero. -/
def State.entryBytes (s : State) (o : Obj) (e k : Nat) : List Byte :=
  let l := o.row.layout
  let base := l.offset e
  (List.range k).foldl (fun (bs : List Byte) i =>
    bs ++ zeros (l.offset (e + i) - base - bs.length) ++ toBytes (l.size (e + i)) (s.view o (e + i))) []

/-- The whole object. -/
def State.viewBytes (s : State) (o : Obj) : List Byte := s.entryBytes o 0 o.row.layout.count

/-- The unit that holds a state or counter object has power (R429). -/
def State.holderOn (s : State) (o : Obj) : Bool :=
  o.row.access != .ro || match o.row.holder with
    | .aon => true
    | .core => s.linkCore
    | .sport => s.poweredDom 18
    | .array => field s.pwr.powered 17 10 != 0
    | .seq => s.poweredDom 19

end Sys2Proof.Machine
end

