-- ==== Sys2Proof/Machine/Dictionary.lean ====
section
/-! DEFINITION. Reads and writes of objects (15, R385 to R389, R429): captures, write buffers, the checks of a write, the objects that command
an action, the dictionary window (R387), and the rows that write one object. -/

namespace Sys2Proof.Machine

/-! ### The capture and the write buffer of each path (R388) -/

/-- The capture of a requester's path; the sequencer executes the mailbox commands, and its own accesses share their buffers. -/
def State.capture (s : State) (r : Requester) : Capture :=
  match r with
  | .port _ => s.mgt.capPort
  | .ring _ _ => s.mgt.capRing
  | .mailbox => s.mgt.capMbx
  | .sequencer => s.mgt.capMbx

def State.setCapture (s : State) (r : Requester) (c : Capture) : State :=
  match r with
  | .port _ => { s with mgt := { s.mgt with capPort := c } }
  | .ring _ _ => { s with mgt := { s.mgt with capRing := c } }
  | .mailbox => { s with mgt := { s.mgt with capMbx := c } }
  | .sequencer => { s with mgt := { s.mgt with capMbx := c } }

/-! ### Reads -/

/-- The status of an access at an offset of an object, before values are looked at (R46, R386, R389, R429): readable or writable for the
requester, powered, inside the object. -/
def State.accessCode (s : State) (o : Obj) (allowed : Bool) (off : Nat) : Nat :=
  worst [if s.holderOn o then stOk else stDomainOff, if allowed then stOk else stDenied, if off < o.row.layout.bytes then stOk else stRange]

/-- Who may read (R386). -/
def Obj.mayRead (o : Obj) (r : Requester) : Bool := o.row.access != .rwSecure || isSecure r

/-- An object that clears when it is read clears when it is captured (06, R176, R177). -/
def State.clearOnRead (s : State) (o : Obj) : State :=
  match o with
  | .tclQueueSamples => s.readSamples
  | .tclPortLink => s.readPort .link
  | .tclPortRelay => s.readPort .relay
  | .tclPortStream => s.readPort .stream
  | _ => s

/-- What a read of the word at an offset captures: the first byte and the bytes; none where it captures nothing. A small object is
captured whole at offset 0; of a large one, the entry whose first word is read, or the entries that share the word. -/
def State.newCapture (s : State) (o : Obj) (off : Nat) : Option (Nat × List Byte) :=
  let l := o.row.layout
  let e := l.entryAt off
  if l.bytes ≤ 1024 then (if off = 0 then some (0, s.viewBytes o) else none)
  else if l.size e < 4 then some (off, s.entryBytes o e (4 / l.size e))
  else if l.offset e = off then some (off, s.entryBytes o e 1)
  else none

/-- The word at a word offset inside an object, for a requester's path. -/
def State.readWord (s : State) (r : Requester) (o : Obj) (off : Nat) : State × List Byte :=
  let c := s.capture r
  match s.newCapture o off with
  | some (base, data) => ((s.setCapture r { c with obj := some o, base := base, data := data }).clearOnRead o, slice data 0 4)
  | none =>
    if c.obj = some o && c.base ≤ off && off < c.base + c.data.length then (s, slice c.data (off - c.base) 4)
    else
      let l := o.row.layout
      if l.bytes ≤ 1024 then (s, slice (s.viewBytes o) off 4)
      else (s, slice (s.entryBytes o (l.entryAt off) 1) (off - l.offset (l.entryAt off)) 4)

/-- n words from a word offset on; a write-only object reads zero (R386). -/
def State.readWords (s : State) (r : Requester) (o : Obj) (off : Nat) : Nat → State × List Byte
  | 0 => (s, [])
  | n + 1 =>
    let x := if o.row.access = .wo then (s, zeros 4) else s.readWord r o off
    let y := x.1.readWords r o (off + 4) n
    (y.1, x.2 ++ y.2)

/-- A read of len bytes of the object at an index and sub-index: status and bytes. Sub-index 0 of an index that holds objects is the
highest one present (R385). -/
def State.readObject (s : State) (r : Requester) (index sub off len : Nat) : State × Nat × List Byte :=
  let last := off + (max 1 len) - 1
  match objAt index sub with
  | none =>
    match (if sub = 0 then highestSub index else none) with
    | some h => if last / 4 * 4 = 0 then (s, stOk, slice [b8 h] off len) else (s, stRange, [])
    | none => (s, stDenied, [])
  | some o =>
    let st := s.accessCode o (o.mayRead r) (last / 4 * 4)
    if st != stOk then (s, st, [])
    else
      let x := s.readWords r o (off / 4 * 4) (last / 4 + 1 - off / 4)
      (x.1, stOk, slice x.2 (off % 4) len)

/-! ### Values that are written -/

/-- MGT_LOCK_FORCE: the locks of a mask are released and their faults cleared (R401). -/
def State.forceLocks (s : State) (m : Nat) : State :=
  let l := s.mgt.locks.zipIdx.map fun x => if m.testBit x.2 then none else x.1
  let f := (List.range 32).foldl (fun f n => if m.testBit n then setBit f n false else f) s.mgt.lockFault
  { s with mgt := { s.mgt with locks := l, lockFault := f } }

/-- An entry of a staged table; STK_PART_RESULT [31] shows that staged and active differ (11, R311). -/
def State.stageEntry (s : State) (o : Obj) (e v : Nat) : State :=
  let s := s.setEntry o e v
  let differs := stagedAccess s != s.stk.access || (s.sSide && stagedParts s != s.stk.parts)
  ({ s with stk := { s.stk with stagedDiffers := differs } }).setFld .stkPartResult 31 31 (ofBool differs)

/-- What an accepted value does: the action of an object that commands one, and else the value takes effect (R389). -/
def State.command (s : State) (r : Requester) (o : Obj) (e v : Nat) : State × Nat :=
  match o with
  | .phyTrnStart => if v = 1 then s.writeTrain else s.writeRetrain
  | .phyRxRetire => (s.retireRx v 4, stOk)
  | .lnkForceDown => (s.linkDown downForced, stOk)
  | .pktSportRestart => (s.writeStreamRestart, stOk)
  | .stkSportRestart => (s.writeStackRestart, stOk)
  | .tclRecheckRate => (s.startRecheck v, stOk)
  | .stkPartTable => (s.stageEntry o e v, stOk)
  | .stkAccessTable => (s.stageEntry o e v, stOk)
  | .stkPartApply => (s.applyParts, stOk)
  | .redFence => if v = 1 then (s.writeFence, stOk) else s.writeUnfence
  | .scrRun => s.writeScrRun (field v 7 0) (field v 15 8)
  | .scrZeroise => (s.zeroise, stOk)
  | .mgtSeal => (if v = 0 then s else s.setObj .mgtSeal v, stOk)
  | .mgtScriptLoad => (s.loadImage none r, stOk)
  | .mgtSceneLoad => (s.loadImage (some v) r, stOk)
  | .mgtSceneCommit => (s.startCommit v r, stOk)
  | .mgtLockForce => (s.forceLocks v, stOk)
  | .pwrClkRestart => ((s.whenOk (v.testBit 0) State.restartSeq).whenOk (v.testBit 1) State.restartArray, stOk)
  | .pwrDomainCtrl => s.writeDomainCtrl v
  | .pwrCycle => s.writeCycle v
  | .pwrReset => (s.writeReset, stOk)
  | .pwrFwLoad => (if v = 1 then s.fwLoad else s.fwUpdate, stOk)
  | o => (s.store o e v, stOk)

/-- A whole value written to entry e of an object: its class, its valid values and the conditions of its chapter, then its effect
(R386, R389). -/
def State.writeValue (s : State) (r : Requester) (o : Obj) (e v : Nat) : State × Nat :=
  let v := o.fit e v
  if !s.mayWrite o r || !s.validHere o e v || s.writeRefused o v || s.directRefused o v then (s, stDenied) else s.command r o e v

/-! ### Writes of words (R388) -/

/-- Bytes of a buffer laid over a value's bytes. -/
def overlayBytes (old : List Byte) (l : List (Nat × Byte)) : List Byte := l.foldl (fun b x => b.set x.1 x.2) old

/-- Some bytes of one word written at a byte offset: whole small entries change at once; a larger entry changes with the last word that
holds part of it, and bytes that were not written keep their values. -/
def State.writePiece (s : State) (r : Requester) (o : Obj) (off : Nat) (bytes : List Byte) : State × Nat :=
  let l := o.row.layout
  let e := l.entryAt off
  let size := l.size e
  let c := s.capture r
  if size < 4 then
    let s := s.setCapture r { c with wobj := none, wdata := [] }
    let last := l.entryAt (min (off + bytes.length) l.bytes - 1)
    (List.range (last + 1 - e)).foldl (fun (x : State × Nat) i =>
      let base := l.offset (e + i)
      let mine := (bytes.zipIdx.map fun b => (off + b.2, b.1)).filter fun b => base ≤ b.1 && b.1 < base + size
      let old := toBytes size (x.1.entry o (e + i))
      let y := x.1.writeValue r o (e + i) (ofBytes (overlayBytes old (mine.map fun b => (b.1 - base, b.2))))
      (y.1, worse x.2 y.2)) (s, stOk)
  else
    let base := l.offset e
    let held := if c.wobj = some o && c.wentry = e then c.wdata else []
    let data := held ++ bytes.zipIdx.map fun b => (off + b.2 - base, b.1)
    if off / 4 * 4 + 4 < base + size then (s.setCapture r { c with wobj := some o, wentry := e, wdata := data }, stOk)
    else (s.setCapture r { c with wobj := none, wdata := [] }).writeValue r o e (ofBytes (overlayBytes (toBytes size (s.entry o e)) data))

/-- Bytes written from an offset on, word by word; n bounds the words. -/
def State.writeGo (r : Requester) (o : Obj) : Nat → State → Nat → List Byte → State × Nat
  | 0, s, _, _ => (s, stOk)
  | n + 1, s, off, bytes =>
    if bytes.isEmpty then (s, stOk)
    else
      let k := 4 - off % 4
      let st := s.accessCode o (s.mayWrite o r) off
      let x := if st = stOk then s.writePiece r o off (bytes.take k) else (s, st)
      let y := State.writeGo r o n x.1 (off + k) (bytes.drop k)
      (y.1, worse x.2 y.2)

/-- A write of bytes to the object at an index and sub-index. Bytes past the end of a small object's word are the unused ones (R387). -/
def State.writeObject (s : State) (r : Requester) (index sub off : Nat) (bytes : List Byte) : State × Nat :=
  match objAt index sub with
  | none => (s, stDenied)
  | some o =>
    let size := o.row.layout.bytes
    let keep := if off < size && off + bytes.length ≤ ceilDiv size 4 * 4 then bytes.take (size - off) else bytes
    if bytes.isEmpty then (s, s.accessCode o (s.mayWrite o r) off) else State.writeGo r o (bytes.length + 1) s off keep

/-! ### The dictionary window (R387) -/

/-- DX_SEL_WRITE. -/
def execDxSelWrite (sec : Bool) (value : Nat) (s : State) : Host.Outcome State Fault Refusal :=
  s.access (.port sec) fun s =>
    let c : Capture := { s.mgt.capPort with obj := none, base := 0, data := [] }
    ({ s with mgt := { s.mgt with dxSel := field value 31 8 * 2 ^ 8, dxOffset := 0, capPort := c } }).reply stOk

def State.dxNext (s : State) : State := { s with mgt := { s.mgt with dxOffset := (s.mgt.dxOffset + 4) % 2 ^ 32 } }

/-- DX_DATA_READ. -/
def execDxDataRead (sec : Bool) (s : State) : Host.Outcome State Fault Refusal :=
  s.access (.port sec) fun s =>
    let x := s.readObject (.port sec) (field s.mgt.dxSel 31 16) (field s.mgt.dxSel 15 8) s.mgt.dxOffset 4
    x.1.dxNext.out (.reply x.2.1 (ofBytes x.2.2))

/-- DX_DATA_WRITE. -/
def execDxDataWrite (sec : Bool) (value : Nat) (s : State) : Host.Outcome State Fault Refusal :=
  s.access (.port sec) fun s =>
    let x := s.writeObject (.port sec) (field s.mgt.dxSel 31 16) (field s.mgt.dxSel 15 8) s.mgt.dxOffset (toBytes 4 value)
    x.1.dxNext.reply x.2

/-- OBJECT_WRITE. -/
def execObjectWrite (r : Requester) (index sub offset : Nat) (data : List Byte) (s : State) : Host.Outcome State Fault Refusal :=
  s.access r fun s => let x := s.writeObject r index sub offset data; x.1.reply x.2

/-! ### Rows that write one object -/

/-- A value written whole, and its status. -/
def State.writeWhole (s : State) (r : Requester) (o : Obj) (e v : Nat) : State := let x := s.writeValue r o e v; x.1.reply x.2

/-- PKT_FA_WRITE (05, R140). -/
def execPktFaWrite (r : Requester) (value : Nat) (s : State) : Host.Outcome State Fault Refusal :=
  s.access r fun s => s.writeWhole r .pktFa 0 value

/-- ROUTE_ACTIVE_WRITE (05, R150). -/
def execRouteActiveWrite (r : Requester) (value : Nat) (s : State) : Host.Outcome State Fault Refusal :=
  s.access r fun s => s.writeWhole r .pktRouteActive 0 value

/-- ROUTE_TABLE_WRITE (05, R152): an entry of table A or B. -/
def execRouteTableWrite (r : Requester) (table : Fin 2) (die : Fin 64) (value : Nat) (s : State) : Host.Outcome State Fault Refusal :=
  s.access r fun s => s.writeWhole r (if table = 0 then .pktRouteA else .pktRouteB) die value

/-- TCL_RECHECK_RATE (06, R175). -/
def execTclRecheckRate (r : Requester) (value : Nat) (s : State) : Host.Outcome State Fault Refusal :=
  s.access r fun s => s.writeWhole r .tclRecheckRate 0 value

/-- STK_PART_APPLY (11, R311). -/
def execStkPartApply (r : Requester) (s : State) : Host.Outcome State Fault Refusal :=
  s.access r fun s => s.writeWhole r .stkPartApply 0 1

/-- MGT_LOCK_FORCE (R401). -/
def execMgtLockForce (r : Requester) (value : Nat) (s : State) : Host.Outcome State Fault Refusal :=
  s.access r fun s => s.writeWhole r .mgtLockForce 0 value

/-- MGT_SEAL (R414). -/
def execMgtSeal (r : Requester) (value : Nat) (s : State) : Host.Outcome State Fault Refusal :=
  s.access r fun s => s.writeWhole r .mgtSeal 0 value

/-- MGT_EVT_CIDX_WRITE (R411). -/
def execMgtEvtCidxWrite (r : Requester) (value : Nat) (s : State) : Host.Outcome State Fault Refusal :=
  s.access r fun s => s.writeWhole r .mgtEvtCidx 0 value

/-! ### The mailbox commands (R407) -/

/-- A message's reply, where the sequencer still holds the message after its command. -/
def State.replySeq (s : State) (t : Taken) (st : Nat) (rest : List Byte) : State :=
  s.whenOk (s.mgt.taken.contains t) fun s => s.replyTaken t st (seqReply t.msg st rest)

/-- OBJ_READ. -/
def execObjRead (s : State) : Host.Outcome State Fault Refusal :=
  s.run fun s =>
    match s.seqMsg 2 with
    | none => s
    | some t =>
      let x := s.readObject .mailbox (valAt t.msg 4 2) (valAt t.msg 6 1) (valAt t.msg 8 2) (valAt t.msg 10 2)
      x.1.replySeq t x.2.1 x.2.2

/-- OBJ_WRITE. -/
def execObjWrite (s : State) : Host.Outcome State Fault Refusal :=
  s.run fun s =>
    match s.seqMsg 3 with
    | none => s
    | some t =>
      let x := s.writeObject .mailbox (valAt t.msg 4 2) (valAt t.msg 6 1) (valAt t.msg 8 2) ((t.msg.drop 16).take (valAt t.msg 10 2))
      x.1.replySeq t x.2 []

end Sys2Proof.Machine
end

