-- ==== Sys2Proof/Machine/Ring.lean ====
section
/-! DEFINITION. Locks (15, R398 to R401), ring messages at their target, on their way and back at their origin (15, R377 to R379), the broken
loop (R382), and the ring gateway (R381). -/

namespace Sys2Proof.Machine

/-! ### Locks -/

/-- A read of lock n: it acquires a lock that is free and not faulted, and returns 0 then, else the owner code (R398, R401). -/
def State.readLock (s : State) (r : Requester) (n : Nat) : State × Nat :=
  if s.lockCode n = 0 then ({ s with mgt := { s.mgt with locks := s.mgt.locks.set n (some r) } }, 0) else (s, s.lockCode n)

/-- A write of lock n: its owner, by rank and GW, releases it; a faulted lock stays (R399, R401). -/
def State.freeLock (s : State) (r : Requester) (n : Nat) : State × Nat :=
  match s.mgt.locks.getD n none with
  | some o =>
    if rankOf o = rankOf r && gwOf o = gwOf r && !s.mgt.lockFault.testBit n then
      ({ s with mgt := { s.mgt with locks := s.mgt.locks.set n none } }, stOk)
    else (s, stDenied)
  | none => (s, stDenied)

/-- LOCK_READ. -/
def execLockRead (r : Requester) (n : Fin 32) (s : State) : Host.Outcome State Fault Refusal :=
  s.access r fun s => let x := s.readLock r n; x.1.out (.reply stOk x.2)

/-- LOCK_RELEASE. -/
def execLockRelease (r : Requester) (n : Fin 32) (s : State) : Host.Outcome State Fault Refusal :=
  s.access r fun s => let x := s.freeLock r n; x.1.reply x.2

/-! ### A request at its target (R377, R378, R412) -/

/-- The first n bytes of PATH in reverse order. -/
def reversePath (m : List Byte) (n : Nat) : List Byte := ((m.drop 4).take n).reverse

/-- A request turned into its reply in place: NEXT 0, the hops in reverse order. n hops are left of the path. -/
def ringReplyOf (m : List Byte) (n st : Nat) (data : List Byte) : List Byte :=
  let path := slice (reversePath (slice m 0 24) n ++ (m.drop (4 + n)).take (12 - n)) 0 12
  [b8 ((rKind m + 0x80) % 256), b8 st, b8 (n * 16), b8 (valAt m 3 1)] ++ path ++ slice m 16 5 ++ [b8 data.length] ++ slice m 22 2 ++ data

/-- An EVENT at this instance: placed, or dropped and counted. An instance that is no event gateway places none. -/
def State.placeEvent (s : State) (m : List Byte) : State × Nat :=
  if !s.evtGateway then (s, stRefused)
  else
    let t := s.queueEvent (EventRec.ofBytes (rData m))
    (t, if t.mgt.events.length = s.mgt.events.length then stRefused else stOk)

/-- What a request does at its target: the state, the status, and the reply's data. -/
def State.ringTarget (s : State) (r : Requester) (m : List Byte) : State × Nat × List Byte :=
  match rKind m with
  | 1 => s.readObject r (rIndex m) (rSub m) (rOffset m) (rLen m)
  | 2 => let x := s.writeObject r (rIndex m) (rSub m) (rOffset m) (rData m); (x.1, x.2, [])
  | 3 => if 31 < rIndex m then (s, stDenied, []) else (let x := s.readLock r (rIndex m); (x.1, stOk, toBytes 4 x.2))
  | 4 => if 31 < rIndex m then (s, stDenied, []) else (let x := s.freeLock r (rIndex m); (x.1, x.2, []))
  | _ => if rLen m = 32 then (let x := s.placeEvent m; (x.1, x.2, [])) else (s, stMalformed, [])

/-! ### A reply at its origin -/

/-- The record in flight is delivered: the store forgets it, a return to the ring is made, and the next record starts (R412). -/
def State.recordDelivered (s : State) : State :=
  let s : State := { s with mgt := { s.mgt with events := s.mgt.events.drop 1, evtTries := 0, evtProbe := false } }
  (s.setFld .mgtEvtMode 2 0 1).nextRecord

/-- The gateway's exchange ends (R381). -/
def State.endGateway (s : State) (st : Nat) (m : Option (List Byte)) : State :=
  { s with mgt := { s.mgt with gwBusy := false, gwReady := m.isSome, gwStatus := st, gwReply := (m.map fun x => slice x 0 56).getD s.mgt.gwReply } }

/-- A reply at its originating node: delivered where TAG matches an outstanding request, else discarded (R378). Of the replies to an EVENT,
only the gateway's OK and QUEUE_REFUSED end the delivery. -/
def State.ringDeliver (s : State) (m : List Byte) : State :=
  let st := valAt m 1 1
  if rKind m = 0x85 && s.mgt.evtTries != 0 && rTag m = s.mgt.ringTagEvt then
    (if st = stOk || st = stRefused then s.recordDelivered else s)
  else if s.mgt.gwBusy && rTag m = s.mgt.gwTag then s.endGateway st (some m)
  else s

/-! ### Hops -/

/-- A reply starts back, or is already home. One that cannot go on is lost. -/
def State.sendBack (s : State) (m : List Byte) : State :=
  if rNext m = rNhops m then s.ringDeliver m else if (s.hopFault m).isSome then s else s.emitHop m

/-- A message that is not at its target executes its next hop; a request whose hop cannot be executed is answered from here (R379). -/
def State.ringHop (s : State) (m : List Byte) : State :=
  match s.hopFault m with
  | none => s.whenOk (rNext m < rNhops m) fun s => s.emitHop m
  | some st => if rIsReply m then s else s.sendBack (ringReplyOf m (min 12 (rNext m)) st [])

/-- A request of one kind at its target, from a gateway whose PKT_FA is gw. -/
def State.ringRequest (s : State) (kind gw : Nat) (m : List Byte) : State :=
  s.whenOk (24 ≤ m.length && rKind m = kind && rNext m = rNhops m && !rMalformed m) fun s =>
    let x := s.ringTarget (.ring gw (rSec m)) m
    x.1.sendBack (ringReplyOf m (rNhops m) x.2.1 x.2.2)

/-- RING_READ. -/
def execRingRead (_ : RingInput) (msg : List Byte) (s : State) : Host.Outcome State Fault Refusal := s.run fun s => s.ringRequest 1 0 msg

/-- RING_WRITE. -/
def execRingWrite (gw : Nat) (_ : RingInput) (msg : List Byte) (s : State) : Host.Outcome State Fault Refusal :=
  s.run fun s => s.ringRequest 2 (gw % 4096) msg

/-- RING_LOCK. -/
def execRingLock (gw : Nat) (_ : RingInput) (msg : List Byte) (s : State) : Host.Outcome State Fault Refusal :=
  s.run fun s => s.ringRequest 3 (gw % 4096) msg

/-- RING_UNLOCK. -/
def execRingUnlock (gw : Nat) (_ : RingInput) (msg : List Byte) (s : State) : Host.Outcome State Fault Refusal :=
  s.run fun s => s.ringRequest 4 (gw % 4096) msg

/-- RING_EVENT. -/
def execRingEvent (_ : RingInput) (msg : List Byte) (s : State) : Host.Outcome State Fault Refusal := s.run fun s => s.ringRequest 5 0 msg

/-- RING_HOP. -/
def execRingHop (_ : RingInput) (msg : List Byte) (s : State) : Host.Outcome State Fault Refusal :=
  s.run fun s => s.whenOk (24 ≤ msg.length && (rNext msg != rNhops msg || rMalformed msg)) fun s => s.ringHop msg

/-- RING_REPLY. -/
def execRingReply (_ : RingInput) (msg : List Byte) (s : State) : Host.Outcome State Fault Refusal :=
  s.run fun s => s.whenOk (24 ≤ msg.length && rIsReply msg && rNext msg = rNhops msg && !rMalformed msg) fun s => s.ringDeliver msg

/-! ### The broken loop (R382) -/

/-- RING_BROKEN. -/
def execRingBroken (s : State) : Host.Outcome State Fault Refusal :=
  s.run fun s => s.whenOk (s.fld .mgtRingState 17 17 = 0) fun s =>
    (s.setFld .mgtRingState 17 17 1).raise 0x02 1 (some .mgtRingState) [b8 (s.fld .mgtRingState 5 0), b8 s.ringLen]

/-- RING_RESTORED. -/
def execRingRestored (s : State) : Host.Outcome State Fault Refusal := s.run fun s => s.setFld .mgtRingState 17 17 0

/-! ### The ring gateway (R381) -/

/-- The request as the gateway sends it: SEC and TAG are the gateway's; a READ carries no data. -/
def State.gatewayMsg (s : State) (sec : Bool) : List Byte :=
  let m := s.mgt.gwReq
  let flags := setBit (valAt m 3 1) 0 sec
  let m := splice (splice m 3 [b8 flags]) 16 (toBytes 2 s.mgt.gwTag)
  slice m 0 (24 + if rKind m = 1 then 0 else min 32 (rLen m))

/-- A send: the exchange begins; with NHOPS 0 this instance executes the request itself. -/
def State.gatewaySend (s : State) (sec : Bool) : State :=
  let s : State := { s with mgt := { s.mgt with gwBusy := true, gwReady := false, gwTag := (s.mgt.gwTag + 1) % 65536 } }
  let m := s.gatewayMsg sec
  if rIsReply m then s
  else if rNext m = rNhops m && !rMalformed m then s.ringRequest (rKind m) s.fa m
  else s.ringHop m

/-- GATEWAY_SEND: a write to GW_CTRL. -/
def execGatewaySend (sec : Bool) (value : Nat) (s : State) : Host.Outcome State Fault Refusal :=
  s.access (.port sec) fun s =>
    if !s.hSide then s.reply stOk
    else if s.mgt.gwBusy then s.reply stRefused
    else (s.whenOk (value.testBit 0) fun s => s.gatewaySend sec).reply stOk

/-- GATEWAY_REQUEST_WRITE: a word of the request message. -/
def execGatewayRequestWrite (sec : Bool) (offset value : Nat) (s : State) : Host.Outcome State Fault Refusal :=
  s.access (.port sec) fun s =>
    if !s.hSide || 56 ≤ offset then s.reply stOk
    else if s.mgt.gwBusy then s.reply stRefused
    else ({ s with mgt := { s.mgt with gwReq := splice s.mgt.gwReq (offset / 4 * 4) (toBytes 4 value) } }).reply stOk

/-- GATEWAY_TIMEOUT. -/
def execGatewayTimeout (s : State) : Host.Outcome State Fault Refusal :=
  s.run fun s => s.whenOk s.mgt.gwBusy fun s => s.endGateway stTimeout none

end Sys2Proof.Machine
end

