-- ==== Sys2Proof/Machine/Dailies.lean ====
section
/-! DEFINITION. The dailies ring (15, R409 to R411) and the delivery of records by ring and in band (15, R412). -/

namespace Sys2Proof.Machine

/-! ### The record that is written next -/

/-- The gateway's ring has room (R411). -/
def State.ringRoom (s : State) : Bool := s.evtHeld < s.obj .mgtEvtSize

/-- When records were dropped and space is there, the next record written is OVERFLOW, and the count resets (R411). -/
def State.overflowRecord (s : State) : State :=
  let n := s.obj .mgtEvtDropped
  if n = 0 then s
  else
    let seq := s.fld .mgtEvtMode 15 8
    let r : EventRec := { type := 0x01, sev := 1, src := s.fa, seq := seq, rclk := s.aon.rclk,
                          obj := Obj.mgtEvtDropped.row.index * 65536 + Obj.mgtEvtDropped.row.sub * 256, payload := slice (toBytes 4 n) 0 16 }
    let s : State := { s with mgt := { s.mgt with events := r :: s.mgt.events } }
    (s.setFld .mgtEvtMode 15 8 (seq + 1)).setObj .mgtEvtDropped 0

/-- A one-sector write of this instance's own for its records. -/
def State.recordPacket (s : State) (dst addr : Nat) (sector : List Byte) : Packet :=
  ⟨ownHdr tWrReq dst addr 0 (s.obj .mgtEvtPart) (s.obj .mgtEvtTc) 2, slice sector 0 64, []⟩

/-- The sector that holds slot k with record r in it: the other slot holds the earlier record of the pair, or NULL (R409). -/
def State.recordSector (s : State) (k : Nat) (r : EventRec) : List Byte :=
  if k % 2 = 0 then r.bytes ++ EventRec.null.bytes else s.mgt.pairOld.bytes ++ r.bytes

/-- The oldest record is written: into its slot by the event gateway, into the fallback area in in-band mode. -/
def State.writeRecord (s : State) : State :=
  match s.mgt.events with
  | [] => s
  | r :: _ =>
    let s : State := { s with mgt := { s.mgt with recWriting := true, recRetry := false } }
    let i := s.obj .mgtEvtPidx
    let k := i % max 1 (s.obj .mgtEvtSize)
    if s.evtGateway then
      s.issueOwn (.eventWrite i) (s.recordPacket (s.obj .mgtEvtFa) ((s.obj .mgtEvtBase + k / 2) % 2 ^ 40) (s.recordSector k r))
    else s.issueOwn .eventInBand (s.recordPacket (s.obj .mgtEvtFbFa) ((s.obj .mgtEvtFbBase + r.seq % 16) % 2 ^ 40) r.bytes)

/-- A record of the gateway's, or of an instance in in-band mode that has a fallback area, may be written now. -/
def State.mayRecord (s : State) : Bool :=
  !s.mgt.recWriting && s.mgt.evtTries = 0 &&
    (if s.evtGateway then s.ringRoom else s.evtInBand && !s.mgt.evtProbe && s.obj .mgtEvtFbFa != 0xFFF)

/-- EVENT_RECORD_WRITE. -/
def execEventRecordWrite (s : State) : Host.Outcome State Fault Refusal :=
  s.run fun s => s.whenOk (s.mayRecord && !s.mgt.recRetry) fun s => (if s.evtGateway then s.overflowRecord else s).writeRecord

/-- A record is in its slot or its fallback sector: PIDX advances, and the pair remembers it (R409, R410). -/
def State.recordWritten (s : State) (gateway : Bool) : State :=
  let old := s.mgt.events.headD EventRec.null
  let m : Mgmt := { s.mgt with events := s.mgt.events.drop 1, recWriting := false, pairOld := if gateway then old else s.mgt.pairOld,
                               pstateDue := s.mgt.pstateDue || gateway }
  let s : State := { s with mgt := m }
  if gateway then s.setObj .mgtEvtPidx ((s.obj .mgtEvtPidx + 1) % 2 ^ 32) else s

/-- A record write failed: it is counted, and written again after 100 µs. -/
def State.recordFailed (s : State) : State :=
  ({ s with mgt := { s.mgt with recWriting := false, recRetry := true } }).count .mgtEvtWriteErrs 1

/-- EVENT_WRITE_DONE: the completion of the record write that is outstanding. -/
def execEventWriteDone (status : Nat) (s : State) : Host.Outcome State Fault Refusal :=
  s.run fun s =>
    match s.takeDone (.eventWrite (s.obj .mgtEvtPidx)) status, s.takeDone .eventInBand status with
    | some (_, t), _ => if status = stOk then t.recordWritten true else t.recordFailed
    | none, some (_, t) => if status = stOk then t.recordWritten false else t.recordFailed
    | none, none => s

/-- EVENT_WRITE_RETRY: 100 µs after a failed write the sector is written again. -/
def execEventWriteRetry (s : State) : Host.Outcome State Fault Refusal :=
  s.run fun s => s.whenOk s.mgt.recRetry fun s =>
    let s : State := { s with mgt := { s.mgt with recRetry := false } }
    s.whenOk s.mayRecord fun s => s.writeRecord

/-! ### The producer state (R410) -/

/-- The producer-state sector. -/
def State.pstateSector (s : State) : List Byte :=
  toBytes 4 (s.obj .mgtEvtPidx) ++ toBytes 4 (s.obj .mgtEvtDropped) ++ toBytes 8 s.aon.rclk ++ zeros 48

/-- PSTATE_WRITE: after record writes have completed, and the previous producer-state write has. -/
def execPstateWrite (s : State) : Host.Outcome State Fault Refusal :=
  s.run fun s => s.whenOk (s.evtGateway && s.mgt.pstateDue && !s.mgt.pstateBusy) fun s =>
    let s : State := { s with mgt := { s.mgt with pstateDue := false, pstateBusy := true } }
    s.issueOwn .pstateWrite (s.recordPacket (s.obj .mgtEvtFa) (s.obj .mgtEvtPstate) s.pstateSector)

/-! ### The ring and in-band mode (R412) -/

/-- EVENT_RING_TIMEOUT: the message is sent once more, and then in-band mode is entered. A trial of the ring in in-band mode ends. -/
def execEventRingTimeout (s : State) : Host.Outcome State Fault Refusal :=
  s.run fun s =>
    if s.mgt.evtTries = 0 then s
    else if s.mgt.evtProbe then { s with mgt := { s.mgt with evtTries := 0, evtProbe := false } }
    else if s.mgt.evtTries = 1 then s.sendRecord 2
    else ({ s with mgt := { s.mgt with evtTries := 0 } }).setFld .mgtEvtMode 2 0 2

/-- EVENT_RING_RETRY: once a second in in-band mode the next record goes by ring first. -/
def execEventRingRetry (s : State) : Host.Outcome State Fault Refusal :=
  s.run fun s => s.whenOk (!s.evtGateway && s.fld .mgtEvtMode 1 1 = 1 && s.mgt.evtTries = 0) fun s =>
    ({ s with mgt := { s.mgt with evtProbe := true } }).nextRecord

end Sys2Proof.Machine
end

