-- ==== Sys2Proof/Machine/FlitRows.lean ====
section
/-! DEFINITION. The rows of received flits (03, R70 to R82; 04, R97, R102): each acts on the flits of its class. -/

namespace Sys2Proof.Machine

/-- A received flit of the classes that a row stands for. In a takeover gap the engine's flits wait in the receive log (12, R331). -/
def State.receiveAs (s : State) (f : RxFlit) (ok : Option FlitKind → Bool) : State :=
  match s.classFlit f with
  | none => s
  | some k =>
    s.whenOk (s.flitsRun && (ok k || (s.eng.takeover && s.rx.log.length != 0))) fun s =>
      let mine := match k with
        | some x => x.controller
        | none => false
      if s.eng.takeover && !mine then
        if s.rx.log.length < 128 then { s with rx := { s.rx with log := s.rx.log ++ [f] } } else s
      else (s.receive f).tryEqualise

/-- The raw bytes of a flit have the size of a flit. -/
def flitOk (f : RxFlit) : Bool := f.bytes.length == 256 && f.alt.length == 256

def execDataFlit (f : RxFlit) (s : State) : Host.Outcome State Fault Refusal :=
  s.runIf (flitOk f) "DATA_FLIT" fun s => s.receiveAs f fun k => k = some .data

def execIdleFlit (f : RxFlit) (s : State) : Host.Outcome State Fault Refusal :=
  s.runIf (flitOk f) "IDLE_FLIT" fun s => s.receiveAs f fun k => k = some .idle

def execFlitFail (f : RxFlit) (s : State) : Host.Outcome State Fault Refusal :=
  s.runIf (flitOk f) "FLIT_FAIL" fun s => s.receiveAs f fun k => k = none

def execFlitProtoErr (f : RxFlit) (s : State) : Host.Outcome State Fault Refusal :=
  s.runIf (flitOk f) "FLIT_PROTO_ERR" fun s => s.receiveAs f fun k => k = some .proto

def execPrepareFlit (f : RxFlit) (s : State) : Host.Outcome State Fault Refusal :=
  s.runIf (flitOk f) "PREPARE" fun s => s.receiveAs f fun k => k = some .prepare

def execCommitFlit (f : RxFlit) (s : State) : Host.Outcome State Fault Refusal :=
  s.runIf (flitOk f) "COMMIT" fun s => s.receiveAs f fun k => k = some .commit

def execCancelFlit (f : RxFlit) (s : State) : Host.Outcome State Fault Refusal :=
  s.runIf (flitOk f) "CANCEL" fun s => s.receiveAs f fun k => k = some .cancel

def execMeasureMarker (f : RxFlit) (s : State) : Host.Outcome State Fault Refusal :=
  s.runIf (flitOk f) "MEASURE" fun s => s.receiveAs f fun k => k = some .measure

def execReturnMarker (f : RxFlit) (s : State) : Host.Outcome State Fault Refusal :=
  s.runIf (flitOk f) "RETURN" fun s => s.receiveAs f fun k => k = some .ret

def execSetMarker (f : RxFlit) (s : State) : Host.Outcome State Fault Refusal :=
  s.runIf (flitOk f) "SET" fun s => s.receiveAs f fun k => k = some .set

def execVerifyMarker (f : RxFlit) (s : State) : Host.Outcome State Fault Refusal :=
  s.runIf (flitOk f) "VERIFY" fun s => s.receiveAs f fun k => k = some .verify

def execVerifyReturn (f : RxFlit) (s : State) : Host.Outcome State Fault Refusal :=
  s.runIf (flitOk f) "VERIFY_RETURN" fun s => s.receiveAs f fun k => k = some .verifyReturn

end Sys2Proof.Machine
end

