-- ==== Sys2Proof/Machine/Tap.lean ====
section
/-! DEFINITION. The test access port and the IEEE 1500 wrapper (02, R49, R50): the instruction in force, the boundary register and
what leaves on TDO. -/

namespace Sys2Proof.Machine

/-- Instructions of the TAP: 0 IDCODE, 1 BYPASS, 2 SAMPLE/PRELOAD, 3 EXTEST, 4 INTEST_WRAP; of the wrapper: 0 WS_BYPASS, 1 WS_EXTEST,
2 WS_INTEST, 3 WS_SCAN. -/
def State.setTap (s : State) (i : Nat) : State := { s with pwr := { s.pwr with tap := i } }

def State.setWrapper (s : State) (i : Nat) : State := { s with pwr := { s.pwr with wrapper := i } }

/-- The zeroisation record is present (14, R372, R373): external scan is enabled. -/
def State.zeroRecord (s : State) : Bool := (s.entry .scrZeroRecord 1).testBit 0

/-- BYPASS. -/
def execBypass (s : State) : Host.Outcome State Fault Refusal := s.run fun s => s.setTap 1

/-- SAMPLE/PRELOAD: the sampled pins leave, and the boundary register holds what is shifted in. -/
def execSamplePreload (pins preload : List Bool) (s : State) : Host.Outcome State Fault Refusal :=
  s.run fun s => ({ s with pwr := { s.pwr with tap := 2, boundary := preload } }).out (.tap pins)

/-- EXTEST: the boundary register drives the pins; without the zeroisation record it acts as BYPASS. -/
def execExtest (s : State) : Host.Outcome State Fault Refusal :=
  s.run fun s => if s.zeroRecord then (s.setTap 3).out (.tap s.pwr.boundary) else s.setTap 1

/-- The identification code of R49. -/
def State.idcode (s : State) (mfr : Nat) : Nat :=
  field (s.obj .mgtStepping) 11 8 * 2 ^ 28 + 0x5A64 * 2 ^ 12 + (mfr % 2 ^ 11) * 2 + 1

/-- IDCODE. -/
def execIdcode (mfr : Fin 2048) (s : State) : Host.Outcome State Fault Refusal :=
  s.run fun s => (s.setTap 0).out (.tapCode (s.idcode mfr))

/-- INTEST_WRAP: control goes to the wrapper. -/
def execIntestWrap (s : State) : Host.Outcome State Fault Refusal := s.run fun s => s.setTap 4

/-- WS_BYPASS. -/
def execWsBypass (s : State) : Host.Outcome State Fault Refusal := s.run fun s => s.setWrapper 0

/-- WS_EXTEST. -/
def execWsExtest (s : State) : Host.Outcome State Fault Refusal := s.run fun s => s.setWrapper 1

/-- WS_INTEST: WS_BYPASS without the zeroisation record. -/
def execWsIntest (s : State) : Host.Outcome State Fault Refusal := s.run fun s => s.setWrapper (if s.zeroRecord then 2 else 0)

/-- WS_SCAN: WS_BYPASS without the zeroisation record. -/
def execWsScan (s : State) : Host.Outcome State Fault Refusal := s.run fun s => s.setWrapper (if s.zeroRecord then 3 else 0)

end Sys2Proof.Machine
end

