-- ==== Sys2Proof/Machine/Dispatch.lean ====
section
/-! DEFINITION. One arm per command: a direct call of its meaning (the host reads this file arm by arm). -/

namespace Sys2Proof.Machine

/-- Dispatch: one arm per command. -/
def exec (i : Instr) (s : State) : Host.Outcome State Fault Refusal :=
  match i with
  | .aonPowerUp strap => Sys2Proof.Machine.execAonPowerUp strap s
  | .aonPowerLoss => Sys2Proof.Machine.execAonPowerLoss s
  | .clockWindow lclk aclk sclk fclk hclk mclk => Sys2Proof.Machine.execClockWindow lclk aclk sclk fclk hclk mclk s
  | .pllLossOfLock pll => Sys2Proof.Machine.execPllLossOfLock pll s
  | .rclkAbsent => Sys2Proof.Machine.execRclkAbsent s
  | .rclkReturn => Sys2Proof.Machine.execRclkReturn s
  | .pwrClkRestartSeq r => Sys2Proof.Machine.execPwrClkRestartSeq r s
  | .pwrClkRestartArray r => Sys2Proof.Machine.execPwrClkRestartArray r s
  | .pktSportRestart r => Sys2Proof.Machine.execPktSportRestart r s
  | .stkSportRestart r => Sys2Proof.Machine.execStkSportRestart r s
  | .portLockEnable r port => Sys2Proof.Machine.execPortLockEnable r port s
  | .portLockMeasure port onGrid moved => Sys2Proof.Machine.execPortLockMeasure port onGrid moved s
  | .portLockSet port => Sys2Proof.Machine.execPortLockSet port s
  | .portLockCheck port moved => Sys2Proof.Machine.execPortLockCheck port moved s
  | .portLockDisable r port => Sys2Proof.Machine.execPortLockDisable r port s
  | .portLockExit port => Sys2Proof.Machine.execPortLockExit port s
  | .streamIngressPacket sub vc bytes poisonBeats badBeats => Sys2Proof.Machine.execStreamIngressPacket sub vc bytes poisonBeats badBeats s
  | .streamEgressCredit vc n => Sys2Proof.Machine.execStreamEgressCredit vc n s
  | .streamEgressStart sub => Sys2Proof.Machine.execStreamEgressStart sub s
  | .streamEgressEop sub => Sys2Proof.Machine.execStreamEgressEop sub s
  | .holdRelease slot => Sys2Proof.Machine.execHoldRelease slot s
  | .stackCmdIssue p => Sys2Proof.Machine.execStackCmdIssue p s
  | .stackCmdAccept p => Sys2Proof.Machine.execStackCmdAccept p s
  | .stackResponse p tag data md err => Sys2Proof.Machine.execStackResponse p tag data md err s
  | .stackRspTimeout p tag => Sys2Proof.Machine.execStackRspTimeout p tag s
  | .skPcDown p level => Sys2Proof.Machine.execSkPcDown p level s
  | .relayIngressPacket vc flits bad => Sys2Proof.Machine.execRelayIngressPacket vc flits bad s
  | .relayCredit vc n => Sys2Proof.Machine.execRelayCredit vc n s
  | .relayEgressStart => Sys2Proof.Machine.execRelayEgressStart s
  | .rlIUpChange bits => Sys2Proof.Machine.execRlIUpChange bits s
  | .dxSelWrite sec value => Sys2Proof.Machine.execDxSelWrite sec value s
  | .dxDataRead sec => Sys2Proof.Machine.execDxDataRead sec s
  | .dxDataWrite sec value => Sys2Proof.Machine.execDxDataWrite sec value s
  | .objectWrite r index sub offset data => Sys2Proof.Machine.execObjectWrite r index sub offset data s
  | .sbLaneFailed lane => Sys2Proof.Machine.execSbLaneFailed lane s
  | .sbLaneUsable lane => Sys2Proof.Machine.execSbLaneUsable lane s
  | .sbStateTimer => Sys2Proof.Machine.execSbStateTimer s
  | .sbState bits => Sys2Proof.Machine.execSbState bits s
  | .sidebandFrameDiscard type len crcOk => Sys2Proof.Machine.execSidebandFrameDiscard type len crcOk s
  | .train f => Sys2Proof.Machine.execTrain f s
  | .trainFrameRepeat => Sys2Proof.Machine.execTrainFrameRepeat s
  | .slate bytes => Sys2Proof.Machine.execSlate bytes s
  | .laneFault lanes reason => Sys2Proof.Machine.execLaneFault lanes reason s
  | .laneFaultRepeat => Sys2Proof.Machine.execLaneFaultRepeat s
  | .laneAck lanes => Sys2Proof.Machine.execLaneAck lanes s
  | .bypass => Sys2Proof.Machine.execBypass s
  | .samplePreload pins preload => Sys2Proof.Machine.execSamplePreload pins preload s
  | .extest => Sys2Proof.Machine.execExtest s
  | .idcode mfr => Sys2Proof.Machine.execIdcode mfr s
  | .intestWrap => Sys2Proof.Machine.execIntestWrap s
  | .wsBypass => Sys2Proof.Machine.execWsBypass s
  | .wsExtest => Sys2Proof.Machine.execWsExtest s
  | .wsIntest => Sys2Proof.Machine.execWsIntest s
  | .wsScan => Sys2Proof.Machine.execWsScan s
  | .trnStart r => Sys2Proof.Machine.execTrnStart r s
  | .plannedRetrain r => Sys2Proof.Machine.execPlannedRetrain r s
  | .trainStateTimeout => Sys2Proof.Machine.execTrainStateTimeout s
  | .connectDone table => Sys2Proof.Machine.execConnectDone table s
  | .equaliseDone codes => Sys2Proof.Machine.execEqualiseDone codes s
  | .laneCheckDone errors noLock => Sys2Proof.Machine.execLaneCheckDone errors noLock s
  | .flitSync => Sys2Proof.Machine.execFlitSync s
  | .linkActive => Sys2Proof.Machine.execLinkActive s
  | .scramblerReload => Sys2Proof.Machine.execScramblerReload s
  | .phyGroupOffWrite r value => Sys2Proof.Machine.execPhyGroupOffWrite r value s
  | .cdrLockLoss lane => Sys2Proof.Machine.execCdrLockLoss lane s
  | .laneFecThreshold lane => Sys2Proof.Machine.execLaneFecThreshold lane s
  | .rxRetire r lane => Sys2Proof.Machine.execRxRetire r lane s
  | .prepareSend => Sys2Proof.Machine.execPrepareSend s
  | .prepareFlit f => Sys2Proof.Machine.execPrepareFlit f s
  | .spliceReady => Sys2Proof.Machine.execSpliceReady s
  | .commitSend => Sys2Proof.Machine.execCommitSend s
  | .commitFlit f => Sys2Proof.Machine.execCommitFlit f s
  | .spliceTimeout => Sys2Proof.Machine.execSpliceTimeout s
  | .spliceRetry => Sys2Proof.Machine.execSpliceRetry s
  | .cancelFlit f => Sys2Proof.Machine.execCancelFlit f s
  | .measureMarker f => Sys2Proof.Machine.execMeasureMarker f s
  | .latMeasureRepeat => Sys2Proof.Machine.execLatMeasureRepeat s
  | .returnMarker f => Sys2Proof.Machine.execReturnMarker f s
  | .setMarker f => Sys2Proof.Machine.execSetMarker f s
  | .verifyMarker f => Sys2Proof.Machine.execVerifyMarker f s
  | .verifyReturn f => Sys2Proof.Machine.execVerifyReturn f s
  | .latCheckTimer => Sys2Proof.Machine.execLatCheckTimer s
  | .markerTimeout => Sys2Proof.Machine.execMarkerTimeout s
  | .dataFlit f => Sys2Proof.Machine.execDataFlit f s
  | .idleFlit f => Sys2Proof.Machine.execIdleFlit f s
  | .flitFail f => Sys2Proof.Machine.execFlitFail f s
  | .flitProtoErr f => Sys2Proof.Machine.execFlitProtoErr f s
  | .linkPacketStart => Sys2Proof.Machine.execLinkPacketStart s
  | .nakRepeat => Sys2Proof.Machine.execNakRepeat s
  | .ackTimeoutReplay => Sys2Proof.Machine.execAckTimeoutReplay s
  | .spillWrite => Sys2Proof.Machine.execSpillWrite s
  | .spillWriteDone block status => Sys2Proof.Machine.execSpillWriteDone block status s
  | .spillReadDone block status data => Sys2Proof.Machine.execSpillReadDone block status data s
  | .lnkSpillEnWrite r value => Sys2Proof.Machine.execLnkSpillEnWrite r value s
  | .diagnosisStart => Sys2Proof.Machine.execDiagnosisStart s
  | .diagnosisEnd => Sys2Proof.Machine.execDiagnosisEnd s
  | .idleLimitTimeout => Sys2Proof.Machine.execIdleLimitTimeout s
  | .ackStallTimeout => Sys2Proof.Machine.execAckStallTimeout s
  | .lnkForceDown r => Sys2Proof.Machine.execLnkForceDown r s
  | .packetTakeOn src vc => Sys2Proof.Machine.execPacketTakeOn src vc s
  | .pktFaWrite r value => Sys2Proof.Machine.execPktFaWrite r value s
  | .reqTimeout tag => Sys2Proof.Machine.execReqTimeout tag s
  | .msgTimeout n => Sys2Proof.Machine.execMsgTimeout n s
  | .routeActiveWrite r value => Sys2Proof.Machine.execRouteActiveWrite r value s
  | .routeTableWrite r table die value => Sys2Proof.Machine.execRouteTableWrite r table die value s
  | .gateStart vc => Sys2Proof.Machine.execGateStart vc s
  | .admissionHopTimeout => Sys2Proof.Machine.execAdmissionHopTimeout s
  | .flowRecompute => Sys2Proof.Machine.execFlowRecompute s
  | .tclRecheckRate r value => Sys2Proof.Machine.execTclRecheckRate r value s
  | .recheckDone => Sys2Proof.Machine.execRecheckDone s
  | .queueSample => Sys2Proof.Machine.execQueueSample s
  | .queueSamplesRead r => Sys2Proof.Machine.execQueueSamplesRead r s
  | .portCountersRead r e => Sys2Proof.Machine.execPortCountersRead r e s
  | .opSubmit => Sys2Proof.Machine.execOpSubmit s
  | .descriptorStart q => Sys2Proof.Machine.execDescriptorStart q s
  | .tileDispatch cell => Sys2Proof.Machine.execTileDispatch cell s
  | .tileDone cell => Sys2Proof.Machine.execTileDone cell s
  | .cellFault cell => Sys2Proof.Machine.execCellFault cell s
  | .operandAccessDone id => Sys2Proof.Machine.execOperandAccessDone id s
  | .descriptorFinish q => Sys2Proof.Machine.execDescriptorFinish q s
  | .clusterIdleGate k => Sys2Proof.Machine.execClusterIdleGate k s
  | .clusterWake k => Sys2Proof.Machine.execClusterWake k s
  | .wcetRecompute => Sys2Proof.Machine.execWcetRecompute s
  | .redWr => Sys2Proof.Machine.execRedWr s
  | .reduceFinish id => Sys2Proof.Machine.execReduceFinish id s
  | .scrubRead => Sys2Proof.Machine.execScrubRead s
  | .rekeyStep => Sys2Proof.Machine.execRekeyStep s
  | .stkPartApply r => Sys2Proof.Machine.execStkPartApply r s
  | .keyLoad msg => Sys2Proof.Machine.execKeyLoad msg s
  | .keySelect msg => Sys2Proof.Machine.execKeySelect msg s
  | .keyClear msg => Sys2Proof.Machine.execKeyClear msg s
  | .digestDone => Sys2Proof.Machine.execDigestDone s
  | .complementCheck v => Sys2Proof.Machine.execComplementCheck v s
  | .continuityFrame frame => Sys2Proof.Machine.execContinuityFrame frame s
  | .yieldEngine code => Sys2Proof.Machine.execYieldEngine code s
  | .takeoverResume => Sys2Proof.Machine.execTakeoverResume s
  | .standinSegmentTest => Sys2Proof.Machine.execStandinSegmentTest s
  | .segmentDone pass => Sys2Proof.Machine.execSegmentDone pass s
  | .engineRetestDone pass => Sys2Proof.Machine.execEngineRetestDone pass s
  | .resyncDone => Sys2Proof.Machine.execResyncDone s
  | .sharedEccError e => Sys2Proof.Machine.execSharedEccError e s
  | .fence r => Sys2Proof.Machine.execFence r s
  | .unfence r => Sys2Proof.Machine.execUnfence r s
  | .tempSample temps => Sys2Proof.Machine.execTempSample temps s
  | .trimStep => Sys2Proof.Machine.execTrimStep s
  | .recalStart lane => Sys2Proof.Machine.execRecalStart lane s
  | .recalDone codes => Sys2Proof.Machine.execRecalDone codes s
  | .deskewCheck attempts => Sys2Proof.Machine.execDeskewCheck attempts s
  | .seqWatchdog imageOk => Sys2Proof.Machine.execSeqWatchdog imageOk s
  | .ageingMonitor counts => Sys2Proof.Machine.execAgeingMonitor counts s
  | .eyeScanStart lane => Sys2Proof.Machine.execEyeScanStart lane s
  | .eyeScanDone height width => Sys2Proof.Machine.execEyeScanDone height width s
  | .marginPlan => Sys2Proof.Machine.execMarginPlan s
  | .laneRetire lane => Sys2Proof.Machine.execLaneRetire lane s
  | .stepGraceEnd => Sys2Proof.Machine.execStepGraceEnd s
  | .fieldTestTurn u taken => Sys2Proof.Machine.execFieldTestTurn u taken s
  | .testDone u map rows => Sys2Proof.Machine.execTestDone u map rows s
  | .powerEstimate mW => Sys2Proof.Machine.execPowerEstimate mW s
  | .scrRunCluster r index => Sys2Proof.Machine.execScrRunCluster r index s
  | .scrRunLaneGroup r index => Sys2Proof.Machine.execScrRunLaneGroup r index s
  | .scrRunFarTest r index => Sys2Proof.Machine.execScrRunFarTest r index s
  | .scrRunFarRespond r index => Sys2Proof.Machine.execScrRunFarRespond r index s
  | .scrRunStandin r => Sys2Proof.Machine.execScrRunStandin r s
  | .scrRunScratch r => Sys2Proof.Machine.execScrRunScratch r s
  | .scrRunSharedStorage r => Sys2Proof.Machine.execScrRunSharedStorage r s
  | .scrRunAnalog r => Sys2Proof.Machine.execScrRunAnalog r s
  | .scrZeroise r => Sys2Proof.Machine.execScrZeroise r s
  | .zeroiseDone => Sys2Proof.Machine.execZeroiseDone s
  | .ringRead input msg => Sys2Proof.Machine.execRingRead input msg s
  | .ringWrite gw input msg => Sys2Proof.Machine.execRingWrite gw input msg s
  | .ringLock gw input msg => Sys2Proof.Machine.execRingLock gw input msg s
  | .ringUnlock gw input msg => Sys2Proof.Machine.execRingUnlock gw input msg s
  | .ringEvent input msg => Sys2Proof.Machine.execRingEvent input msg s
  | .ringHop input msg => Sys2Proof.Machine.execRingHop input msg s
  | .ringReply input msg => Sys2Proof.Machine.execRingReply input msg s
  | .ringBroken => Sys2Proof.Machine.execRingBroken s
  | .ringRestored => Sys2Proof.Machine.execRingRestored s
  | .gatewaySend sec value => Sys2Proof.Machine.execGatewaySend sec value s
  | .gatewayTimeout => Sys2Proof.Machine.execGatewayTimeout s
  | .mgtScriptLoad r => Sys2Proof.Machine.execMgtScriptLoad r s
  | .mgtSceneLoad r n => Sys2Proof.Machine.execMgtSceneLoad r n s
  | .mgtSceneCommit r mask => Sys2Proof.Machine.execMgtSceneCommit r mask s
  | .commitDone answers => Sys2Proof.Machine.execCommitDone answers s
  | .lockRead r n => Sys2Proof.Machine.execLockRead r n s
  | .lockRelease r n => Sys2Proof.Machine.execLockRelease r n s
  | .mgtLockForce r value => Sys2Proof.Machine.execMgtLockForce r value s
  | .mgtSeal r value => Sys2Proof.Machine.execMgtSeal r value s
  | .mailboxSend sec j len => Sys2Proof.Machine.execMailboxSend sec j len s
  | .mailboxAbort sec j => Sys2Proof.Machine.execMailboxAbort sec j s
  | .mailboxRelease sec j => Sys2Proof.Machine.execMailboxRelease sec j s
  | .mailboxTaken j => Sys2Proof.Machine.execMailboxTaken j s
  | .tunnel bytes => Sys2Proof.Machine.execTunnel bytes s
  | .tunnelS bytes => Sys2Proof.Machine.execTunnelS bytes s
  | .tunnelTimeout j => Sys2Proof.Machine.execTunnelTimeout j s
  | .echo => Sys2Proof.Machine.execEcho s
  | .objRead => Sys2Proof.Machine.execObjRead s
  | .objWrite => Sys2Proof.Machine.execObjWrite s
  | .eventRecordWrite => Sys2Proof.Machine.execEventRecordWrite s
  | .eventWriteDone status => Sys2Proof.Machine.execEventWriteDone status s
  | .eventWriteRetry => Sys2Proof.Machine.execEventWriteRetry s
  | .pstateWrite => Sys2Proof.Machine.execPstateWrite s
  | .mgtEvtCidxWrite r value => Sys2Proof.Machine.execMgtEvtCidxWrite r value s
  | .eventRingTimeout => Sys2Proof.Machine.execEventRingTimeout s
  | .eventRingRetry => Sys2Proof.Machine.execEventRingRetry s
  | .pwrDomainCtrlWrite r value => Sys2Proof.Machine.execPwrDomainCtrlWrite r value s
  | .pwrCycle r value => Sys2Proof.Machine.execPwrCycle r value s
  | .domainReady d => Sys2Proof.Machine.execDomainReady d s
  | .pwrReset r => Sys2Proof.Machine.execPwrReset r s
  | .bringupStep n => Sys2Proof.Machine.execBringupStep n s
  | .pwrFwLoad r => Sys2Proof.Machine.execPwrFwLoad r s
  | .fwOnlineUpdate r => Sys2Proof.Machine.execFwOnlineUpdate r s
  | .sbCharacterLock => Sys2Proof.Machine.execSbCharacterLock s
  | .sensorReferenceCheck g deviation => Sys2Proof.Machine.execSensorReferenceCheck g deviation s
  | .seqLockRetry => Sys2Proof.Machine.execSeqLockRetry s
  | .zeroiseClearTimeout d => Sys2Proof.Machine.execZeroiseClearTimeout d s
  | .resetSettleTimeout => Sys2Proof.Machine.execResetSettleTimeout s
  | .drainRelayHoldEnd => Sys2Proof.Machine.execDrainRelayHoldEnd s
  | .redWrAddDone => Sys2Proof.Machine.execRedWrAddDone s
  | .admissionHopQuery q => Sys2Proof.Machine.execAdmissionHopQuery q s
  | .transitRegisterUpdate u => Sys2Proof.Machine.execTransitRegisterUpdate u s
  | .mailboxBufferWrite sec j inbound offset value => Sys2Proof.Machine.execMailboxBufferWrite sec j inbound offset value s
  | .gatewayRequestWrite sec offset value => Sys2Proof.Machine.execGatewayRequestWrite sec offset value s

end Sys2Proof.Machine
end

