-- ==== Sys2Proof/Machine/Tick.lean ====
section
/-! DEFINITION. One LCLK without a command (assumption 2): what the spec's rules let pass at every LCLK, and the local RCLK count. -/

namespace Sys2Proof.Machine

/-- Time on the AON domain's counts (02, R430): one LCLK period, 100 MHz of RCLK, and 5 counts for each 50,000 ps without it. -/
def Aon.tick (a : Aon) (ps : Nat) : Aon :=
  let t := a.ps + ps
  let unit := if a.rclkAbsent then 50000 else 10000
  { a with lclk := a.lclk + 1, ps := t % unit, rclk := a.rclk + t / unit * (if a.rclkAbsent then 5 else 1) }

/-- The link cycle counter and the age of the scramblers, from flit sync on (03, R58, R78). -/
def State.tickLink (s : State) : State :=
  if s.flitsRun then
    { s with lat := { s.lat with lcc := (s.lat.lcc + 1) % 2 ^ 48 }, lanes := { s.lanes with scramAge := s.lanes.scramAge + 1 } }
  else s

/-- An egress that sends nothing in this LCLK (06, R177): stalled when packets wait and XOFF or missing credits hold each VC back. -/
def State.tickEgress (s : State) (e : Egress) : State :=
  let used := (List.range 8).filter fun v => !(ofVc (s.egressQueue e) v).isEmpty
  s.idleEgress e (!used.isEmpty && used.all fun v => s.egressHeld e v)

/-- The LCLK domain's part of a tick. -/
def State.tickLclk (s : State) : State :=
  let s := (s.tickLink.refill).refillFlows
  let s := (s.gateTick 1).gateTick 2
  ((s.tickEgress .link).tickEgress .relay).tickEgress .stream

/-- One LCLK. -/
def State.tick (s : State) : State :=
  if s.aon.up then
    let t := if s.linkCore then s.tickLclk else s
    { t with pending := s.pending, aon := s.aon.tick s.lclk }
  else s

end Sys2Proof.Machine
end

