-- ==== Sys2Proof/Safety.lean ====
section
/-! DEFINITION. What a safe run is: the step of a state answers a next state. The one fault is raised for pin data of a size that
the pins cannot carry, so a run of commands that the pins can carry is safe. And the terms of the statements: how a command ends,
and what it leaves alone. -/

namespace Sys2Proof.Machine

/-- The step answers a next state. -/
def SafeStep (s : State) : Prop := ∃ t, step s = .next t

/-- n steps answer next states. -/
def SafeRun : Nat → State → Prop
  | 0, _ => True
  | n + 1, s => ∃ t, step s = .next t ∧ SafeRun n t

/-- The command c, run at s, answers a next state, and P holds of it. -/
def Ends (c : Instr) (s : State) (P : State → Prop) : Prop := ∃ t, exec c s = .next t ∧ P t

/-- The parts of State. -/
inductive Part where
  | pending | aon | dict | sp | rl | tx | rx | crossings | lanes | trn | lat | sb | pk | cls | stk | arr | eng | cal | scr | mgt | pwr
  | free | outbox
  deriving DecidableEq, Repr

/-- A part is the same in two states. -/
def Part.same : Part → State → State → Prop
  | .pending, s, t => t.pending = s.pending
  | .aon, s, t => t.aon = s.aon
  | .dict, s, t => t.dict = s.dict
  | .sp, s, t => t.sp = s.sp
  | .rl, s, t => t.rl = s.rl
  | .tx, s, t => t.tx = s.tx
  | .rx, s, t => t.rx = s.rx
  | .crossings, s, t => t.crossings = s.crossings
  | .lanes, s, t => t.lanes = s.lanes
  | .trn, s, t => t.trn = s.trn
  | .lat, s, t => t.lat = s.lat
  | .sb, s, t => t.sb = s.sb
  | .pk, s, t => t.pk = s.pk
  | .cls, s, t => t.cls = s.cls
  | .stk, s, t => t.stk = s.stk
  | .arr, s, t => t.arr = s.arr
  | .eng, s, t => t.eng = s.eng
  | .cal, s, t => t.cal = s.cal
  | .scr, s, t => t.scr = s.scr
  | .mgt, s, t => t.mgt = s.mgt
  | .pwr, s, t => t.pwr = s.pwr
  | .free, s, t => t.free = s.free
  | .outbox, s, t => t.outbox = s.outbox

/-- Every part that l does not list is the same. -/
def OnlyParts (l : List Part) (s t : State) : Prop := ∀ p : Part, p ∉ l → p.same s t

/-- Every entry of every object that l does not list reads the same. -/
def OnlyObjs (l : List Obj) (s t : State) : Prop := ∀ (o : Obj) (e : Nat), o ∉ l → t.entry o e = s.entry o e

/-- Only the listed parts, and in the dictionary only the listed objects, may differ. -/
def Only (parts : List Part) (objs : List Obj) (s t : State) : Prop := OnlyParts (.dict :: parts) s t ∧ OnlyObjs objs s t

/-- What raising an event may write (15, R408 to R412): the queue of records, MGT_EVT_MODE, MGT_EVT_DROPPED, and a message that
leaves by ring. -/
def eventParts : List Part := [.mgt, .outbox]
def eventObjs : List Obj := [.mgtEvtMode, .mgtEvtDropped]

/-- The last record queued has this TYPE, SEV and first payload byte. -/
def LastEvent (t : State) (type sev byte0 : Nat) : Prop :=
  ∃ r, t.mgt.events.getLast? = some r ∧ r.type = type ∧ r.sev = sev ∧ valAt r.payload 0 1 = byte0

/-- The instance is no event gateway, has a way for its records, and its queue has room for one more (15, R412). -/
def State.eventRoom (s : State) : Bool := !s.evtGateway && !s.evtNoRoute && s.mgt.events.length < 16

/-- A flit of a header, payload and number has left between two states. -/
def Sent (s t : State) (head : Nat) (payload : List Byte) (seq : Nat) : Prop :=
  ∃ slot ctrl, Out.flit slot (mkFlit head ctrl payload seq) ∈ t.outbox.drop s.outbox.length

/-- A received flit of a kind that passes without a correction under the present map, acknowledges nothing new, carries no NAK, and
comes on a link that is not drained, taken over or about to go down for errors. -/
def QuietFlit (s : State) (f : RxFlit) (k : FlitKind) (bytes : List Byte) : Prop :=
  flitOk f = true ∧ s.look f = some ⟨true, false, ⟨bytes, [], 0⟩⟩ ∧ kindOf bytes = k ∧ field (flitCtrl bytes) 15 0 = s.txA ∧
    bit (flitCtrl bytes) 23 = false ∧ s.flitsRun = true ∧ s.eng.takeover = false ∧ s.trn.holding = false ∧ s.rx.window.sum < s.obj .lnkDown

/-- What a received flit counts and delivers whatever it is. -/
def flitParts : List Part := [.rx, .tx, .lanes]
def flitObjs : List Obj := [.lnkErrWindow, .lnkXoffState]

/-- A response to h that this instance originates now leaves it by its relay (05, R141, R150). -/
def State.repliesBy (s : State) (h : Hdr) (port : Nat) : Prop := s.fa ≠ 0xFFF ∧ s.fenced = false ∧ s.route (respHdr h 0 s.epochNow) = .out .relay port

/-- Between two states one response to h with a status has joined the relay egress. -/
def Replied (s t : State) (h : Hdr) (st port : Nat) : Prop :=
  ∃ q ∈ t.rl.egress.getLast?, t.rl = { s.rl with egress := s.rl.egress ++ [q] } ∧ q.pkt.hdr.status = st ∧ q.pkt.hdr.dst = h.src ∧ q.pkt.hdr.tag = h.tag ∧
    q.port = port

/-- A ring message (15, R377): KIND, STATUS, NHOPS, NEXT, flags, the 12 bytes of PATH, TAG, INDEX, SUB, LEN, OFFSET, data. -/
def ringMsg (kind st hops next flags : Nat) (path : List Byte) (tag index sub len off : Nat) (data : List Byte) : List Byte :=
  [b8 kind, b8 st, b8 (hops * 16 + next), b8 flags] ++ path ++ toBytes 2 tag ++ toBytes 2 index ++ [b8 sub, b8 len] ++ toBytes 2 off ++ data

/-- The position of the instance on its loop, as MGT_RING_STATE shows it (15, R376). -/
def State.ringPlace (s : State) : Byte := b8 (s.fld .mgtRingState 5 0)

/-- The header of an own request as it leaves with the lowest tag of its range (05, R136, R150). -/
def State.ownStamp (s : State) (h : Hdr) (tag : Nat) : Hdr :=
  { h with tag := tag, msgId := s.pk.nextMsgId % 65536, ep := s.obj .pktOwnEp, src := s.fa, epoch := s.epochNow }

/-- Between two states one own write of a sector has joined the relay egress, with tag 0 and a use. -/
def OwnWrite (s t : State) (u : OwnUse) (dst addr port : Nat) (sector : List Byte) : Prop :=
  ∃ q ∈ t.rl.egress.getLast?, t.rl = { s.rl with egress := s.rl.egress ++ [q] } ∧ q.pkt.hdr.type = tWrReq ∧ q.pkt.hdr.dst = dst ∧ q.pkt.hdr.addr = addr ∧
    q.pkt.payload = sector ∧ q.port = port ∧ t.pk.own.map (fun r => (r.tag, r.use)) = [(0, u)]

/-- The sector of the dailies ring that holds the next slot (15, R409), and the slot's own number. -/
def State.nextSlot (s : State) : Nat := s.obj .mgtEvtPidx % max 1 (s.obj .mgtEvtSize)
def State.slotSector (s : State) : Nat := (s.obj .mgtEvtBase + s.nextSlot / 2) % 2 ^ 40

/-- A sector write of this instance's own records goes by its relay (15, R409). -/
def State.recordsBy (s : State) (dst addr port : Nat) : Prop :=
  s.route (s.ownStamp (ownHdr tWrReq dst addr 0 (s.obj .mgtEvtPart) (s.obj .mgtEvtTc) 2) 0) = .out .relay port

/-- What every step keeps: the dictionary lists its entries by rising key and none at its default, the side is one of the two straps,
and the time carried towards the next RCLK edge is less than one period of the clock that counts. -/
def State.Inv (s : State) : Prop :=
  s.dict.cells.Pairwise (fun a b => a.key < b.key) ∧ (∀ c ∈ s.dict.cells, c.val ≠ c.obj.default c.entry) ∧
    s.aon.side ≤ 1 ∧ s.aon.ps < (if s.aon.rclkAbsent then 50000 else 10000)

end Sys2Proof.Machine
end

