-- ==== Sys2Proof/WellFormed.lean ====
section
/-! DEFINITION. Well-formed commands: operands that the pins, frames and registers of the block can carry. A command that is not well-formed
stands for nothing that can happen outside the block. -/

namespace Sys2Proof

/-- GW of a ring requester is a PKT_FA (15, R399). -/
def Requester.wf : Requester → Bool
  | .ring gw _ => gw < 4096
  | .sequencer => true
  | .port _ => true
  | .mailbox => true

/-- A received flit is 256 bytes under either map (04, R87). -/
def RxFlit.wf (f : RxFlit) : Bool := f.bytes.length == 256 && f.alt.length == 256

/-- Beats of a Stream Port packet of n bytes that a list names. -/
def beatsWf (n : Nat) (l : List Nat) : Bool := l.all fun b => 512 * b < n

/-- A TRAIN frame's fields fit the sideband's (03, R61). -/
def TrainFrame.wf (f : TrainFrame) : Bool :=
  f.state < 16 && f.attempt < 256 && f.cause < 256 && f.failed < 2 ^ 72 && f.rate < 4 &&
    (f.connect.all fun x => x < 256) && (f.offsets.all fun x => x < 2 ^ 32) && f.map.all fun x => x < 72

/-- A ring message has its 24 bytes and at most 32 of data (15, R377). -/
def ringWf (m : List Byte) : Bool := 24 ≤ m.length && m.length ≤ 56

/-- A query names FAs of 12 bits and a flow record of a home (06, R166, R169). -/
def HopQuery.wf (q : HopQuery) : Bool := q.home < 4096 && q.dst < 4096 && q.index < 256 && q.tc < 4

def HopAnswer.wf (a : HopAnswer) : Bool := a.fa < 4096 && a.next < 4096 && a.index < 256 && a.check < 256

def TransitUpdate.wf : TransitUpdate → Bool
  | .register q _ => q.wf
  | .slack home index _ => home < 4096 && index < 256
  | .remove home index => home < 4096 && index ≤ 256
  | .withdraw index cause => index < 256 && cause < 256
  | .reduce index _ => index < 256

/-- A word of a bank of shared storage. -/
def EccError.wf (e : EccError) : Bool := e.row < 65536

/-- The well-formed commands. -/
def Instr.WellFormed (i : Instr) : Bool :=
  match i with
  | .aonPowerUp _ => true
  | .aonPowerLoss => true
  | .clockWindow lclk aclk sclk fclk hclk mclk => [lclk, aclk, sclk, fclk, hclk, mclk].all fun n => n < 2 ^ 32
  | .pllLossOfLock _ => true
  | .rclkAbsent => true
  | .rclkReturn => true
  | .pwrClkRestartSeq r => r.wf
  | .pwrClkRestartArray r => r.wf
  | .pktSportRestart r => r.wf
  | .stkSportRestart r => r.wf
  | .portLockEnable r _ => r.wf
  | .portLockMeasure _ _ _ => true
  | .portLockSet _ => true
  | .portLockCheck _ _ => true
  | .portLockDisable r _ => r.wf
  | .portLockExit _ => true
  | .streamIngressPacket _ _ bytes poison bad => !bytes.isEmpty && bytes.length ≤ 8192 + 512 && beatsWf bytes.length poison && beatsWf bytes.length bad
  | .streamEgressCredit _ _ => true
  | .streamEgressStart _ => true
  | .streamEgressEop _ => true
  | .holdRelease _ => true
  | .stackCmdIssue _ => true
  | .stackCmdAccept _ => true
  | .stackResponse _ _ data md _ => data.length == 64 && md < 2 ^ 64
  | .stackRspTimeout _ _ => true
  | .skPcDown _ _ => true
  | .relayIngressPacket _ flits bad => !flits.isEmpty && (flits.all fun f => f.length == 256) && bad.all fun i => i < flits.length
  | .relayCredit _ _ => true
  | .relayEgressStart => true
  | .rlIUpChange bits => bits < 2 ^ 64
  | .dxSelWrite _ value => value < 2 ^ 32
  | .dxDataRead _ => true
  | .dxDataWrite _ value => value < 2 ^ 32
  | .objectWrite r index sub offset data => r.wf && index < 65536 && sub < 256 && offset < 65536 && data.length ≤ 65536
  | .sbLaneFailed _ => true
  | .sbLaneUsable _ => true
  | .sbStateTimer => true
  | .sbState bits => bits < 4
  | .sidebandFrameDiscard type len _ => type < 256 && len < 256
  | .train f => f.wf
  | .trainFrameRepeat => true
  | .slate bytes => bytes.length == 48
  | .laneFault lanes reason => lanes < 2 ^ 72 && reason < 256
  | .laneFaultRepeat => true
  | .laneAck lanes => lanes < 2 ^ 72
  | .bypass => true
  | .samplePreload pins preload => pins.length == preload.length
  | .extest => true
  | .idcode _ => true
  | .intestWrap => true
  | .wsBypass => true
  | .wsExtest => true
  | .wsIntest => true
  | .wsScan => true
  | .trnStart r => r.wf
  | .plannedRetrain r => r.wf
  | .trainStateTimeout => true
  | .connectDone table => table.length == 72 && table.all fun x => x < 256
  | .equaliseDone codes => codes.length == 72 && codes.all fun x => x < 2 ^ 128
  | .laneCheckDone errors noLock => errors.length == 72 && noLock.all fun p => p < 72
  | .flitSync => true
  | .linkActive => true
  | .scramblerReload => true
  | .phyGroupOffWrite r value => r.wf && value < 2 ^ 8
  | .cdrLockLoss _ => true
  | .laneFecThreshold _ => true
  | .rxRetire r lane => r.wf && lane < 256
  | .prepareSend => true
  | .prepareFlit f => f.wf
  | .spliceReady => true
  | .commitSend => true
  | .commitFlit f => f.wf
  | .spliceTimeout => true
  | .spliceRetry => true
  | .cancelFlit f => f.wf
  | .measureMarker f => f.wf
  | .latMeasureRepeat => true
  | .returnMarker f => f.wf
  | .setMarker f => f.wf
  | .verifyMarker f => f.wf
  | .verifyReturn f => f.wf
  | .latCheckTimer => true
  | .markerTimeout => true
  | .dataFlit f => f.wf
  | .idleFlit f => f.wf
  | .flitFail f => f.wf
  | .flitProtoErr f => f.wf
  | .linkPacketStart => true
  | .nakRepeat => true
  | .ackTimeoutReplay => true
  | .spillWrite => true
  | .spillWriteDone block status => block < 4096 && status < 256
  | .spillReadDone block status data => block < 4096 && status < 256 && data.length % 32 == 0
  | .lnkSpillEnWrite r value => r.wf && value < 2 ^ 8
  | .diagnosisStart => true
  | .diagnosisEnd => true
  | .idleLimitTimeout => true
  | .ackStallTimeout => true
  | .lnkForceDown r => r.wf
  | .packetTakeOn _ _ => true
  | .pktFaWrite r value => r.wf && value < 2 ^ 16
  | .reqTimeout _ => true
  | .msgTimeout _ => true
  | .routeActiveWrite r value => r.wf && value < 2 ^ 8
  | .routeTableWrite r _ _ value => r.wf && value < 2 ^ 16
  | .gateStart _ => true
  | .admissionHopTimeout => true
  | .flowRecompute => true
  | .tclRecheckRate r value => r.wf && value < 2 ^ 8
  | .recheckDone => true
  | .queueSample => true
  | .queueSamplesRead r => r.wf
  | .portCountersRead r _ => r.wf
  | .opSubmit => true
  | .descriptorStart _ => true
  | .tileDispatch _ => true
  | .tileDone _ => true
  | .cellFault _ => true
  | .operandAccessDone _ => true
  | .descriptorFinish _ => true
  | .clusterIdleGate _ => true
  | .clusterWake _ => true
  | .wcetRecompute => true
  | .redWr => true
  | .reduceFinish _ => true
  | .scrubRead => true
  | .rekeyStep => true
  | .stkPartApply r => r.wf
  | .keyLoad msg => msg.length ≤ 256
  | .keySelect msg => msg.length ≤ 256
  | .keyClear msg => msg.length ≤ 256
  | .digestDone => true
  | .complementCheck _ => true
  | .continuityFrame frame => frame.length == 64
  | .yieldEngine _ => true
  | .takeoverResume => true
  | .standinSegmentTest => true
  | .segmentDone _ => true
  | .engineRetestDone _ => true
  | .resyncDone => true
  | .sharedEccError e => e.wf
  | .fence r => r.wf
  | .unfence r => r.wf
  | .tempSample temps => temps.length == 8
  | .trimStep => true
  | .recalStart _ => true
  | .recalDone codes => codes.length == 13
  | .deskewCheck attempts => attempts.length ≤ 3 && attempts.all fun a => a.1.length == 72 && a.2.length == 72
  | .seqWatchdog _ => true
  | .ageingMonitor counts => counts.length == 32
  | .eyeScanStart _ => true
  | .eyeScanDone height width => height < 256 && width < 256
  | .marginPlan => true
  | .laneRetire _ => true
  | .stepGraceEnd => true
  | .fieldTestTurn _ _ => true
  | .testDone _ map rows => map < 2 ^ 72 && rows.all fun x => x.1 < 5
  | .powerEstimate _ => true
  | .scrRunCluster r index => r.wf && index < 256
  | .scrRunLaneGroup r index => r.wf && index < 256
  | .scrRunFarTest r index => r.wf && index < 256
  | .scrRunFarRespond r index => r.wf && index < 256
  | .scrRunStandin r => r.wf
  | .scrRunScratch r => r.wf
  | .scrRunSharedStorage r => r.wf
  | .scrRunAnalog r => r.wf
  | .scrZeroise r => r.wf
  | .zeroiseDone => true
  | .ringRead _ msg => ringWf msg
  | .ringWrite gw _ msg => gw < 4096 && ringWf msg
  | .ringLock gw _ msg => gw < 4096 && ringWf msg
  | .ringUnlock gw _ msg => gw < 4096 && ringWf msg
  | .ringEvent _ msg => ringWf msg
  | .ringHop _ msg => ringWf msg
  | .ringReply _ msg => ringWf msg
  | .ringBroken => true
  | .ringRestored => true
  | .gatewaySend _ value => value < 2 ^ 32
  | .gatewayTimeout => true
  | .mgtScriptLoad r => r.wf
  | .mgtSceneLoad r n => r.wf && n < 256
  | .mgtSceneCommit r mask => r.wf && mask < 256
  | .commitDone answers => answers.all HopAnswer.wf
  | .lockRead r _ => r.wf
  | .lockRelease r _ => r.wf
  | .mgtLockForce r value => r.wf && value < 2 ^ 32
  | .mgtSeal r value => r.wf && value < 2 ^ 8
  | .mailboxSend _ _ len => len < 2 ^ 16
  | .mailboxAbort _ _ => true
  | .mailboxRelease _ _ => true
  | .mailboxTaken _ => true
  | .tunnel bytes => bytes.length ≤ 64
  | .tunnelS bytes => bytes.length ≤ 64
  | .tunnelTimeout _ => true
  | .echo => true
  | .objRead => true
  | .objWrite => true
  | .eventRecordWrite => true
  | .eventWriteDone status => status < 256
  | .eventWriteRetry => true
  | .pstateWrite => true
  | .mgtEvtCidxWrite r value => r.wf && value < 2 ^ 32
  | .eventRingTimeout => true
  | .eventRingRetry => true
  | .pwrDomainCtrlWrite r value => r.wf && value < 2 ^ 32
  | .pwrCycle r value => r.wf && value < 2 ^ 32
  | .domainReady _ => true
  | .pwrReset r => r.wf
  | .bringupStep _ => true
  | .pwrFwLoad r => r.wf
  | .fwOnlineUpdate r => r.wf
  | .sbCharacterLock => true
  | .sensorReferenceCheck _ _ => true
  | .seqLockRetry => true
  | .zeroiseClearTimeout _ => true
  | .resetSettleTimeout => true
  | .drainRelayHoldEnd => true
  | .redWrAddDone => true
  | .admissionHopQuery q => q.wf
  | .transitRegisterUpdate u => u.wf
  | .mailboxBufferWrite _ _ _ offset value => offset < 256 && offset % 4 == 0 && value < 2 ^ 32
  | .gatewayRequestWrite _ offset value => offset < 4096 && offset % 4 == 0 && value < 2 ^ 32

/-- The requester that a command names. -/
def Instr.requester (i : Instr) : Option Requester :=
  match i with
  | .pwrClkRestartSeq r => some r
  | .pwrClkRestartArray r => some r
  | .pktSportRestart r => some r
  | .stkSportRestart r => some r
  | .portLockEnable r _ => some r
  | .portLockDisable r _ => some r
  | .objectWrite r _ _ _ _ => some r
  | .trnStart r => some r
  | .plannedRetrain r => some r
  | .phyGroupOffWrite r _ => some r
  | .rxRetire r _ => some r
  | .lnkSpillEnWrite r _ => some r
  | .lnkForceDown r => some r
  | .pktFaWrite r _ => some r
  | .routeActiveWrite r _ => some r
  | .routeTableWrite r _ _ _ => some r
  | .tclRecheckRate r _ => some r
  | .queueSamplesRead r => some r
  | .portCountersRead r _ => some r
  | .stkPartApply r => some r
  | .fence r => some r
  | .unfence r => some r
  | .scrRunCluster r _ => some r
  | .scrRunLaneGroup r _ => some r
  | .scrRunFarTest r _ => some r
  | .scrRunFarRespond r _ => some r
  | .scrRunStandin r => some r
  | .scrRunScratch r => some r
  | .scrRunSharedStorage r => some r
  | .scrRunAnalog r => some r
  | .scrZeroise r => some r
  | .mgtScriptLoad r => some r
  | .mgtSceneLoad r _ => some r
  | .mgtSceneCommit r _ => some r
  | .lockRead r _ => some r
  | .lockRelease r _ => some r
  | .mgtLockForce r _ => some r
  | .mgtSeal r _ => some r
  | .mgtEvtCidxWrite r _ => some r
  | .pwrDomainCtrlWrite r _ => some r
  | .pwrCycle r _ => some r
  | .pwrReset r => some r
  | .pwrFwLoad r => some r
  | .fwOnlineUpdate r => some r
  | _ => none

/-- The received flit that a command carries. -/
def Instr.flit (i : Instr) : Option RxFlit :=
  match i with
  | .prepareFlit f => some f
  | .commitFlit f => some f
  | .cancelFlit f => some f
  | .measureMarker f => some f
  | .returnMarker f => some f
  | .setMarker f => some f
  | .verifyMarker f => some f
  | .verifyReturn f => some f
  | .dataFlit f => some f
  | .idleFlit f => some f
  | .flitFail f => some f
  | .flitProtoErr f => some f
  | _ => none

end Sys2Proof
end

