-- ==== Sys2Proof/Certificates/Slice0/Obligations.lean ====
section
/-! DEFINITION. The statements for the provers. -/

set_option Elab.async false

open Sys2Proof Sys2Proof.Machine

/-! ### The queue, the AON domain, time -/

/-- A step takes the command at the front of the queue and runs it with the queue's rest. -/
def Obligations.StepRunsFrontCommand : Prop :=
  ∀ (c : Instr) (rest : List Instr) (s : State), s.pending = c :: rest → step s = exec c { s with pending := rest }

/-- With no command waiting a step is one LCLK (the model's choice, notes/assumptions/2.md): the queue stays empty, what has left the
block and the Stack Port, the array, the keys and the power state stay, and the local RCLK count advances by the RCLK edges, or by
5 for each cycle of the fallback oscillator, that the LCLK completes (02, R430). Without the AON supply nothing moves. -/
def Obligations.IdleStepIsOneTick : Prop :=
  ∀ s : State, s.pending = [] →
    (s.aon.up = false → step s = .next s) ∧
    (s.aon.up = true → ∃ t, step s = .next t ∧ t.pending = [] ∧ t.aon.up = true ∧ t.aon.side = s.aon.side ∧
      (s.aon.rclkAbsent = false →
        t.aon.rclk = s.aon.rclk + (s.aon.ps + s.lclk) / 10000 ∧ t.aon.ps = (s.aon.ps + s.lclk) % 10000) ∧
      (s.aon.rclkAbsent = true →
        t.aon.rclk = s.aon.rclk + 5 * ((s.aon.ps + s.lclk) / 50000) ∧ t.aon.ps = (s.aon.ps + s.lclk) % 50000) ∧
      (s.linkCore = false → t.dict = s.dict ∧ t.lat = s.lat) ∧
      Only [.aon, .lanes, .lat, .cls] [.tclBucketLevel, .tclGateState, .tclFlowState, .tclPortLink, .tclPortRelay, .tclPortStream] s t)

/-- MGT_SIDE is sampled at AON power-up, and no other command and no passing of time changes it. The local RCLK count never goes back,
and nothing resets it except AON power-up. -/
def Obligations.SideAndRclkCount : Prop :=
  ((∀ (strap : Bool) (s : State), ∃ t, exec (.aonPowerUp strap) s = .next t ∧ t.aon.side = if strap then 1 else 0) ∧
    (∀ (c : Instr) (s t : State), (∀ strap, c ≠ .aonPowerUp strap) → exec c s = .next t → t.aon.side = s.aon.side) ∧
    (∀ s t : State, s.pending = [] → step s = .next t → t.aon.side = s.aon.side)) ∧
  ((∀ (c : Instr) (s t : State), (∀ strap, c ≠ .aonPowerUp strap) → exec c s = .next t → t.aon.rclk = s.aon.rclk) ∧
    (∀ s t : State, s.pending = [] → step s = .next t → s.aon.rclk ≤ t.aon.rclk) ∧
    (∀ (strap : Bool) (s : State), ∃ t, exec (.aonPowerUp strap) s = .next t ∧ t.aon.rclk = 0))

/-- Without the AON supply everything stops: no well-formed command but AON power-up changes anything or sends anything. Every
well-formed command ends in a next state, in every state, and only AON power-up and AON power loss touch the supply; no command
touches the queue of the commands that wait. Where it rests on choices of the model: notes/assumptions/1. -/
def Obligations.WellFormedCommandsEnd : Prop :=
  (∀ (c : Instr) (s : State), c.WellFormed = true → s.aon.up = false → (∀ strap, c ≠ .aonPowerUp strap) → exec c s = .next s) ∧
  (∀ (c : Instr) (s : State), c.WellFormed = true →
      ∃ t, exec c s = .next t ∧ t.pending = s.pending ∧
        ((∀ strap, c ≠ .aonPowerUp strap) → c ≠ .aonPowerLoss → t.aon.up = s.aon.up))

/-- Right after reset the invariant holds: the cells of the dictionary rise strictly by key and none holds its object's default,
MGT_SIDE is 0 or 1, and less than one RCLK period has passed since the last RCLK edge counted. Where it rests on choices of the
model: notes/assumptions/7. -/
def Obligations.ResetMeetsInvariant : Prop := State.reset.Inv

/-- From every state that meets it, every step that ends in a next state keeps the invariant: the cells of the dictionary rise
strictly by key and none holds its object's default, MGT_SIDE is 0 or 1, and less than one RCLK period (or fallback period, while
RCLK is absent) has passed since the last edge counted. Where it rests on choices of the model: notes/assumptions/2. -/
def Obligations.StepKeepsInvariant : Prop := ∀ s t : State, s.Inv → step s = .next t → t.Inv

/-! ### Codes and records -/

/-- The 24 header bytes of a packet, read back, give the header: every field lies in its own bits. The 32 bytes of an event record,
read back, give the record. -/
def Obligations.HeaderAndEventRecordRoundTrip : Prop :=
  (∀ h : Hdr, h.wf → (Hdr.bytes h).length = 24 ∧ Hdr.ofBytes (Hdr.bytes h) = h) ∧
  (∀ r : EventRec, r.type < 256 → r.sev < 16 → r.src < 4096 → r.seq < 256 → r.rclk < 2 ^ 64 → r.obj < 2 ^ 32 → r.payload.length = 16 →
      r.bytes.length = 32 ∧ EventRec.ofBytes r.bytes = r)

/-- A flit as transmitted is 256 bytes, and decodes with no correction and no uncorrectable codeword; with any one byte changed to any
other value it decodes to the flit that was sent, and the decoder names the changed byte. -/
def Obligations.FlitFecCorrectsOneByte : Prop :=
  ∀ (head ctrl seq : Nat) (payload : List Byte), payload.length = 236 →
    let f := mkFlit head ctrl payload seq
    f.length = 256 ∧ fecDecode f = ⟨f, [], 0⟩ ∧
      ∀ (i : Nat) (b : Byte), i < 256 → f.getD i 0 ≠ b → fecDecode (f.set i b) = ⟨f, [i], 0⟩

/-- A dictionary entry reads what was last written to it, in its width and without its reserved bits, and a write changes no other
entry of any object. What raising an event does: MGT_EVT_MODE [15:8], the sequence number, goes up by one modulo 256. Where the
queue has room the record is the last one queued: TYPE, SEV, the instance's FA, the number, the local RCLK count, the object and
the payload, with the earlier records before it; where there is neither a gateway nor a fallback nor a place in the queue it is
dropped and MGT_EVT_DROPPED counts it. Nothing else of the dictionary changes. -/
def Obligations.DictionaryReadsAndRaisedEvents : Prop :=
  (∀ (s : State) (o : Obj) (e v : Nat),
      (s.setEntry o e v).entry o e = (v % 2 ^ (8 * o.row.layout.size e)) &&& o.mask ∧
      ∀ (p : Obj) (f : Nat), ¬(p = o ∧ f = e) → (s.setEntry o e v).entry p f = s.entry p f) ∧
  (∀ (s : State) (type sev : Nat) (o : Option Obj) (payload : List Byte),
      let t := s.raise type sev o payload
      t.fld .mgtEvtMode 15 8 = (s.fld .mgtEvtMode 15 8 + 1) % 256 ∧
      (s.eventRoom = true → ∃ r, t.mgt.events = s.mgt.events ++ [r] ∧ r.type = type ∧ r.sev = sev ∧ r.src = s.obj .pktFa ∧
        r.seq = s.fld .mgtEvtMode 15 8 ∧ r.rclk = s.aon.rclk ∧
        r.obj = (match o with | some x => x.row.index * 65536 + x.row.sub * 256 | none => 0) ∧ r.payload = slice payload 0 16 ∧
        t.obj .mgtEvtDropped = s.obj .mgtEvtDropped) ∧
      (s.evtGateway = false → s.eventRoom = false → s.obj .mgtEvtDropped + 1 < 2 ^ 32 →
        t.mgt.events = s.mgt.events ∧ t.obj .mgtEvtDropped = s.obj .mgtEvtDropped + 1) ∧
      Only [.mgt, .outbox] [.mgtEvtMode, .mgtEvtDropped] s t)

/-! ### AON supply, TAP -/

/-- AON power-up clears everything but the queue of commands that wait: every object reads its default, no domain has power, no lock
has an owner, no scene and no script is stored, no record waits, and the local RCLK count is 0. AON power loss takes the supply
away and changes nothing else. The TAP and the wrapper. BYPASS and INTEST_WRAP load their instruction; SAMPLE/PRELOAD shifts the
sampled pins out and the boundary register in; IDCODE shifts out version, part number 0x5A64, manufacturer and 1. EXTEST drives
the pins from the boundary register, WS_INTEST and WS_SCAN are in force, only while a zeroisation record is present; otherwise
each acts as BYPASS. Nothing else changes. Where it rests on choices of the model: notes/assumptions/7, 11. -/
def Obligations.SupplyAndTap : Prop :=
  ((∀ (strap : Bool) (s : State), Ends (.aonPowerUp strap) s fun t =>
      t.aon = ⟨true, if strap then 1 else 0, 0, false, 0, 0⟩ ∧
      (∀ (o : Obj) (e : Nat), t.entry o e = o.default e) ∧ t.pending = s.pending ∧
      t.pwr.powered = 0 ∧ t.pwr.fwImage = [] ∧ t.stk.slots = [] ∧ t.stk.parts = [] ∧ t.stk.access = [] ∧
      t.mgt.locks = List.replicate 32 none ∧ t.mgt.script = [] ∧ t.mgt.scenes = List.replicate 8 [] ∧ t.mgt.events = [] ∧
      t.sp.up = false ∧ t.stk.up = false) ∧
    (∀ s : State, exec .aonPowerLoss s = .next { s with aon := { s.aon with up := false } })) ∧
  (∀ s : State, s.aon.up = true →
      exec .bypass s = .next { s with pwr := { s.pwr with tap := 1 } } ∧
      exec .intestWrap s = .next { s with pwr := { s.pwr with tap := 4 } } ∧
      (∀ pins preload : List Bool, exec (.samplePreload pins preload) s =
        .next { s with pwr := { s.pwr with tap := 2, boundary := preload }, outbox := s.outbox ++ [.tap pins] }) ∧
      (∀ mfr : Fin 2048, exec (.idcode mfr) s =
        .next { s with pwr := { s.pwr with tap := 0 }, outbox := s.outbox ++ [.tapCode (field (s.obj .mgtStepping) 11 8 * 2 ^ 28 + 0x5A64 * 2 ^ 12 + mfr.val * 2 + 1)] }) ∧
      exec .wsBypass s = .next { s with pwr := { s.pwr with wrapper := 0 } } ∧
      exec .wsExtest s = .next { s with pwr := { s.pwr with wrapper := 1 } } ∧
      (s.zeroRecord = true →
        exec .extest s = .next { s with pwr := { s.pwr with tap := 3 }, outbox := s.outbox ++ [.tap s.pwr.boundary] } ∧
        exec .wsIntest s = .next { s with pwr := { s.pwr with wrapper := 2 } } ∧
        exec .wsScan s = .next { s with pwr := { s.pwr with wrapper := 3 } }) ∧
      (s.zeroRecord = false →
        exec .extest s = .next { s with pwr := { s.pwr with tap := 1 } } ∧
        exec .wsIntest s = .next { s with pwr := { s.pwr with wrapper := 0 } } ∧
        exec .wsScan s = .next { s with pwr := { s.pwr with wrapper := 0 } }))

/-! ### Clocks and port locks -/

/-- CLOCK_WINDOW with every watched clock in range, none marked before and every port that its side has up: PWR_CLK_COUNT takes the
six counts, the code of each watched clock is 0, and the Control Port runs. With HCLK alone absent its code becomes 2 and the
Control Port stops; an access by that port then changes nothing. PLL_LOSS_OF_LOCK of the MCLK PLL, when it is not marked absent
yet: MCLK is marked absent at once, the ring leaves MCLK, the sequencer stops with what it had in hand abandoned, and a CLOCK
event of SEV 2 names the clock. An ACLK PLL that loses lock with the array empty fences the array. Without a user that has power
the clock is not watched and nothing changes. RCLK_ABSENT, with the link down: the absence is recorded in PWR_CLK_STATE [12] with
a CLOCK event of SEV 2, and the local RCLK count stays and runs on from there; RCLK_RETURN clears the bit and changes nothing else
but the clock that counts. Either is without effect when RCLK already is as it says. Where it rests on choices of the model:
notes/assumptions/25. -/
def Obligations.ClockFaults : Prop :=
  (∀ (l a c f h m : Nat) (s : State), s.aon.up = true → s.aon.rclkAbsent = false → s.aon.side ≤ 1 →
      (∀ i n : Nat, (i, n) ∈ [(0, l), (1, a), (2, c), (3, f), (4, h), (5, m)] →
        n < 2 ^ 32 ∧ s.fld .pwrClkState (2 * i + 1) (2 * i) = 0 ∧ (i ≠ 4 → s.clockWatched i = true → s.clockCode i n = 0)) →
      (s.hSide = true → s.sp.up = true ∧ 120 ≤ s.obj .pktSportFclkDiv ∧ s.obj .pktSportFclkDiv ≤ 160) →
      (s.sSide = true → s.stk.up = true) →
      (s.clockCode 4 h = 0 → Ends (.clockWindow l a c f h m) s fun t =>
        t.entries .pwrClkCount = [l, a, c, f, h, m] ∧
        (∀ i, i < 6 → t.fld .pwrClkState (2 * i + 1) (2 * i) = 0) ∧ t.pwr.hclkStop = false ∧
        Only [.pwr] [.pwrClkCount, .pwrClkState, .pktSportState, .stkSportState] s t) ∧
      (h = 0 → Ends (.clockWindow l a c f h m) s fun t =>
        t.entries .pwrClkCount = [l, a, c, f, h, m] ∧ t.fld .pwrClkState 9 8 = 2 ∧ t.pwr.hclkStop = true ∧
        (s.eventRoom = true → LastEvent t 0x90 2 4) ∧ ∀ sec : Bool, exec (.dxDataRead sec) t = .next t)) ∧
  (∀ s : State, s.aon.up = true →
      (s.poweredDom 19 = true → s.fld .pwrClkState 11 10 ≠ 2 → Ends (.pllLossOfLock .mclk) s fun t =>
        t.fld .pwrClkState 11 10 = 2 ∧ t.pwr.mclkStop = true ∧ t.cal.seqDown = true ∧ t.cal.recal = none ∧ t.cal.scan = none ∧
        t.cal.retireDue = [] ∧ t.cal.stepRate = none ∧ t.mgt.seqLockWait = none ∧ (s.eventRoom = true → LastEvent t 0x90 2 5) ∧
        Only [.cal, .mgt, .pwr, .outbox] [.pwrClkState, .mgtEvtMode, .mgtEvtDropped, .ageStepState, .ageMonitorState] s t) ∧
      (s.clockWatched 1 = true → s.fld .pwrClkState 3 2 ≠ 2 → s.arr.descs = [] → s.arr.work = [] → s.arr.redAgain = [] → s.arr.redIn = [] →
        s.arr.submits = [] → Ends (.pllLossOfLock .aclk) s fun t =>
        t.fld .pwrClkState 3 2 = 2 ∧ t.arr.clkFence = true ∧ t.arrayFenced = true ∧ (s.eventRoom = true → LastEvent t 0x90 2 1) ∧
        Only [.arr, .mgt, .outbox] [.pwrClkState, .mgtEvtMode, .mgtEvtDropped] s t) ∧
      (s.poweredDom 19 = false → exec (.pllLossOfLock .mclk) s = .next s)) ∧
  (∀ s : State, s.aon.up = true →
      (s.aon.rclkAbsent = false → s.linkUp = false → Ends .rclkAbsent s fun t =>
        t.aon = { s.aon with rclkAbsent := true, ps := 0 } ∧ t.fld .pwrClkState 12 12 = 1 ∧ (s.eventRoom = true → LastEvent t 0x90 2 6) ∧
        Only [.aon, .mgt, .outbox] [.pwrClkState, .mgtEvtMode, .mgtEvtDropped] s t) ∧
      (s.aon.rclkAbsent = true → exec .rclkAbsent s = .next s) ∧
      (s.aon.rclkAbsent = true → Ends .rclkReturn s fun t =>
        t.aon = { s.aon with rclkAbsent := false, ps := 0 } ∧ t.fld .pwrClkState 12 12 = 0 ∧ Only [.aon] [.pwrClkState] s t) ∧
      (s.aon.rclkAbsent = false → exec .rclkReturn s = .next s))

/-- PWR_CLK_RESTART bit 0 after a fault of MCLK: with MCLK present and in range the sequencer runs again; else nothing restarts and a
CLOCK event says so. Bit 1 after a fault of ACLK likewise unfences the array. Both answer OK; with nothing stopped they only
answer. A restart write on the port of the instance's own side, with its clock good and nothing in hand: the port comes up, no
longer fenced, with no egress credits and 32 ingress credits for each VC given out or, while the port locks, owed (Stream Port),
and the write answers OK. While the clock is not good it is ignored with a PORT event. On the other side the write only answers
OK. Where it rests on choices of the model: notes/assumptions/25. -/
def Obligations.RestartWrites : Prop :=
  (∀ (r : Requester) (s : State), s.aon.up = true → s.heard r = true →
      (s.pwr.mclkStop = true → s.clockOk 5 = true → s.cal.planDue = false → Ends (.pwrClkRestartSeq r) s fun t =>
        t.pwr.mclkStop = false ∧ t.cal.seqDown = false ∧ t.fld .calSeqState 3 3 = 0 ∧ t.outbox = s.outbox ++ [.reply 0 0] ∧
        Only [.pwr, .cal, .outbox] [.calSeqState] s t) ∧
      (s.pwr.mclkStop = true → s.clockOk 5 = false → Ends (.pwrClkRestartSeq r) s fun t =>
        t.outbox.getLast? = some (.reply 0 0) ∧ (s.eventRoom = true → LastEvent t 0x90 2 5) ∧
        Only [.mgt, .outbox] [.mgtEvtMode, .mgtEvtDropped] s t) ∧
      (s.pwr.mclkStop = false → exec (.pwrClkRestartSeq r) s = .next { s with outbox := s.outbox ++ [.reply 0 0] }) ∧
      (s.arr.clkFence = true → s.clockOk 1 = true → exec (.pwrClkRestartArray r) s =
        .next { s with arr := { s.arr with clkFence := false }, outbox := s.outbox ++ [.reply 0 0] }) ∧
      (s.arr.clkFence = true → s.clockOk 1 = false → Ends (.pwrClkRestartArray r) s fun t =>
        t.arr = s.arr ∧ t.outbox.getLast? = some (.reply 0 0) ∧ (s.eventRoom = true → LastEvent t 0x90 2 1) ∧
        Only [.mgt, .outbox] [.mgtEvtMode, .mgtEvtDropped] s t) ∧
      (s.arr.clkFence = false → exec (.pwrClkRestartArray r) s = .next { s with outbox := s.outbox ++ [.reply 0 0] })) ∧
  (∀ (r : Requester) (s : State), s.aon.up = true → s.heard r = true →
      (s.hSide = true → s.streamCan = true → s.sp.ingress = [] → s.sp.egress = [] → s.sp.sending = [none, none] → s.obj .pktSportLockEn = 0 → s.obj .pktFa ≠ 0xFFF → Ends (.pktSportRestart r) s fun t =>
        t.sp.up = true ∧ t.sp.clkFence = false ∧ t.sp.lock = .off ∧ t.sp.ingCredits = List.replicate 8 32 ∧ t.sp.ingOwed = List.replicate 8 0 ∧
        t.sp.egCredits = List.replicate 8 0 ∧ t.fld .pktSportState 2 0 = 7 ∧ t.fld .pktSportState 3 3 = 0 ∧
        t.outbox = s.outbox ++ (List.range 8).map (fun v => Out.streamCredit v 32) ++ [.reply 0 0] ∧
        Only [.sp, .outbox] [.pktSportState] s t) ∧
      (s.hSide = true → s.readyDom 18 = true → s.streamCan = false → Ends (.pktSportRestart r) s fun t =>
        t.sp = s.sp ∧ (s.eventRoom = true → LastEvent t 0x40 1 0) ∧ Only [.mgt, .outbox] [.mgtEvtMode, .mgtEvtDropped] s t) ∧
      (s.sSide = true → exec (.pktSportRestart r) s = .next { s with outbox := s.outbox ++ [.reply 0 0] }) ∧
      (s.sSide = true → s.readyDom 18 = true → s.stackCan = false → Ends (.stkSportRestart r) s fun t =>
        t.stk = s.stk ∧ (s.eventRoom = true → LastEvent t 0x40 1 1) ∧ Only [.mgt, .outbox] [.mgtEvtMode, .mgtEvtDropped] s t) ∧
      (s.hSide = true → exec (.stkSportRestart r) s = .next { s with outbox := s.outbox ++ [.reply 0 0] }) ∧
      (s.sSide = true → s.stackCan = true → s.stk.jobs = [] → s.stk.pcs = List.replicate 32 Pc.reset → Ends (.stkSportRestart r) s fun t =>
        t.stk.up = true ∧ t.stk.clkFence = false ∧ t.fld .stkSportState 2 0 = 7 ∧ t.outbox.getLast? = some (.reply 0 0) ∧
        Only [.stk, .outbox] [.stkPcState, .stkPartDegraded, .stkSportState] s t))

/-- Port lock, on each of the three ports. Enabling a port that is up and was not enabled starts lock entry: credits and starts pause.
The measurement happens once the queues are empty; on the grid and steady the port is locked at the next tick and its state object
shows it, else it runs unlocked and a PORT event says so. A check that finds the phase moved loses the lock with an event;
disabling takes effect at the next tick, and nothing pauses till then. -/
def Obligations.PortLockSequence : Prop :=
  ∀ (p : Port) (s : State), s.aon.up = true →
    (∀ r, s.heard r = true → s.portUp p = true → s.obj (lockObj p) = 0 → Ends (.portLockEnable r p) s fun t =>
      t.lockPhase p = .draining ∧ (t.lockPhase p).pauses = true ∧ t.obj (lockObj p) = 1 ∧ t.outbox = s.outbox ++ [.reply 0 0] ∧
      Only [.sp, .rl, .stk, .outbox] [lockObj p, lockState p] s t) ∧
    (∀ onGrid moved : Bool, s.portUp p = true → s.lockPhase p = .draining → s.portEmpty p = true →
      Ends (.portLockMeasure p onGrid moved) s fun t =>
        t.lockPhase p = (if onGrid && !moved then .measured else .failed) ∧
        (p = .relay → t.fld .pktRelayState 1 0 = (if onGrid then 3 else 1)) ∧ Only [.sp, .rl, .stk] [lockState p] s t) ∧
    (s.lockPhase p = .measured → Ends (.portLockSet p) s fun t =>
      t.lockPhase p = .locked ∧ t.fld (lockState p) (lockBit p) (lockBit p) = 1 ∧ Only [.sp, .rl, .stk, .outbox] [lockState p] s t) ∧
    (s.lockPhase p = .failed → Ends (.portLockSet p) s fun t =>
      t.lockPhase p = .lost ∧ t.fld (lockState p) (lockBit p) (lockBit p) = 0 ∧ (s.eventRoom = true → LastEvent t 0x40 1 (portCode p)) ∧
      Only [.sp, .rl, .stk, .mgt, .outbox] [lockState p, .mgtEvtMode, .mgtEvtDropped] s t) ∧
    (s.lockPhase p = .locked → Ends (.portLockCheck p true) s fun t =>
      t.lockPhase p = .lost ∧ t.fld (lockState p) (lockBit p) (lockBit p) = 0 ∧ (s.eventRoom = true → LastEvent t 0x40 1 (portCode p)) ∧
      Only [.sp, .rl, .stk, .mgt, .outbox] [lockState p, .mgtEvtMode, .mgtEvtDropped] s t) ∧
    (s.lockPhase p = .locked → exec (.portLockCheck p false) s = .next s) ∧
    (∀ r, s.heard r = true → s.lockPhase p ≠ .off → Ends (.portLockDisable r p) s fun t =>
      t.lockPhase p = .leaving ∧ (t.lockPhase p).pauses = false ∧ t.obj (lockObj p) = 0 ∧ t.outbox.getLast? = some (.reply 0 0) ∧
      Only [.sp, .rl, .stk, .outbox] [lockObj p, lockState p] s t) ∧
    (s.lockPhase p = .leaving → Ends (.portLockExit p) s fun t =>
      t.lockPhase p = .off ∧ t.fld (lockState p) (lockBit p) (lockBit p) = 0 ∧ Only [.sp, .rl, .stk] [lockState p] s t)

/-! ### The Stream Port and the Relay Port -/

/-- STREAM_INGRESS_PACKET on a Stream Port that is up. A packet whose beats all have credits and good parity takes its credits and
waits in the ingress buffer with the poisoned beats marked. A packet with a beat that has no credit is discarded with one error
counted and a PORT event, without an answer, and the credits it took are given back, and no other. One with a beat of bad parity
is discarded and counted; a request whose first beat was good is answered with MALFORMED. On the S-side, or with the port down,
the pins have no effect. A packet of no bytes is no packet. -/
def Obligations.StreamIngress : Prop :=
  ∀ (s : State) (sub : Fin 2) (vc : Fin 8) (bytes : List Byte) (poison bad : List Nat), s.aon.up = true → bytes ≠ [] →
    (s.hSide = true → s.sp.up = true → beatsOf bytes.length ≤ s.sp.ingCredits.getD vc 0 → (∀ b ∈ bad, beatsOf bytes.length ≤ b) →
      Ends (.streamIngressPacket sub vc bytes poison bad) s fun t =>
        t.sp = { s.sp with ingress := s.sp.ingress ++ [⟨packetOf bytes ((poison.filter fun b => b < beatsOf bytes.length).map (beatRange bytes.length)), vc, beatsOf bytes.length⟩], ingCredits := s.sp.ingCredits.set vc (s.sp.ingCredits.getD vc 0 - beatsOf bytes.length) } ∧
        t.entry .tclPortStream 1 = (s.entry .tclPortStream 1 + beatsOf bytes.length) % 2 ^ 64 ∧ Only [.sp] [.tclPortStream] s t) ∧
    (s.hSide = true → s.sp.up = true → s.sp.ingCredits.getD vc 0 < beatsOf bytes.length → s.obj .pktSportErrs + 1 < 2 ^ 32 →
      Ends (.streamIngressPacket sub vc bytes poison bad) s fun t =>
        t.sp.ingress = s.sp.ingress ∧ t.sp.egress = s.sp.egress ∧ t.sp.sending = s.sp.sending ∧ t.obj .pktSportErrs = s.obj .pktSportErrs + 1 ∧
        (s.eventRoom = true → LastEvent t 0x40 1 0) ∧ t.sp.ingCredits.getD vc 0 + t.sp.ingOwed.getD vc 0 = s.sp.ingCredits.getD vc 0 + s.sp.ingOwed.getD vc 0 ∧
        (∀ o ∈ t.outbox.drop s.outbox.length, ∀ n, o = .streamCredit vc n → n = s.sp.ingCredits.getD vc 0) ∧
        Only [.sp, .mgt, .outbox] [.tclPortStream, .pktSportErrs, .mgtEvtMode, .mgtEvtDropped] s t) ∧
    (s.hSide = true → s.sp.up = true → beatsOf bytes.length ≤ s.sp.ingCredits.getD vc 0 → 0 ∈ bad → s.obj .pktSportErrs + 1 < 2 ^ 32 →
      Ends (.streamIngressPacket sub vc bytes poison bad) s fun t =>
        t.sp.ingress = s.sp.ingress ∧ t.sp.egress = s.sp.egress ∧ t.obj .pktSportErrs = s.obj .pktSportErrs + 1 ∧ Only [.sp, .outbox] [.tclPortStream, .pktSportErrs] s t) ∧
    (s.hSide = true → s.sp.up = true → beatsOf bytes.length ≤ s.sp.ingCredits.getD vc 0 → 0 ∉ bad → (∃ b ∈ bad, b < beatsOf bytes.length) → s.obj .pktSportErrs + 1 < 2 ^ 32 →
      (isRequest (Hdr.ofBytes bytes).type = true → ∀ port, port < 64 → s.repliesBy (Hdr.ofBytes bytes) port → Ends (.streamIngressPacket sub vc bytes poison bad) s fun t =>
        t.sp.ingress = s.sp.ingress ∧ t.sp.egress = s.sp.egress ∧ t.obj .pktSportErrs = s.obj .pktSportErrs + 1 ∧ Replied s t (Hdr.ofBytes bytes) stMalformed port ∧
        Only [.sp, .rl, .pk, .outbox] [.tclPortStream, .pktSportErrs, .tclPortRelay] s t) ∧
      (isRequest (Hdr.ofBytes bytes).type = false → Ends (.streamIngressPacket sub vc bytes poison bad) s fun t =>
        t.sp.ingress = s.sp.ingress ∧ t.sp.egress = s.sp.egress ∧ t.obj .pktSportErrs = s.obj .pktSportErrs + 1 ∧ Only [.sp, .outbox] [.tclPortStream, .pktSportErrs] s t)) ∧
    (s.hSide = false ∨ s.sp.up = false → exec (.streamIngressPacket sub vc bytes poison bad) s = .next s) ∧
    (∃ f, exec (.streamIngressPacket sub vc [] poison bad) s = .fault f)

/-- STREAM_EGRESS_CREDIT adds to a VC's egress credits, up to 1,023. STREAM_EGRESS_START on a free sub-port sends the head packet of a
VC whose credits cover all its beats: VC1 first, then VC2; it takes the credits, leaves the queue and goes out whole. With no VC
so covered nothing starts. STREAM_EGRESS_EOP frees the sub-port and counts the packet of its message as forwarded. HOLD_RELEASE: a
held LAST packet goes to the Stream Port's egress queue once MSG_COUNT − 1 packets of its message have been forwarded, and not
before. -/
def Obligations.StreamEgressAndHeldPackets : Prop :=
  (∀ (s : State) (sub : Fin 2), s.aon.up = true →
      (∀ (vc : Fin 8) (n : Fin 16), s.hSide = true → s.sp.up = true → exec (.streamEgressCredit vc n) s =
        .next { s with sp := { s.sp with egCredits := s.sp.egCredits.set vc (min 1023 (s.sp.egCredits.getD vc 0 + n)) } }) ∧
      (s.hSide = true → s.sp.up = true → s.sp.lock.pauses = false → s.eng.takeover = false → s.sp.sending.getD sub none = none →
        (∃ v, v < 8 ∧ s.streamEligible v = true) → Ends (.streamEgressStart sub) s fun t =>
          ∃ q ∈ s.sp.egress, (ofVc s.sp.egress q.pkt.hdr.tc).head? = some q ∧ q.pkt.beats ≤ s.sp.egCredits.getD q.pkt.hdr.tc 0 ∧
            (s.streamEligible 1 = true → q.pkt.hdr.tc = 1) ∧ (s.streamEligible 1 = false → s.streamEligible 2 = true → q.pkt.hdr.tc = 2) ∧
            t.sp.sending = s.sp.sending.set sub (some q) ∧ t.sp.egress = (s.sp.egress.filter fun x => x.id != q.id) ∧
            t.sp.egCredits = s.sp.egCredits.set q.pkt.hdr.tc (s.sp.egCredits.getD q.pkt.hdr.tc 0 - q.pkt.beats) ∧
            t.outbox = s.outbox ++ [.stream sub q.pkt.hdr.tc (q.pkt.hdr.bytes ++ q.pkt.payload) q.pkt.poisonBeats] ∧
            t.sp.ingress = s.sp.ingress ∧ t.sp.ingCredits = s.sp.ingCredits ∧ t.sp.up = s.sp.up ∧ t.sp.lock = s.sp.lock ∧
            Only [.sp, .outbox] [.tclPortStream, .tclQueueSamples] s t) ∧
      ((∀ v, v < 8 → s.streamEligible v = false) → exec (.streamEgressStart sub) s = .next s) ∧
      (∀ q, s.sp.sending.getD sub none = some q → Ends (.streamEgressEop sub) s fun t =>
        t.sp = { s.sp with sending := s.sp.sending.set sub none } ∧
        (q.pkt.hdr.msgCount = 1 ∨ s.findMsg q.pkt.hdr = none → t.pk = s.pk) ∧
        (∀ m, s.findMsg q.pkt.hdr = some m → isRequest q.pkt.hdr.type = false → q.pkt.hdr.msgCount ≠ 1 →
          (m.complete = false → t.findMsg q.pkt.hdr = some { m with forwarded := m.forwarded + 1 }) ∧
          (m.complete = true → q.pkt.hdr.msgCount ≤ m.forwarded + 1 → t.findMsg q.pkt.hdr = none)) ∧
        Only [.sp, .pk] [] s t)) ∧
  (∀ (s : State) (slot : Fin 32), s.aon.up = true → ∀ q : QPkt, s.pk.hold.getD slot none = some q → ∀ m : Msg, s.findMsg q.pkt.hdr = some m →
      (q.pkt.hdr.msgCount - 1 ≤ m.forwarded → s.sp.up = true → Ends (.holdRelease slot) s fun t =>
        t.pk = { s.pk with hold := s.pk.hold.set slot none, nextId := s.pk.nextId + 1 } ∧
        t.sp = { s.sp with egress := s.sp.egress ++ [⟨s.pk.nextId, q.pkt, s.aon.lclk, 0⟩] } ∧ Only [.pk, .sp] [.tclPortStream] s t) ∧
      (m.forwarded < q.pkt.hdr.msgCount - 1 → exec (.holdRelease slot) s = .next s))

/-- The Relay Port. A transfer with good parity waits in the relay ingress; one with a flit of bad parity is discarded, counted and
its credits given back, and a request whose header flit was good is answered with MALFORMED. RELAY_CREDIT adds credits up to
1,023. RELAY_EGRESS_START sends the head packet of a VC whose credits cover all its flits, VC1 first, and the packet counts in its
epoch's drain until DRAIN_RELAY_HOLD_END. RL_I_UP_CHANGE sets which siblings are up. -/
def Obligations.RelayTransfers : Prop :=
  ∀ s : State, s.aon.up = true → s.linkCore = true →
    (∀ (vc : Fin 8) (flits : List (List Byte)) (bad : List Nat), flits ≠ [] → (flits.all fun f => f.length == 256) = true →
      ((∀ b ∈ bad, flits.length ≤ b) → Ends (.relayIngressPacket vc flits bad) s fun t =>
        t.rl = { s.rl with ingress := s.rl.ingress ++ [⟨relayPacket vc flits, vc, flits.length⟩] } ∧ t.fld .pktRelayState 0 0 = 1 ∧
        t.entry .tclPortRelay 1 = (s.entry .tclPortRelay 1 + flits.length) % 2 ^ 64 ∧ Only [.rl] [.pktRelayState, .tclPortRelay] s t) ∧
      (0 ∈ bad → s.obj .pktRelayErrs + 1 < 2 ^ 32 → Ends (.relayIngressPacket vc flits bad) s fun t =>
        t.obj .pktRelayErrs = s.obj .pktRelayErrs + 1 ∧ t.outbox = s.outbox ++ [.relayCredit vc flits.length] ∧
        Only [.outbox] [.pktRelayState, .tclPortRelay, .pktRelayErrs] s t) ∧
      (0 ∉ bad → (∃ b ∈ bad, b < flits.length) → s.obj .pktRelayErrs + 1 < 2 ^ 32 →
        (isRequest (relayPacket vc flits).hdr.type = true → ∀ port, port < 64 → s.repliesBy (relayPacket vc flits).hdr port → Ends (.relayIngressPacket vc flits bad) s fun t =>
          t.obj .pktRelayErrs = s.obj .pktRelayErrs + 1 ∧ Replied s t (relayPacket vc flits).hdr stMalformed port ∧ t.outbox = s.outbox ++ [.relayCredit vc flits.length] ∧
          Only [.rl, .pk, .outbox] [.pktRelayState, .tclPortRelay, .pktRelayErrs] s t) ∧
        (isRequest (relayPacket vc flits).hdr.type = false → Ends (.relayIngressPacket vc flits bad) s fun t =>
          t.obj .pktRelayErrs = s.obj .pktRelayErrs + 1 ∧ t.outbox = s.outbox ++ [.relayCredit vc flits.length] ∧ Only [.outbox] [.pktRelayState, .tclPortRelay, .pktRelayErrs] s t))) ∧
    (∀ (vc : Fin 8) (n : Fin 16), exec (.relayCredit vc n) s =
      .next { s with rl := { s.rl with credits := s.rl.credits.set vc (min 1023 (s.rl.credits.getD vc 0 + n)) } }) ∧
    (s.rl.lock.pauses = false → s.eng.takeover = false → (∃ v, v < 8 ∧ s.relayEligible v = true) → Ends .relayEgressStart s fun t =>
      ∃ q ∈ s.rl.egress, (ofVc s.rl.egress q.pkt.hdr.tc).head? = some q ∧ q.pkt.flits ≤ s.rl.credits.getD q.pkt.hdr.tc 0 ∧
        (s.relayEligible 1 = true → q.pkt.hdr.tc = 1) ∧ t.rl.egress = (s.rl.egress.filter fun x => x.id != q.id) ∧
        t.rl.credits = s.rl.credits.set q.pkt.hdr.tc (s.rl.credits.getD q.pkt.hdr.tc 0 - q.pkt.flits) ∧
        t.rl.holds = s.rl.holds ++ [(q.pkt.hdr.epoch, s.aon.lclk)] ∧ t.rl.ingress = s.rl.ingress ∧ t.rl.siblings = s.rl.siblings ∧
        t.outbox = s.outbox ++ [.relay q.port q.pkt.hdr.tc (q.pkt.cut.map fun (x : Cut) => x.relayFlit q.pkt.hdr.tc)] ∧
        Only [.rl, .outbox] [.tclPortRelay, .tclQueueSamples] s t) ∧
    ((∀ v, v < 8 → s.relayEligible v = false) → exec .relayEgressStart s = .next s) ∧
    (∀ bits : Nat, Ends (.rlIUpChange bits) s fun t =>
      t.rl = { s.rl with siblings := bits % 2 ^ 64 } ∧ t.fld .pktRelayState 0 0 = 1 ∧ t.fld .pktRelayState 2 1 = s.fld .pktRelayState 2 1 ∧
      Only [.rl] [.pktRelayState] s t) ∧
    (∀ (e stamp : Nat) (rest : List (Nat × Nat)), s.rl.holds = (e, stamp) :: rest → Ends .drainRelayHoldEnd s fun t =>
      t = { s with rl := { s.rl with holds := rest } } ∧ t.drain e + 1 = s.drain e)

/-! ### The Stack Port -/

/-- The arbiter of a pseudo-channel: a packet request of TC 1 or TC 2 goes first; else a deadline array access while the array has
used fewer than its share of the frame; and whatever waits, something is chosen, and only what waits. A command of the Stack Port
from its issue to its acceptance. STACK_CMD_ISSUE moves the access that the arbiter chooses from the wait list to the command
queue with a free tag; nothing is issued to a pseudo-channel that is down. STACK_CMD_ACCEPT makes the oldest queued command
outstanding and puts it on the pins of its pseudo-channel. -/
def Obligations.StackCommands : Prop :=
  (∀ (share arrUsed pktUsed : Nat) (l : List StkOp),
      ((∃ o ∈ l, o.arr = false ∧ o.walks = false ∧ isDl o.tc = true) →
        ∃ o ∈ l, arbitrate share arrUsed pktUsed l = some o ∧ o.arr = false ∧ o.walks = false ∧ isDl o.tc = true) ∧
      ((∀ o ∈ l, o.arr = false → o.walks = false → isDl o.tc = false) → (∃ o ∈ l, o.arr = true ∧ isDl o.tc = true) → arrUsed < share →
        ∃ o ∈ l, arbitrate share arrUsed pktUsed l = some o ∧ o.arr = true ∧ isDl o.tc = true) ∧
      (l ≠ [] → ∃ o ∈ l, arbitrate share arrUsed pktUsed l = some o) ∧ (l = [] → arbitrate share arrUsed pktUsed l = none)) ∧
  (∀ (s : State) (p : Fin 32), s.aon.up = true →
      (∀ op, arbitrate (s.obj .arrStackShare) (s.pc p).arrUsed (s.pc p).pktUsed (s.issuable (s.pc p) [] (s.pc p).waiting) = some op →
        ∀ tag, (s.pc p).freeTag = some tag → s.stackRuns = true → s.stk.lock.pauses = false → (s.obj .stkPcState).testBit p = false →
        (s.pc p).queue.length < 16 → op.step = .read → s.stk.pcs.length = 32 → Ends (.stackCmdIssue p) s fun t =>
          (t.pc p).waiting = (s.pc p).waiting.erase op ∧ (t.pc p).queue = (s.pc p).queue ++ [{ op with data := [], md := 0, tag := tag }] ∧
          (t.pc p).outstanding = (s.pc p).outstanding ∧ (∀ x ∈ (s.pc p).queue ++ (s.pc p).outstanding, x.tag ≠ tag) ∧
          (∀ q, q ≠ p.val → t.pc q = s.pc q) ∧ t.stk.jobs = s.stk.jobs ∧ t.stk.slots = s.stk.slots ∧ Only [.stk] [] s t) ∧
      ((s.obj .stkPcState).testBit p = true → exec (.stackCmdIssue p) s = .next s) ∧
      (∀ op rest, (s.pc p).queue = op :: rest → s.sSide = true → s.stk.up = true → s.poweredDom 18 = true → Ends (.stackCmdAccept p) s fun t =>
          t.stk = { s.stk with pcs := s.stk.pcs.set p { s.pc p with queue := rest, outstanding := (s.pc p).outstanding ++ [op] } } ∧
          (op.isWrite = false → t.outbox = s.outbox ++ [.stackCmd p false (op.addr / 32) op.tag (zeros 64) 0]) ∧
          (op.isWrite = true → t.outbox = s.outbox ++ [.stackCmd p true (op.addr / 32) op.tag op.data op.md]) ∧ Only [.stk, .outbox] [] s t))

/-- STACK_RESPONSE and its timeout, for a sector of a packet request that has further sectors to come. A good read gives the sector
its plaintext and OK; one whose metadata names another partition is refused with DENIED and counted; an accepted write is OK and
one with an error UNCORRECTABLE. STACK_RSP_TIMEOUT completes the sector with TIMEOUT and keeps the tag out of use; a response that
comes late is counted and frees the tag. Where it rests on choices of the model: notes/assumptions/8, 30. -/
def Obligations.StackResponses : Prop :=
  ∀ (s : State) (p : Fin 32) (tag : Fin 256), s.aon.up = true → s.sSide = true → s.stk.up = true → s.poweredDom 18 = true →
    (∀ op, ((s.pc p).outstanding.find? fun o => o.tag == tag.val) = some op → ∀ j ∈ s.stk.jobs, (s.stk.jobs.find? fun x => x.id == j.id) = some j →
      ∀ idx : Nat, op.use = .packet j.id idx → op.rmw = false → 1 < j.left →
      (∀ data : List Byte, data.length = 64 → ∀ (md : Nat) (key : List Byte), op.step = .read → md < 2 ^ 64 → metaTag md = op.part →
        outerFix data md = some (data, md % 2 ^ 32, 0) → metaFault md = false → metaForm md = 0 → metaPoison md = 0 →
        (s.slot op.part).named (metaKsel md) = some key → Ends (.stackResponse p tag data md 0) s fun t =>
          t.stk = { s.stk with pcs := s.stk.pcs.set p { s.pc p with outstanding := (s.pc p).outstanding.erase op }, jobs := s.stk.jobs.map fun x => if x.id == j.id then { j with left := j.left - 1, results := j.results.set idx (stOk, xtsDecrypt key op.addr data, false) } else x } ∧
          Only [.stk] [] s t) ∧
      (∀ data : List Byte, data.length = 64 → ∀ md : Nat, op.step = .read → md < 2 ^ 64 → metaTag md ≠ op.part →
        s.obj .stkTagMismatch + 1 < 2 ^ 32 → s.obj .stkDenied + 1 < 2 ^ 32 → Ends (.stackResponse p tag data md 0) s fun t =>
          (t.stk.jobs.find? fun x => x.id == j.id) = some { j with left := j.left - 1, results := j.results.set idx (stDenied, zeros 64, false) } ∧
          t.obj .stkTagMismatch = s.obj .stkTagMismatch + 1 ∧ t.obj .stkDenied = s.obj .stkDenied + 1 ∧
          Only [.stk] [.stkTagMismatch, .stkDenied] s t) ∧
      (∀ data : List Byte, data.length = 64 → ∀ (md : Nat) (err : Fin 4), op.step = .write → Ends (.stackResponse p tag data md err) s fun t =>
          (t.stk.jobs.find? fun x => x.id == j.id) = some { j with left := j.left - 1, results := j.results.set idx (if err.val ≥ 2 then stUncorrectable else stOk, zeros 64, decide (err.val ≥ 2)) } ∧
          Only [.stk] [] s t) ∧
      (op.step = .read → Ends (.stackRspTimeout p tag) s fun t =>
          t.stk = { s.stk with pcs := s.stk.pcs.set p { s.pc p with outstanding := (s.pc p).outstanding.erase op, heldTags := tag.val :: (s.pc p).heldTags }, jobs := s.stk.jobs.map fun x => if x.id == j.id then { j with left := j.left - 1, results := j.results.set idx (stTimeout, zeros 64, true) } else x } ∧
          Only [.stk] [] s t)) ∧
    (((s.pc p).outstanding.find? fun o => o.tag == tag.val) = none → s.obj .stkLateRsp + 1 < 2 ^ 32 →
      (∀ data : List Byte, data.length = 64 → ∀ (md : Nat) (err : Fin 4), Ends (.stackResponse p tag data md err) s fun t =>
          t.stk = { s.stk with pcs := s.stk.pcs.set p { s.pc p with heldTags := (s.pc p).heldTags.erase tag.val } } ∧
          t.obj .stkLateRsp = s.obj .stkLateRsp + 1 ∧ Only [.stk] [.stkLateRsp] s t) ∧
      exec (.stackRspTimeout p tag) s = .next s)

/-- SK_PC_DOWN[p] rising: bit p of STK_PC_STATE is set, an event says so, and an array access outstanding there ends with
UNCORRECTABLE; every command of the pseudo-channel is gone. The pin falling, or moving on the H-side, only moves. The walks of the
Stack Port, while no pseudo-channel is down. SCRUB_READ reads the sector at STK_SCRUB_POS where that lies in a valid partition,
and pauses while a rekey walk is pending. REKEY_STEP reads the next sector of the lowest slot that walks; past the partition's
last sector the walk is done and the digest generation advances. Where it rests on choices of the model: notes/assumptions/3. -/
def Obligations.StackWalksAndPinDown : Prop :=
  (∀ (s : State) (p : Fin 32), s.aon.up = true →
      (s.sSide = true → s.stk.downPins.testBit p = false → s.stk.pcs.length = 32 → (s.pc p).queue = [] → (s.pc p).waiting = [] →
        ((s.pc p).outstanding = [] ∨ ∃ op ∈ (s.pc p).outstanding, (s.pc p).outstanding = [op] ∧ op.step = .read ∧ op.rmw = false ∧ ∃ a ∈ s.arr.accesses, op.use = .access a.id) →
        Ends (.skPcDown p true) s fun t =>
          t.obj .stkPcState = setBit (s.obj .stkPcState) p true ∧ (t.pc p).outstanding = [] ∧ (t.pc p).heldTags = (s.pc p).heldTags ∧
          (∀ op ∈ (s.pc p).outstanding, ∀ a ∈ t.arr.accesses, op.use = .access a.id → a.done = some (stUncorrectable, false, zeros 64)) ∧
          (∀ q, q ≠ p.val → t.pc q = s.pc q) ∧ (s.eventRoom = true → LastEvent t 0x70 2 p) ∧
          Only [.stk, .arr, .mgt, .outbox] [.stkPcState, .stkPartDegraded, .mgtEvtMode, .mgtEvtDropped] s t) ∧
      exec (.skPcDown p false) s = .next { s with stk := { s.stk with downPins := setBit s.stk.downPins p false } } ∧
      (∀ level : Bool, s.sSide = false → exec (.skPcDown p level) s = .next { s with stk := { s.stk with downPins := setBit s.stk.downPins p level } })) ∧
  (∀ s : State, s.aon.up = true → s.stackRuns = true → s.stk.pcs.length = 32 → s.obj .stkPcState = 0 →
      (s.obj .stkScrubEn = 1 → s.stk.scrubBusy = false → s.rekeyPending = false → s.partValid (s.fld .stkScrubPos 47 40) = true →
        s.partBase (s.fld .stkScrubPos 47 40) ≤ s.fld .stkScrubPos 39 0 → s.fld .stkScrubPos 39 0 ≤ s.partLimit (s.fld .stkScrubPos 47 40) →
        Ends .scrubRead s fun t =>
          t.stk.scrubBusy = true ∧
          (t.pc (s.fld .stkScrubPos 39 0 % 32)).waiting = (s.pc (s.fld .stkScrubPos 39 0 % 32)).waiting ++ [⟨s.fld .stkScrubPos 39 0, s.fld .stkScrubPos 47 40, .read, .scrub, 7, false, [], 0, false, false, 0⟩] ∧
          t.stk.jobs = s.stk.jobs ∧ Only [.stk] [] s t) ∧
      (s.rekeyPending = true → exec .scrubRead s = .next s) ∧
      (∀ slot, slot < 256 → ∀ a, (s.slot slot).walk = some a → (∀ q, q < slot → (s.slot q).walk = none) → s.stk.rekeyBusy = false →
        (a ≤ s.partLimit slot → Ends .rekeyStep s fun t =>
          t.stk.rekeyBusy = true ∧ (t.pc (a % 32)).waiting = (s.pc (a % 32)).waiting ++ [⟨a, slot, .read, .rekey slot, 7, false, [], 0, false, false, 0⟩] ∧
          t.stk.slots = s.stk.slots ∧ t.stk.jobs = s.stk.jobs ∧ Only [.stk] [] s t) ∧
        (s.partLimit slot < a → s.obj .stkDigestGenNow + 1 < 2 ^ 32 → Ends .rekeyStep s fun t =>
          t.slot slot = { s.slot slot with walk := none, walkDone := true } ∧ t.stk.pcs = s.stk.pcs ∧
          t.obj .stkDigestGenNow = s.obj .stkDigestGenNow + 1 ∧ t.obj .stkDigestState = 1 ∧
          Only [.stk] [.stkDigestGenNow, .stkDigestState] s t)))

/-! ### The object dictionary -/

/-- OBJECT_WRITE. A plain configuration object takes a valid value, whoever writes it, and nothing else of the dictionary changes; a
value outside its range is refused with DENIED. A read-only object whose unit has power answers DENIED, an offset past an object's
end OUT_OF_RANGE, and an index that holds nothing DENIED, and nothing is written. The dictionary window. DX_SEL_WRITE selects an
object and starts at offset 0; DX_DATA_READ answers the selected word of a small object and moves on by one word, and
DX_DATA_WRITE writes it and moves on. The sequencer's mailbox commands on a message that it holds for mailbox 0: OBJ_READ of
PKT_FA replies OK and the object's two bytes, and OBJ_WRITE of PKT_OWN_EP replies OK and stores the value. Where it rests on
choices of the model: notes/assumptions/13, 48. -/
def Obligations.ObjectAccesses : Prop :=
  (∀ (r : Requester) (s : State), s.aon.up = true → s.heard r = true →
      (∀ o : Obj, o ∈ [Obj.pktOwnEp, .pktAdaptBias, .lnkIdleLimit, .tclSampleLog] → ∀ v : Nat, v < 2 ^ (8 * o.row.layout.bytes) →
        (o.valid 0 (o.fit 0 v) = true → Ends (.objectWrite r o.row.index o.row.sub 0 (toBytes o.row.layout.bytes v)) s fun t =>
          t.obj o = o.fit 0 v ∧ t.outbox = s.outbox ++ [.reply 0 0] ∧ t.mgt.locks = s.mgt.locks ∧ t.mgt.mailboxes = s.mgt.mailboxes ∧
          t.mgt.events = s.mgt.events ∧ Only [.mgt, .outbox] [o] s t) ∧
        (o.valid 0 (o.fit 0 v) = false → Ends (.objectWrite r o.row.index o.row.sub 0 (toBytes o.row.layout.bytes v)) s fun t =>
          t.outbox = s.outbox ++ [.reply 3 0] ∧ Only [.mgt, .outbox] [] s t)) ∧
      (∀ o : Obj, o.row.access = .ro → s.holderOn o = true → ∀ b : Byte,
        exec (.objectWrite r o.row.index o.row.sub 0 [b]) s = .next { s with outbox := s.outbox ++ [.reply 3 0] }) ∧
      (∀ o : Obj, s.mayWrite o r = true → s.holderOn o = true → ∀ b : Byte,
        exec (.objectWrite r o.row.index o.row.sub (4 * o.row.layout.bytes) [b]) s = .next { s with outbox := s.outbox ++ [.reply 4 0] }) ∧
      (∀ (index sub off : Nat) (data : List Byte), objAt index sub = none →
        exec (.objectWrite r index sub off data) s = .next { s with outbox := s.outbox ++ [.reply 3 0] })) ∧
  (∀ (sec : Bool) (s : State), s.aon.up = true → s.pwr.hclkStop = false →
      (∀ value : Nat, Ends (.dxSelWrite sec value) s fun t =>
        t.mgt = { s.mgt with dxSel := field value 31 8 * 2 ^ 8, dxOffset := 0, capPort := { s.mgt.capPort with obj := none, base := 0, data := [] } } ∧
        t.outbox = s.outbox ++ [.reply 0 0] ∧ Only [.mgt, .outbox] [] s t) ∧
      (∀ o : Obj, o ∈ [Obj.pktOwnEp, .pktFa, .lnkState, .tclSampleLog] → s.holderOn o = true →
        s.mgt.dxSel = o.row.index * 2 ^ 16 + o.row.sub * 2 ^ 8 → s.mgt.dxOffset = 0 →
        (Ends (.dxDataRead sec) s fun t =>
          t.outbox = s.outbox ++ [.reply 0 (s.obj o)] ∧ t.mgt.dxOffset = 4 ∧ t.mgt.dxSel = s.mgt.dxSel ∧ t.mgt.locks = s.mgt.locks ∧
          Only [.mgt, .outbox] [] s t) ∧
        (o = .pktOwnEp → ∀ v : Nat, v < 2 ^ 20 → Ends (.dxDataWrite sec v) s fun t =>
          t.obj o = v ∧ t.outbox = s.outbox ++ [.reply 0 0] ∧ t.mgt.dxOffset = 4 ∧ t.mgt.dxSel = s.mgt.dxSel ∧ t.mgt.locks = s.mgt.locks ∧
          Only [.mgt, .outbox] [o] s t) ∧
        (o = .lnkState → ∀ v : Nat, Ends (.dxDataWrite sec v) s fun t =>
          t.outbox = s.outbox ++ [.reply 3 0] ∧ t.mgt.dxOffset = 4 ∧ Only [.mgt, .outbox] [] s t))) ∧
  (∀ (s : State) (tag : Byte), s.aon.up = true → s.seqRuns = true → s.mgt.mailboxes.length = 6 → (s.mbx 0).inFull = false →
      (s.mgt.taken = [⟨0, false, [2, tag, 0, 0, 0x00, 0x40, 1, 0, 0, 0, 2, 0, 0, 0, 0, 0]⟩] → Ends .objRead s fun t =>
        t.mgt.taken = [] ∧ (t.mbx 0).inFull = true ∧ (t.mbx 0).inStatus = 0 ∧ (t.mbx 0).inLen = 18 ∧
        slice (t.mbx 0).inn 0 3 = [0x82, tag, 0] ∧ slice (t.mbx 0).inn 16 2 = toBytes 2 (s.obj .pktFa) ∧
        (∀ j, j ≠ 0 → t.mbx j = s.mbx j) ∧ t.mgt.locks = s.mgt.locks ∧ Only [.mgt] [] s t) ∧
      (∀ v : Nat, v < 2 ^ 20 → s.mgt.taken = [⟨0, false, [3, tag, 0, 0, 0x00, 0x40, 2, 0, 0, 0, 4, 0, 0, 0, 0, 0] ++ toBytes 4 v⟩] → Ends .objWrite s fun t =>
        t.mgt.taken = [] ∧ (t.mbx 0).inFull = true ∧ (t.mbx 0).inStatus = 0 ∧ slice (t.mbx 0).inn 0 3 = [0x83, tag, 0] ∧
        t.obj .pktOwnEp = v ∧ (∀ j, j ≠ 0 → t.mbx j = s.mbx j) ∧ t.mgt.locks = s.mgt.locks ∧ Only [.mgt] [.pktOwnEp] s t))

/-- Rows that write one object of the packet engine and of the classes. PKT_FA changes only while the instance holds no packet and no
open message, and the far instance then learns the slate. PKT_ROUTE_ACTIVE flips the epoch and counts the change. A route table
takes an entry only while it is inactive and drained. A TCL_RECHECK_RATE of 0 to 2 starts a check; CIDX advances only up to PIDX;
the others answer DENIED. -/
def Obligations.PacketConfigurationWrites : Prop :=
  ∀ (r : Requester) (s : State) (v : Nat), s.aon.up = true → s.heard r = true → s.obj .mgtSeal = 0 → s.pk.ownWait = [] →
    (s.sp.up = false → s.sbUp = true → s.idlePackets = true → v < 2 ^ 12 → Ends (.pktFaWrite r v) s fun t =>
      t.obj .pktFa = v ∧ t.outbox = s.outbox ++ [.sideband 2 t.slate, .reply 0 0] ∧ Only [.outbox] [.pktFa] s t) ∧
    (s.idlePackets = false → exec (.pktFaWrite r v) s = .next { s with outbox := s.outbox ++ [.reply 3 0] }) ∧
    (v ≤ 1 → s.epochNow ≠ v → s.flowsUsed = [] → (∀ i, i < 256 → s.entry .tclFlowState i = 0) → s.obj .pktRouteFlips + 1 < 2 ^ 32 →
      Ends (.routeActiveWrite r v) s fun t =>
        t.obj .pktRouteActive = v ∧ t.epochNow = v ∧ t.obj .pktRouteFlips = s.obj .pktRouteFlips + 1 ∧ t.outbox = s.outbox ++ [.reply 0 0] ∧
        Only [.outbox] [.pktRouteActive, .pktRouteFlips] s t) ∧
    (∀ (table : Fin 2) (die : Fin 64), v < 2 ^ 16 →
      (s.epochNow ≠ table.val → s.drain table.val = 0 → Ends (.routeTableWrite r table die v) s fun t =>
        t.entry (if table.val = 0 then .pktRouteA else .pktRouteB) die = v ∧ t.outbox = s.outbox ++ [.reply 0 0] ∧
        (∀ d, d ≠ die.val → t.entry (if table.val = 0 then .pktRouteA else .pktRouteB) d = s.entry (if table.val = 0 then .pktRouteA else .pktRouteB) d) ∧
        Only [.outbox] [if table.val = 0 then .pktRouteA else .pktRouteB] s t) ∧
      (s.epochNow = table.val ∨ s.drain table.val ≠ 0 → exec (.routeTableWrite r table die v) s = .next { s with outbox := s.outbox ++ [.reply 3 0] })) ∧
    (v ≤ 2 → Ends (.tclRecheckRate r v) s fun t =>
      t.cls = { s.cls with recheck := some v } ∧ t.obj .tclRecheckResult = 0 ∧ t.outbox = s.outbox ++ [.reply 0 0] ∧
      Only [.cls, .outbox] [.tclRecheckResult] s t) ∧
    (v < 2 ^ 32 → s.cidxBad v = false → Ends (.mgtEvtCidxWrite r v) s fun t =>
      t.obj .mgtEvtCidx = v ∧ t.outbox = s.outbox ++ [.reply 0 0] ∧ Only [.outbox] [.mgtEvtCidx] s t) ∧
    (v < 2 ^ 32 → s.cidxBad v = true → exec (.mgtEvtCidxWrite r v) s = .next { s with outbox := s.outbox ++ [.reply 3 0] })

/-- MGT_SEAL: a secure requester sets it; only AON power-up clears it, and until then RW-locked objects are refused. A requester that
is not secure is refused. PHY_GROUP_OFF with no lane of a new group active and the link down powers the group off and fails its
lanes; with an active lane it only raises an event. LNK_SPILL_EN takes the value, and the spill state follows on a link that is
up. ACK_TIMEOUT_REPLAY with flits in flight and no spilled block starts a replay from the oldest, counted. SPILL_WRITE, with all
64 blocks in use, writes the oldest block that is not being written: on the S-side a record of 64 sectors goes to the stack, on
the H-side a WR_REQ with the encrypted record leaves by the Stream Port. SPILL_WRITE_DONE with OK frees the block; a failure stops
the spill region with an event. SPILL_READ_DONE gives back the record's flits that are not acknowledged. Where it rests on choices
of the model: notes/assumptions/22. -/
def Obligations.SealGroupAndSpill : Prop :=
  (∀ (r : Requester) (s : State), s.aon.up = true → s.heard r = true →
      (isSecure r = true → Ends (.mgtSeal r 1) s fun t =>
        t.obj .mgtSeal = 1 ∧ t.outbox = s.outbox ++ [.reply 0 0] ∧ Only [.outbox] [.mgtSeal] s t) ∧
      (isSecure r = true → exec (.mgtSeal r 0) s = .next { s with outbox := s.outbox ++ [.reply 0 0] }) ∧
      (isSecure r = false → ∀ v, exec (.mgtSeal r v) s = .next { s with outbox := s.outbox ++ [.reply 3 0] }) ∧
      (s.obj .mgtSeal = 1 → ∀ o : Obj, o.row.access = .rwLocked → ∀ b : Byte,
        exec (.objectWrite r o.row.index o.row.sub 0 [b]) s = .next { s with outbox := s.outbox ++ [.reply 3 0] }) ∧
      (∀ g, g < 8 → s.obj .phyGroupOff = 0 → s.linkUp = false → s.groupActive g = false → s.cal.recal = none → s.cal.scan = none → s.cal.monitor = none →
        s.scr.running = [] → Ends (.phyGroupOffWrite r (2 ^ g)) s fun t =>
          t.obj .phyGroupOff = 2 ^ g ∧ t.poweredDom (2 + g) = false ∧ (∀ p, 9 * g ≤ p → p < 9 * g + 9 → t.rxFailed p = true) ∧
          (∀ d, d ≠ 2 + g → t.poweredDom d = s.poweredDom d) ∧ t.outbox = s.outbox ++ [.reply 0 0] ∧ t.pwr.fwImage = s.pwr.fwImage ∧
          Only [.pwr, .outbox] [.phyGroupOff, .phyRxFailed, .phyTxFailed] s t) ∧
      (∀ g, g < 8 → s.obj .phyGroupOff = 0 → s.groupActive g = true → Ends (.phyGroupOffWrite r (2 ^ g)) s fun t =>
          t.outbox.getLast? = some (.reply 0 0) ∧ (s.eventRoom = true → LastEvent t 0x23 1 1) ∧ Only [.mgt, .outbox] [.mgtEvtMode, .mgtEvtDropped] s t) ∧
      (∀ v, v < 2 → Ends (.lnkSpillEnWrite r v) s fun t =>
        t.obj .lnkSpillEn = v ∧ (s.linkUp = true → s.fld .lnkSpillState 1 1 = 0 → t.fld .lnkSpillState 0 0 = v) ∧
        (s.linkUp = false → t.obj .lnkSpillState = s.obj .lnkSpillState) ∧ t.outbox = s.outbox ++ [.reply 0 0] ∧
        Only [.outbox] [.lnkSpillEn, .lnkSpillState] s t)) ∧
  (∀ s : State, s.aon.up = true →
      (s.linkUp = true → s.inFlight ≠ 0 → s.tx.spilled = [] → s.obj .lnkTimeoutReplays + 1 < 2 ^ 32 → Ends .ackTimeoutReplay s fun t =>
        t.tx = { s.tx with replay := some s.txA, replayBase := s.txA, readBack := [], reading := [] } ∧
        t.obj .lnkTimeoutReplays = s.obj .lnkTimeoutReplays + 1 ∧ Only [.tx] [.lnkTimeoutReplays] s t) ∧
      (s.inFlight = 0 → exec .ackTimeoutReplay s = .next s) ∧
      (s.sSide = true → s.linkUp = true → s.obj .lnkSpillEn = 1 → s.fld .lnkSpillState 1 1 = 0 → 64 ≤ s.onChip.length → s.tx.spillKey ≠ none → s.obj .stkPcState = 0 →
        s.stk.pcs.length = 32 → ∀ b, s.onChip.find? (fun b => !s.tx.writing.contains b) = some b → Ends .spillWrite s fun t =>
          t.tx = { s.tx with writing := s.tx.writing ++ [b] } ∧ (∃ j ∈ t.stk.jobs.getLast?, t.stk.jobs = s.stk.jobs ++ [j] ∧ j.own = some (.spillWrite b) ∧ j.left = 64) ∧
          t.stk.slots = s.stk.slots ∧ Only [.tx, .stk] [] s t) ∧
      (s.hSide = true → s.linkUp = true → s.obj .lnkSpillEn = 1 → s.fld .lnkSpillState 1 1 = 0 → 64 ≤ s.onChip.length → s.fenced = false → s.fa ≠ 0xFFF → s.sp.up = true →
        s.pk.own = [] → s.pk.ownWait = [] → ∀ k, s.tx.spillKey = some k → ∀ b, s.onChip.find? (fun b => !s.tx.writing.contains b) = some b → Ends .spillWrite s fun t =>
          t.tx = { s.tx with writing := s.tx.writing ++ [b] } ∧ (t.pk.own.map fun r => (r.tag, r.use)) = [(0, .spillWrite b)] ∧
          (∃ q ∈ t.sp.egress.getLast?, t.sp = { s.sp with egress := s.sp.egress ++ [q] } ∧ q.pkt.hdr.type = tWrReq ∧ q.pkt.hdr.dst = s.tx.place.fa ∧ q.pkt.hdr.addr = s.spillAddr b ∧
            q.pkt.payload = spillCrypt true (toBytes 64 k) (s.spillAddr b) (s.spillRecord b)) ∧ Only [.tx, .pk, .sp] [.tclPortStream] s t) ∧
      (s.onChip.length < 64 → exec .spillWrite s = .next s) ∧
      (∀ d ∈ s.pk.done, ∀ b, d.use = .spillWrite b → s.pk.done.find? (fun x => x.use == d.use && x.status == d.status) = some d → s.tx.writing.contains b = true →
        (d.status = 0 → s.obj .lnkSpillWrites + 1 < 2 ^ 32 → Ends (.spillWriteDone b 0) s fun t =>
          t.tx = { s.tx with retake := s.tx.retake.filter (fun r => blockOf r.seq != b), spilled := s.tx.spilled ++ [b], writing := s.tx.writing.erase b } ∧
          t.pk = { s.pk with done := s.pk.done.erase d } ∧ t.obj .lnkSpillWrites = s.obj .lnkSpillWrites + 1 ∧
          Only [.tx, .pk] [.lnkSpillWrites, .lnkSpillState] s t) ∧
        (d.status ≠ 0 → Ends (.spillWriteDone b d.status) s fun t =>
          t.tx = { s.tx with writing := s.tx.writing.erase b } ∧ t.fld .lnkSpillState 1 0 = 2 ∧ (s.eventRoom = true → LastEvent t 0x31 1 0) ∧
          Only [.tx, .pk, .mgt, .outbox] [.lnkSpillState, .mgtEvtMode, .mgtEvtDropped] s t)) ∧
      (∀ d ∈ s.pk.done, ∀ b, d.use = .spillRead b → d.status = 0 → s.pk.done.find? (fun x => x.use == d.use && x.status == d.status) = some d → s.tx.reading.contains b = true →
        s.sSide = true → Ends (.spillReadDone b 0 d.data) s fun t =>
          t.tx = { s.tx with reading := s.tx.reading.erase b, readBack := s.tx.readBack ++ (recordFlits b d.data).filter fun r => s.tx.unacked.any fun u => u.seq == r.seq } ∧
          t.pk = { s.pk with done := s.pk.done.erase d } ∧ Only [.tx, .pk] [] s t))

/-! ### The sideband -/

/-- The sideband's lanes and frames. A lane that fails is marked, the far side is told on what is left, and an event says so; a lane
that is usable again is marked and told; SB_STATE_TIMER tells again. SB_STATE brings the far side's view, and an event when no
lane is left. A damaged, unknown or long frame is counted and dropped. SLATE stores the far slate, and character lock lets frames
leave. -/
def Obligations.SidebandLanesAndFrames : Prop :=
  ∀ s : State, s.aon.up = true →
    (∀ lane : Fin 2, s.sb.rxUsable = 3 → s.sb.farUsable ≠ 0 → Ends (.sbLaneFailed lane) s fun t =>
      t.sb = { s.sb with rxUsable := 2 - lane.val } ∧ (s.sb.synced = true → Out.sideband 5 [b8 (2 - lane.val)] ∈ t.outbox) ∧
      (s.eventRoom = true → LastEvent t 0x23 1 0) ∧ Only [.sb, .mgt, .outbox] [.mgtEvtMode, .mgtEvtDropped] s t) ∧
    (∀ lane : Fin 2, s.sb.rxUsable = 2 - lane.val → Ends (.sbLaneUsable lane) s fun t =>
      t.sb = { s.sb with rxUsable := 3 } ∧
      t.outbox = s.outbox ++ (if s.sb.synced && s.sb.farUsable != 0 then [.sideband 5 [3]] else []) ∧ Only [.sb, .outbox] [] s t) ∧
    (∀ lane : Fin 2, s.sb.rxUsable.testBit lane = true → exec (.sbLaneUsable lane) s = .next s) ∧
    (s.sb.synced = true → s.sb.farUsable ≠ 0 → exec .sbStateTimer s = .next { s with outbox := s.outbox ++ [.sideband 5 [b8 s.sb.rxUsable]] }) ∧
    (∀ bits : Nat, s.sb.synced = true → s.sb.rxUsable ≠ 0 →
      (bits % 4 ≠ 0 → exec (.sbState bits) s = .next { s with sb := { s.sb with farUsable := bits % 4 } }) ∧
      (bits % 4 = 0 → s.sb.farUsable ≠ 0 → s.linkUp = false → Ends (.sbState bits) s fun t =>
        t.sb = { s.sb with farUsable := 0 } ∧ (s.eventRoom = true → LastEvent t 0x23 1 0) ∧ Only [.sb, .mgt, .outbox] [.mgtEvtMode, .mgtEvtDropped] s t)) ∧
    (∀ type len : Nat, s.obj .phySbErrs + 1 < 2 ^ 32 → (frameKnown type = false ∨ 64 < len) → ∀ crcOk : Bool, Ends (.sidebandFrameDiscard type len crcOk) s fun t =>
      t.obj .phySbErrs = s.obj .phySbErrs + 1 ∧ Only [] [.phySbErrs] s t) ∧
    (∀ type len : Nat, frameKnown type = true → len ≤ 64 → exec (.sidebandFrameDiscard type len true) s = .next s) ∧
    (∀ bytes : List Byte, bytes.length = 48 → s.sbUp = true → s.trn.running = false → Ends (.slate bytes) s fun t =>
      (∀ i, i < 48 → t.entry .pktFarSlate i = valAt bytes i 1) ∧ t.trn = { s.trn with slateSeen := false } ∧ Only [.trn] [.pktFarSlate] s t) ∧
    (s.trn.running = false → exec .sbCharacterLock s = .next { s with sb := { s.sb with synced := true } })

/-! ### Training -/

/-- TRN_START in LNK_STATE 0 or 4, with a rate code that passed and a link core that may train: the first attempt begins in SB_SYNC,
the limits of the attempt come into force, and the write answers OK. PLANNED_RETRAIN on an ACTIVE link holds new packets and
announces the retrain. In any other LNK_STATE either write is refused with DENIED. A state of training that times out, outside
LATENCY: up to the third time a new attempt begins and PHY_TRN_FAILS shows the state; the fourth ends training with LNK_STATE 4,
an event and no frame that repeats. TRAIN frames bring the far side's state and results; a DOWN frame on a link that is not up
changes nothing. TRAIN_FRAME_REPEAT sends the last frame again while the far side has not gone past it. The ends of CONNECT,
EQUALISE and LANE_CHECK here, while the far side has not ended them: the result is stored and goes to the far side in a TRAIN
frame. CONNECT stores the connection table; EQUALISE stores each adapted receive trim in its window as an offset from the lane's
target; LANE_CHECK marks as Failed exactly the lanes with too many errors, without CDR lock, found bad by screen test, or of a
group that is off. Where it rests on choices of the model: notes/assumptions/9. -/
def Obligations.Training : Prop :=
  (∀ (r : Requester) (s : State), s.aon.up = true → s.heard r = true →
      ((s.obj .lnkState = 0 ∨ s.obj .lnkState = 4) → s.mayTrain = true → ∀ c, s.rateLeft (s.obj .phyRateMax) = some c → Ends (.trnStart r) s fun t =>
        t.obj .lnkState = 1 ∧ t.obj .phyTrnState = 1 ∧ t.obj .phyTrnFails = 0 ∧ t.trn.running = true ∧ t.trn.planned = false ∧ t.trn.attempts = 0 ∧
        t.trn.rate = c ∧ t.trn.target = s.obj .phyLatTarget ∧ t.trn.widthMax = s.obj .phyWidthMax ∧ t.trn.widthMin = s.obj .phyWidthMin ∧
        t.rx = { s.rx with regions := s.entries .lnkVcRegion, headroom := s.obj .lnkXoffHeadroom, nakRepeat := s.obj .lnkNakRepeat } ∧
        t.tx = { s.tx with place := ⟨s.obj .lnkSpillBase, s.obj .lnkSpillFa, s.obj .lnkSpillPart, s.obj .lnkSpillTc⟩ } ∧
        t.outbox.getLast? = some (.reply 0 0) ∧ Only [.trn, .rx, .tx, .outbox] [.lnkState, .phyTrnState, .phyTrnFails] s t) ∧
      (s.obj .lnkState ≠ 0 → s.obj .lnkState ≠ 4 → exec (.trnStart r) s = .next { s with outbox := s.outbox ++ [.reply 3 0] }) ∧
      (s.obj .lnkState = 2 → s.scr.running = [] → ∀ c, s.rateLeft (s.obj .phyRateMax) = some c → Ends (.plannedRetrain r) s fun t =>
        t.obj .lnkState = 3 ∧ t.trn.planned = true ∧ t.trn.holding = true ∧ t.trn.rate = c ∧ t.trn.running = s.trn.running ∧
        t.outbox.getLast? = some (.reply 0 0) ∧ Only [.trn, .outbox] [.lnkState] s t) ∧
      (s.obj .lnkState ≠ 2 → exec (.plannedRetrain r) s = .next { s with outbox := s.outbox ++ [.reply 3 0] })) ∧
  (∀ s : State, s.aon.up = true →
      (s.trn.running = true → s.trn.bootWait = false → s.trn.planned = false → s.obj .phyTrnState < 8 →
        (s.trn.attempts < 3 → Ends .trainStateTimeout s fun t =>
          t.trn.attempts = s.trn.attempts + 1 ∧ t.trn.running = true ∧ t.obj .phyTrnState = 1 ∧ t.trn.slateSeen = false ∧ t.trn.farDone = 0 ∧
          t.obj .phyTrnFails = s.trn.attempts + 1 + s.obj .phyTrnState * 16 ∧ t.trn.target = s.trn.target ∧
          Only [.trn, .outbox] [.phyTrnState, .phyTrnFails] s t) ∧
        (s.trn.attempts = 3 → Ends .trainStateTimeout s fun t =>
          t.trn.running = false ∧ t.trn.lastFrame = none ∧ t.obj .lnkState = 4 ∧ t.obj .phyTrnState = 0 ∧
          t.obj .phyTrnFails = 4 + s.obj .phyTrnState * 16 ∧ (s.eventRoom = true → LastEvent t 0x22 2 (s.obj .phyTrnState)) ∧
          Only [.trn, .mgt, .outbox] [.lnkState, .phyTrnState, .phyTrnFails, .pwrBringupState, .mgtEvtMode, .mgtEvtDropped] s t)) ∧
      (∀ f : TrainFrame, s.sbUp = true → s.linkCore = true →
        (f.state = 0 → s.linkUp = false → exec (.train f) s = .next s) ∧
        (f.state = 3 → f.done = true → s.trn.running = true → s.trn.holding = false → s.obj .phyTrnState = 3 → s.trn.done = false →
          (∀ x ∈ f.connect, x < 256) → Ends (.train f) s fun t =>
          t.trn = { s.trn with farState := 3, farFrames := s.trn.farFrames + 1, bootWait := false, farDone := max s.trn.farDone 3 } ∧
          (∀ i, i < 72 → t.entry .phyFarConnect i = f.connect.getD i 255) ∧ Only [.trn] [.phyFarConnect] s t)) ∧
      (∀ f, s.trn.lastFrame = some f → s.sbUp = true → s.trn.farState ≤ f.state → (f.state = 9 → s.trn.farState ≠ 9) →
        exec .trainFrameRepeat s = .next { s with outbox := s.outbox ++ [.train f] }) ∧
      (s.trn.lastFrame = none → exec .trainFrameRepeat s = .next s)) ∧
  (∀ s : State, s.aon.up = true → s.trn.running = true → s.trn.done = false → s.trn.farDone < s.obj .phyTrnState →
      (∀ table : List Nat, s.obj .phyTrnState = 3 → (∀ x ∈ table, x < 256) → Ends (.connectDone table) s fun t =>
        (∀ i, i < 72 → t.entry .phyRxConnect i = table.getD i 255) ∧ t.trn.done = true ∧ t.obj .phyTrnState = 3 ∧
        (s.sbUp = true → t.outbox = s.outbox ++ [.train (t.trainFrame 3)]) ∧ Only [.trn, .outbox] [.phyRxConnect] s t) ∧
      (∀ codes : List Nat, s.obj .phyTrnState = 4 → Ends (.equaliseDone codes) s fun t =>
        t.trn.done = true ∧ t.obj .phyTrnState = 4 ∧
        (∀ p, p < 72 → ∀ k ∈ rxTrims, ∀ d, s.learn p k (trimByte (codes.getD p 0) k) = some d → trimByte (t.entry .calTrimOffset p) k = d) ∧
        Only [.trn, .mgt, .outbox] [.calTrimOffset, .calTrimNow, .mgtEvtMode, .mgtEvtDropped] s t) ∧
      (∀ errors noLock : List Nat, s.obj .phyTrnState = 5 → Ends (.laneCheckDone errors noLock) s fun t =>
        (∀ p, p < 72 → t.rxFailed p = (decide (s.trn.checkErrs < errors.getD p 0) || noLock.contains p || (s.screenLanes true).testBit p || !s.poweredDom (2 + p / 9))) ∧
        t.trn.done = true ∧ (s.sbUp = true → t.outbox = s.outbox ++ [.train (t.trainFrame 5)]) ∧ Only [.trn, .outbox] [.phyRxFailed] s t))

/-- FLIT_SYNC outside a planned retrain: flit numbers, LCC, scramblers, error counts and pads start from zero, the buckets are full, a
new spill key is drawn, training is in LATENCY, and the measuring instance sends its first MEASURE. LINK_ACTIVE, when LATENCY has
ended locked and nothing old still runs: LNK_STATE 2, training over, the rate shown; unlocked, an event says so. SCRAMBLER_RELOAD
loads the scramblers again. Where it rests on choices of the model: notes/assumptions/6. -/
def Obligations.LinkComesUp : Prop :=
  ∀ s : State, s.aon.up = true →
    (s.trn.running = true → s.obj .phyTrnState = 7 → s.trn.planned = false → Ends .flitSync s fun t =>
      t.obj .phyTrnState = 8 ∧ t.obj .lnkTxSeq = 0 ∧ t.obj .lnkTxAcked = 0 ∧ t.obj .lnkRxExpect = 0 ∧ t.obj .lnkErrWindow = 0 ∧
      t.obj .lnkCrcErrs = 0 ∧ t.lat.lcc = 0 ∧ t.lat.settled = false ∧ t.lanes = { s.lanes with scramAge := 0 } ∧ t.rx.discard = false ∧
      t.rx.queue = s.rx.queue ∧ t.tx.spillKey = some (Config.random s.tx.draws) ∧ t.tx.draws = s.tx.draws + 1 ∧ t.tx.queue = s.tx.queue ∧
      t.locked = false ∧ (∀ c, c < 4 → t.bucket c = s.bucketCeiling c) ∧ t.obj .phyLatPad = 0 ∧
      (s.measures = false → t.lat.waiting = false) ∧
      (s.measures = true → t.lat.attempt = 1 ∧ t.lat.waiting = true ∧
        (s.txSlots ≠ [] → Sent s t headMarker (Marker.payload ⟨1, 0, 0, 0, 0, s.trn.target⟩) 0)) ∧
      Only [.rx, .lat, .lanes, .tx, .trn, .outbox] [.lnkErrWindow, .lnkCrcErrs, .lnkDiagState, .lnkTxSeq, .lnkTxAcked, .lnkRxExpect, .lnkSpillState, .phyLatState, .phyLatPad, .lnkXoffState, .tclBucketLevel, .phyTrnState] s t) ∧
    (s.trn.running = true → s.inLatency = true → s.lat.settled = true → s.linkHeld = false → s.trn.rate < 256 → s.gateCount 1 = 0 → s.gateCount 2 = 0 →
      (s.trn.activeRate = none ∨ s.trn.activeRate = some s.trn.rate) →
      (s.locked = true → Ends .linkActive s fun t =>
        t.obj .lnkState = 2 ∧ t.obj .phyTrnState = 9 ∧ t.obj .phyRate = s.trn.rate ∧ t.trn.running = false ∧ t.trn.planned = false ∧
        t.trn.activeRate = some s.trn.rate ∧ t.trn.target = s.trn.target ∧
        Only [.trn, .cls, .outbox] [.lnkState, .phyTrnState, .phyRate, .tclGateState] s t) ∧
      (s.locked = false → s.cls.register = [] → s.tx.queue = [] → Ends .linkActive s fun t =>
        t.obj .lnkState = 2 ∧ t.obj .phyTrnState = 9 ∧ t.locked = false ∧ t.trn.running = false ∧ (s.eventRoom = true → LastEvent t 0x24 1 (s.obj .phyLatState)) ∧
        Only [.trn, .cls, .mgt, .outbox] [.lnkState, .phyTrnState, .phyRate, .tclGateState, .mgtEvtMode, .mgtEvtDropped] s t)) ∧
    (s.linkCore = true → s.linkUp = true → exec .scramblerReload s = .next { s with lanes := { s.lanes with scramAge := 0 } })

/-! ### Lane faults and splices -/

/-- A receive lane declared faulty: CDR_LOCK_LOSS and LANE_FEC_THRESHOLD on an active lane of a link that is up, and RX_RETIRE by a
write. The lane is Failed, LANE_FAULT with its reason goes to the far side and is kept until it is acknowledged, and an event
names the lane. A lane that is not active, or has failed already, is left alone. LANE_FAULT at the transmitter is answered with
LANE_ACK. On a link that is up, with no plan in force, the lanes join F, and while repair is enabled a PREPARE falls due when the
map uses a lane of F. LANE_FAULT_REPEAT sends every frame that is not acknowledged; LANE_ACK ends the frames all of whose lanes it
names. -/
def Obligations.LaneFaults : Prop :=
  (∀ (s : State) (p : Fin 72), s.aon.up = true → s.cal.recal = none → s.cal.scan = none → s.cal.monitor = none → s.scr.running = [] →
      s.tooNarrow (s.lanes72 .phyRxFailed ||| 2 ^ p.val) = false → s.rxFailed p = false →
      (s.linkUp = true → s.rxActive p = true → Ends (.cdrLockLoss p) s fun t =>
        t.rxFailed p = true ∧ (∀ q, q < 72 → q ≠ p.val → t.rxFailed q = s.rxFailed q) ∧
        t.lanes = { s.lanes with faultsOut := s.lanes.faultsOut ++ [(s.farLanes (2 ^ p.val), 1)] } ∧
        (s.sbUp = true → Out.sideband 3 (toBytes 9 (s.farLanes (2 ^ p.val)) ++ [1]) ∈ t.outbox) ∧
        (s.eventRoom = true → LastEvent t 0x20 1 p) ∧ Only [.lanes, .mgt, .outbox] [.phyRxFailed, .mgtEvtMode, .mgtEvtDropped] s t) ∧
      (s.linkUp = true → s.rxActive p = true → s.obj .phyLaneFailErrs ≤ s.fecCount p → Ends (.laneFecThreshold p) s fun t =>
        t.rxFailed p = true ∧ t.lanes = { s.lanes with faultsOut := s.lanes.faultsOut ++ [(s.farLanes (2 ^ p.val), 2)] } ∧
        (s.eventRoom = true → LastEvent t 0x20 1 p) ∧ Only [.lanes, .mgt, .outbox] [.phyRxFailed, .mgtEvtMode, .mgtEvtDropped] s t) ∧
      (∀ r, s.heard r = true → Ends (.rxRetire r p) s fun t =>
        t.rxFailed p = true ∧ t.lanes = { s.lanes with faultsOut := s.lanes.faultsOut ++ [(s.farLanes (2 ^ p.val), 4)] } ∧
        t.outbox.getLast? = some (.reply 0 0) ∧ (s.eventRoom = true → LastEvent t 0x20 1 p) ∧
        Only [.lanes, .mgt, .outbox] [.phyRxFailed, .mgtEvtMode, .mgtEvtDropped] s t) ∧
      (s.rxActive p = false → exec (.cdrLockLoss p) s = .next s ∧ exec (.laneFecThreshold p) s = .next s) ∧
      (∀ r (lane : Nat), s.heard r = true → 71 < lane → exec (.rxRetire r lane) s = .next { s with outbox := s.outbox ++ [.reply 3 0] })) ∧
  (∀ s : State, s.aon.up = true → s.sbUp = true →
      (∀ lanes reason : Nat, lanes < 2 ^ 72 → reason < 256 →
        (s.linkUp = false → exec (.laneFault lanes reason) s = .next { s with outbox := s.outbox ++ [.sideband 4 (toBytes 9 lanes)] }) ∧
        (s.linkUp = true → s.lanes.txPlan = none → s.obj .phyRepairEn = 1 → s.tooNarrow (s.lanes72 .phyTxFailed ||| lanes) = false →
          Ends (.laneFault lanes reason) s fun t =>
            t.lanes72 .phyTxFailed = s.lanes72 .phyTxFailed ||| lanes ∧ t.lanes = { s.lanes with prepareDue := s.lanes.prepareDue || t.mapBroken } ∧
            t.outbox = s.outbox ++ [.sideband 4 (toBytes 9 lanes)] ∧ Only [.lanes, .outbox] [.phyTxFailed] s t)) ∧
      exec .laneFaultRepeat s = .next { s with outbox := s.outbox ++ s.lanes.faultsOut.map fun f => .sideband 3 (toBytes 9 f.1 ++ [b8 f.2]) } ∧
      (∀ lanes : Nat, exec (.laneAck lanes) s = .next { s with lanes := { s.lanes with faultsOut := s.lanes.faultsOut.filter fun f => f.1 &&& lanes != f.1 } }))

/-- The repaired map, step by step. Its width is the largest of 64, 48, 32 and 16 that the limit and the lanes that have not failed
permit; the logical lanes past it are unused. Below it, a lane that has not failed keeps its place, and the failed ones are taken
in ascending order, each placed on the lowest-numbered spare lane that has not failed and is not taken yet. No lane is used twice. -/
def Obligations.RepairMapUsesGoodLanes : Prop :=
  ∀ (limit width failed : Nat) (map : List Nat), width ∈ [16, 32, 48, 64] → limit ∈ [16, 32, 48, 64] → map.length = 64 → ((map.take width).all fun t => t < 72) = true →
    (map.take width).Nodup → width ≤ limit → 72 - popcount 72 failed < width + 16 ∨ width = limit →
    ∀ w m, newMap limit width failed map = (w, m) → m.length = 64 ∧ (m.take w).Nodup ∧ (∀ l, w ≤ l → l < 64 → m.getD l 0 = 255) ∧
      (w = 0 ∨ w ∈ [16, 32, 48, 64] ∧ w ≤ limit ∧ w ≤ 72 - popcount 72 failed) ∧ (∀ x ∈ [16, 32, 48, 64], x ≤ limit → x ≤ 72 - popcount 72 failed → x ≤ w) ∧
      (∀ l, l < w → m.getD l 255 < 72 ∧ failed.testBit (m.getD l 255) = false ∧
        (failed.testBit (map.getD l 255) = false → m.getD l 255 = map.getD l 255) ∧
        (failed.testBit (map.getD l 255) = true → m.getD l 255 ∉ map.take w ∧
          ∀ q, q < m.getD l 255 → failed.testBit q = false → q ∉ map.take w → ∃ k, k < l ∧ m.getD k 255 = q))

/-- The transmitter's side of a splice. PREPARE_SEND, and SPLICE_RETRY after a timeout, send the plan in a numbered flit; COMMIT_SEND,
once the far side is ready for the plan, sends COMMIT and switches to the plan's map; SPLICE_TIMEOUT gives the plan up with a
CANCEL, an event and a retry due, unless it is the third time. With nothing due nothing is sent. The receiver's side of a splice,
for flits that come clean. A valid PREPARE that adds no lane is pending and ready at once, and one that is not valid is counted;
SPLICE_READY makes the pending map ready; a COMMIT of its generation switches to it; CANCEL discards it. A sequenced flit advances
E. Where it rests on choices of the model: notes/assumptions/19. -/
def Obligations.Splices : Prop :=
  (∀ s : State, s.aon.up = true →
      (s.splices = true → s.lanes.txPlan = none →
        ((s.lanes.prepareDue = true → s.lanes.retryDue = false → Ends .prepareSend s fun t =>
          t.lanes.txPlan = some ⟨s.nextGen, (newMap s.trn.widthMax (s.obj .phyTxWidth) (s.lanes72 .phyTxFailed) (s.entries .phyTxMap)).1, (newMap s.trn.widthMax (s.obj .phyTxWidth) (s.lanes72 .phyTxFailed) (s.entries .phyTxMap)).2, false⟩ ∧
          t.lanes.prepareDue = false ∧ t.lanes.retryDue = false ∧ t.txN = (s.txN + 1) % 65536 ∧ t.tx.retake.length = s.tx.retake.length + 1 ∧
          (∀ p, t.lanes.txPlan = some p → Sent s t headPrepare (splicePayload 1 p.gen p.width p.map) s.txN) ∧
          t.tx.queue = s.tx.queue ∧ Only [.lanes, .tx, .rx, .outbox] [.lnkTxSeq] s t) ∧
        (s.lanes.retryDue = true → Ends .spliceRetry s fun t =>
          (∃ p, t.lanes.txPlan = some p ∧ p.gen = s.nextGen ∧ Sent s t headPrepare (splicePayload 1 p.gen p.width p.map) s.txN) ∧
          t.lanes.retryDue = false ∧ t.txN = (s.txN + 1) % 65536 ∧ t.tx.queue = s.tx.queue ∧ Only [.lanes, .tx, .rx, .outbox] [.lnkTxSeq] s t))) ∧
      (s.lanes.prepareDue = false → exec .prepareSend s = .next s) ∧ (s.lanes.retryDue = false → exec .spliceRetry s = .next s) ∧
      (∀ p, s.lanes.txPlan = some p →
        (s.linkSends = true → s.txSlots ≠ [] → s.lanes.readySeen = some p.gen → (∀ x ∈ p.map, x < 256) → p.width < 256 → s.obj .phySpliceCount + 1 < 2 ^ 32 →
          Ends .commitSend s fun t =>
            (∀ l, l < 64 → t.entry .phyTxMap l = p.map.getD l 255) ∧ t.obj .phyTxWidth = p.width ∧ t.fld .phyMapGen 3 0 = p.gen % 16 ∧
            t.fld .phyMapGen 7 4 = s.fld .phyMapGen 7 4 ∧ t.obj .phySpliceCount = s.obj .phySpliceCount + 1 ∧ t.lanes.txPlan = none ∧
            t.lanes.readySeen = none ∧ Sent s t headCommit (splicePayload 2 p.gen p.width p.map) 0 ∧
            t.rx.queue = s.rx.queue ∧ Only [.lanes, .rx, .outbox] [.phyTxMap, .phyTxWidth, .phyMapGen, .phySpliceCount] s t) ∧
        (s.lanes.readySeen ≠ some p.gen → exec .commitSend s = .next s) ∧
        (s.splices = true → s.lanes.readySeen ≠ some p.gen → s.lanes.planFails < 2 → s.obj .phySpliceFails + 1 < 2 ^ 32 → Ends .spliceTimeout s fun t =>
            t.lanes.txPlan = none ∧ t.lanes.retryDue = true ∧ t.lanes.planFails = s.lanes.planFails + 1 ∧
            t.obj .phySpliceFails = s.obj .phySpliceFails + 1 ∧ Sent s t headPrepare (splicePayload 3 p.gen p.width p.map) s.txN ∧
            (s.eventRoom = true → LastEvent t 0x21 1 (p.gen % 256)) ∧ t.tx.queue = s.tx.queue ∧
            Only [.lanes, .tx, .rx, .mgt, .outbox] [.phySpliceFails, .lnkTxSeq, .mgtEvtMode, .mgtEvtDropped] s t))) ∧
  (∀ s : State, s.aon.up = true →
      (∀ (f : RxFlit) (bs : List Byte),
        (QuietFlit s f .prepare bs → s.prepareOk (flitPayload bs) = true → s.cal.monitor = none → s.scr.running = [] →
          ({ s with lanes := { s.lanes with rxPlan := some ⟨spliceGen (flitPayload bs), 16 * (spliceWidth (flitPayload bs) + 1), spliceMap (flitPayload bs), false⟩ } }).pendingAdds = [] →
          Ends (.prepareFlit f) s fun t =>
            t.lanes.rxPlan = some ⟨spliceGen (flitPayload bs), 16 * (spliceWidth (flitPayload bs) + 1), spliceMap (flitPayload bs), true⟩ ∧
            t.rxE = (s.rxE + 1) % 65536 ∧ t.rx.queue = s.rx.queue ∧ Only flitParts (.lnkRxExpect :: flitObjs) s t) ∧
        (QuietFlit s f .prepare bs → s.prepareOk (flitPayload bs) = false → s.obj .phySpliceFails + 1 < 2 ^ 32 → Ends (.prepareFlit f) s fun t =>
            t.obj .phySpliceFails = s.obj .phySpliceFails + 1 ∧ t.lanes.rxPlan = s.lanes.rxPlan ∧ t.rxE = (s.rxE + 1) % 65536 ∧
            Only flitParts (.lnkRxExpect :: .phySpliceFails :: flitObjs) s t) ∧
        (QuietFlit s f .commit bs → ∀ p, s.lanes.rxPlan = some p → p.ready = true → p.gen = spliceGen (flitPayload bs) → p.width < 256 →
          Ends (.commitFlit f) s fun t =>
            (∀ l, l < 64 → t.entry .phyRxMap l = (s.rxMapOf p.map).getD l 255) ∧ t.obj .phyRxWidth = p.width ∧ t.fld .phyMapGen 7 4 = p.gen ∧
            t.lanes.rxPlan = none ∧ t.rxE = s.rxE ∧ Only flitParts (.phyRxMap :: .phyRxWidth :: .phyMapGen :: flitObjs) s t) ∧
        (QuietFlit s f .cancel bs → Ends (.cancelFlit f) s fun t =>
            t.lanes.rxPlan = none ∧ t.cal = { s.cal with retireWait := none } ∧ t.rxE = (s.rxE + 1) % 65536 ∧
            Only (.cal :: flitParts) (.lnkRxExpect :: flitObjs) s t) ∧
        (flitOk f = true → s.look f = none → exec (.prepareFlit f) s = .next s ∧ exec (.commitFlit f) s = .next s ∧ exec (.cancelFlit f) s = .next s)) ∧
      (∀ p, s.lanes.rxPlan = some p → s.linkUp = true → exec .spliceReady s = .next { s with lanes := { s.lanes with rxPlan := some { p with ready := true } } }))

/-! ### Latency lock and received flits -/

/-- The side that does not measure. MEASURE is answered with RETURN, 4 LCLK on, with the pad at 0; SET loads the link cycle counter
with the marker's count plus T and sets the pad; VERIFY is answered with VERIFY_RETURN, whose low SEQ bit says whether the
counters agree, and when they do in LATENCY the link is locked. The measuring side. Its first RETURN gives a round trip, and
LAT_MEASURE_REPEAT measures again; two equal round trips that T covers give both pads, and SET and VERIFY leave; two that differ
begin the next attempt. A good VERIFY_RETURN locks the link; a marker that is not answered costs an attempt, and the third leaves
the link unlocked. LAT_CHECK_TIMER checks a locked link with VERIFY. Where it rests on choices of the model: notes/assumptions/21. -/
def Obligations.LatencyLock : Prop :=
  (∀ s : State, s.aon.up = true → s.inLatency = true → s.measures = false → s.txSlots ≠ [] → ∀ (f : RxFlit) (bs : List Byte),
      (QuietFlit s f .measure bs → Ends (.measureMarker f) s fun t =>
        Sent s t headMarker (Marker.payload { Marker.parse (flitPayload bs) with kind := 2, lcc := (s.lat.lcc + 4) % 2 ^ 48 }) 0 ∧
        t.obj .phyLatPad = 0 ∧ t.locked = false ∧ t.lat = s.lat ∧ t.rxE = s.rxE ∧ Only (.outbox :: flitParts) (.phyLatPad :: .phyLatState :: flitObjs) s t) ∧
      (QuietFlit s f .set bs → Ends (.setMarker f) s fun t =>
        t.lat = { s.lat with lcc := ((Marker.parse (flitPayload bs)).lcc + (Marker.parse (flitPayload bs)).target) % 2 ^ 48 } ∧
        t.obj .phyLatPad = (Marker.parse (flitPayload bs)).padN ∧ t.outbox = s.outbox ∧ Only (.lat :: flitParts) (.phyLatPad :: flitObjs) s t) ∧
      (QuietFlit s f .verify bs → lccDiff s.lat.lcc (Marker.parse (flitPayload bs)).lcc = (Marker.parse (flitPayload bs)).target →
        Ends (.verifyMarker f) s fun t =>
          Sent s t headMarker (Marker.payload { Marker.parse (flitPayload bs) with kind := 5, seq := 1, lcc := s.lat.lcc }) 0 ∧
          t.lat = { s.lat with settled := true, repeatTry := false } ∧ t.locked = true ∧ Only (.lat :: .outbox :: flitParts) (.phyLatState :: flitObjs) s t) ∧
      (QuietFlit s f .verify bs → lccDiff s.lat.lcc (Marker.parse (flitPayload bs)).lcc ≠ (Marker.parse (flitPayload bs)).target →
        Ends (.verifyMarker f) s fun t =>
          Sent s t headMarker (Marker.payload { Marker.parse (flitPayload bs) with kind := 5, seq := 0, lcc := s.lat.lcc }) 0 ∧
          t.lat = s.lat ∧ Only (.outbox :: flitParts) flitObjs s t)) ∧
  (∀ s : State, s.aon.up = true → s.measures = true → s.txSlots ≠ [] → s.trn.target < 256 → s.lat.lcc < 2 ^ 48 →
      (∀ (f : RxFlit) (bs : List Byte), s.inLatency = true → s.lat.waiting = true →
        (QuietFlit s f .ret bs → (Marker.parse (flitPayload bs)).seq = s.lat.seq → ∀ rt, rt = lccDiff s.lat.lcc s.lat.sentAt - 4 → rt < 2 ^ 16 →
          (s.lat.rts = [] → Ends (.returnMarker f) s fun t =>
            t.lat = { s.lat with rts := [rt], waiting := false } ∧ t.obj .phyLatRt = rt ∧ t.outbox = s.outbox ∧ Only (.lat :: flitParts) (.phyLatRt :: flitObjs) s t) ∧
          (s.lat.rts = [rt] → ceilDiv rt 2 ≤ s.trn.target → Ends (.returnMarker f) s fun t =>
            t.obj .phyLatPad = s.trn.target - rt / 2 ∧ t.lat.padFar = s.trn.target - ceilDiv rt 2 ∧ t.lat.waiting = true ∧ t.lat.rts = [rt, rt] ∧ t.lat.seq = 3 ∧
            Sent s t headMarker (Marker.payload ⟨3, 2, s.lat.lcc, s.trn.target - rt / 2, s.trn.target - ceilDiv rt 2, s.trn.target⟩) 0 ∧
            Sent s t headMarker (Marker.payload ⟨4, 3, s.lat.lcc, s.trn.target - rt / 2, s.trn.target - ceilDiv rt 2, s.trn.target⟩) 0 ∧
            Only (.lat :: .outbox :: flitParts) (.phyLatRt :: .phyLatPad :: flitObjs) s t) ∧
          (s.lat.rts = [rt + 1] → s.lat.attempt < 3 → Ends (.returnMarker f) s fun t =>
            t.lat.attempt = s.lat.attempt + 1 ∧ t.lat.rts = [] ∧ t.lat.waiting = true ∧ t.obj .phyLatPad = 0 ∧
            Sent s t headMarker (Marker.payload ⟨1, 0, s.lat.lcc, 0, 0, s.trn.target⟩) 0 ∧
            Only (.lat :: .outbox :: flitParts) (.phyLatRt :: .phyLatPad :: flitObjs) s t)) ∧
        (QuietFlit s f .verifyReturn bs → s.lat.rts.length = 2 → lccDiff s.lat.lcc (Marker.parse (flitPayload bs)).lcc = s.trn.target →
          (Marker.parse (flitPayload bs)).seq.testBit 0 = true → Ends (.verifyReturn f) s fun t =>
            t.lat = { s.lat with waiting := false, settled := true } ∧ t.locked = true ∧ t.outbox = s.outbox ∧ Only (.lat :: flitParts) (.phyLatState :: flitObjs) s t)) ∧
      (∀ a, s.lat.rts = [a] → s.inLatency = true → s.lat.waiting = false → s.lat.settled = false → Ends .latMeasureRepeat s fun t =>
        t.lat = { s.lat with seq := 1, sentAt := s.lat.lcc, waiting := true } ∧
        Sent s t headMarker (Marker.payload ⟨1, 1, s.lat.lcc, s.obj .phyLatPad, s.lat.padFar, s.trn.target⟩) 0 ∧ t.rx.queue = s.rx.queue ∧
        Only [.lat, .rx, .outbox] [] s t) ∧
      (s.linkSends = true → s.linkCarries = true → s.locked = true → s.obj .phyLatCheckInt ≠ 0 → s.lat.waiting = false → Ends .latCheckTimer s fun t =>
        t.lat = { s.lat with seq := (s.lat.seq + 1) % 256, sentAt := s.lat.lcc, waiting := true } ∧
        Sent s t headMarker (Marker.payload ⟨4, (s.lat.seq + 1) % 256, s.lat.lcc, s.obj .phyLatPad, s.lat.padFar, s.trn.target⟩) 0 ∧
        t.rx.queue = s.rx.queue ∧ Only [.lat, .rx, .outbox] [] s t) ∧
      (s.flitsRun = true → s.inLatency = true → s.lat.waiting = true →
        (s.lat.attempt < 3 → Ends .markerTimeout s fun t =>
          t.lat.attempt = s.lat.attempt + 1 ∧ t.lat.rts = [] ∧ t.lat.waiting = true ∧ Sent s t headMarker (Marker.payload ⟨1, 0, s.lat.lcc, 0, 0, s.trn.target⟩) 0 ∧
          Only [.lat, .rx, .outbox] [.phyLatPad] s t) ∧
        (s.lat.attempt = 3 → Ends .markerTimeout s fun t =>
          t.lat = { s.lat with settled := true, waiting := false, padFar := 0 } ∧ t.locked = false ∧ t.fld .phyLatState 2 2 = 1 ∧ t.obj .phyLatPad = 0 ∧
          Only [.lat] [.phyLatState, .phyLatPad] s t)))

/-- Received flits. A DATA flit that holds a whole packet, with room in its region, puts the packet into the receive queue and
advances E; an IDLE flit only delivers its CTRL; one with a protocol error is counted; one that fails is counted, E stays, the
discard state begins and a NAK falls due, which NAK_REPEAT asks for again. A flit in a masked slot does nothing, and in a takeover
gap a DATA flit waits in the receive log. -/
def Obligations.ReceivedFlits : Prop :=
  ∀ s : State, s.aon.up = true →
    (∀ (f : RxFlit) (bs : List Byte),
      (QuietFlit s f .data bs → bit (flitHead bs) 7 = true → bit (flitHead bs) 6 = true → 32 * (Hdr.ofBytes (flitPayload bs)).len ≤ 212 →
        isRequest (Hdr.ofBytes (flitPayload bs)).type = true → s.regionFree (flitVc bs) ≠ 0 → Ends (.dataFlit f) s fun t =>
          (∃ p ∈ t.rx.queue.getLast?, t.rx.queue = s.rx.queue ++ [p] ∧ p.vc = flitVc bs ∧ p.space = 1 ∧ p.pkt.hdr = Hdr.ofBytes (flitPayload bs) ∧
            p.pkt.payload = slice (slice (flitPayload bs) 24 212) 0 (32 * (Hdr.ofBytes (flitPayload bs)).len)) ∧
          t.rxE = (s.rxE + 1) % 65536 ∧ t.rx.discard = false ∧ t.rx.part = none ∧ t.entry .tclPortLink 1 = (s.entry .tclPortLink 1 + 1) % 2 ^ 64 ∧
          Only flitParts (.lnkRxExpect :: .tclPortLink :: flitObjs) s t) ∧
      (QuietFlit s f .idle bs → Ends (.idleFlit f) s fun t =>
          t.rx.queue = s.rx.queue ∧ t.rxE = s.rxE ∧ t.tx.xoffSeen = field (flitCtrl bs) 31 24 ∧ t.tx.queue = s.tx.queue ∧ Only flitParts flitObjs s t) ∧
      (QuietFlit s f .proto bs → s.obj .lnkProtoErrs + 1 < 2 ^ 32 → Ends (.flitProtoErr f) s fun t =>
          t.obj .lnkProtoErrs = s.obj .lnkProtoErrs + 1 ∧ t.rx.queue = s.rx.queue ∧ t.rxE = (if flitSq bs then (s.rxE + 1) % 65536 else s.rxE) ∧
          Only flitParts (.lnkProtoErrs :: .lnkRxExpect :: flitObjs) s t) ∧
      (flitOk f = true → s.flitsRun = true → s.eng.takeover = false → s.trn.holding = false → s.rx.discard = false → s.rx.window ≠ [] →
        ∀ l, s.look f = some l → l.pass = false → l.viaPending = false → s.rx.window.sum + 1 < s.obj .lnkDown → s.obj .lnkCrcErrs + 1 < 2 ^ 32 →
        s.obj .lnkFecUncorr + l.out.bad < 2 ^ 32 → s.obj .lnkFecCorr + l.out.fixed.length < 2 ^ 32 → Ends (.flitFail f) s fun t =>
          t.rx.discard = true ∧ t.rx.nakNow = true ∧ t.rx.queue = s.rx.queue ∧ t.rxE = s.rxE ∧ t.obj .lnkCrcErrs = s.obj .lnkCrcErrs + 1 ∧
          t.obj .lnkFecUncorr = s.obj .lnkFecUncorr + l.out.bad ∧ Only [.rx] [.lnkErrWindow, .lnkCrcErrs, .lnkFecCorr, .lnkFecUncorr] s t) ∧
      (flitOk f = true → s.look f = none → ∀ c ∈ [Instr.dataFlit f, .idleFlit f, .flitFail f, .flitProtoErr f, .measureMarker f, .verifyMarker f], exec c s = .next s) ∧
      (flitOk f = true → s.flitsRun = true → s.eng.takeover = true → s.classFlit f = some (some .data) → s.rx.log.length < 128 →
        exec (.dataFlit f) s = .next { s with rx := { s.rx with log := s.rx.log ++ [f] } })) ∧
    (s.flitsRun = true → s.rx.discard = true → exec .nakRepeat s = .next { s with rx := { s.rx with nakNow := true } }) ∧
    (s.rx.discard = false → exec .nakRepeat s = .next s)

/-! ### The link transmitter and the link going down -/

/-- LINK_PACKET_START on a link that carries traffic, with no replay. A single queued packet that may start and conforms to its
bucket, or the head of VC1 among several, leaves whole in flits numbered from N, and, on a link that keeps records, a request
opens one; with an empty queue only IDLE flits leave. A replay goes first: its last stored flit leaves again under its number.
Where it rests on choices of the model: notes/assumptions/20. -/
def Obligations.LinkPacketsAndReplays : Prop :=
  ∀ s : State, s.aon.up = true → s.linkSends = true → s.txSlots ≠ [] → s.linkCarries = true →
    (∀ q ∈ s.tx.queue, s.tx.queue.find? (fun x => x.pkt.hdr.tc == 1) = some q ∨ s.tx.queue = [q] → s.tx.replay = none → s.trn.holding = false →
      s.linkEligible q.pkt.hdr.tc = true → s.conforms q.pkt.hdr.tc q.pkt.flits = true → q.pkt.hdr.tc < 8 → Ends .linkPacketStart s fun t =>
        t.tx.queue.length < s.tx.queue.length ∧ (∀ x ∈ s.tx.queue, x.id ≠ q.id → ∃ y ∈ t.tx.queue, y.id = x.id ∧ y.pkt = x.pkt) ∧
        t.txN = (s.txN + q.pkt.cut.length) % 65536 ∧ t.tx.retake.length = s.tx.retake.length + q.pkt.cut.length ∧
        (∀ i, i < q.pkt.cut.length → ∀ c, q.pkt.cut[i]? = some c → Sent s t (c.head q.pkt.hdr.tc) c.payload ((s.txN + i) % 65536)) ∧
        t.crossings = (if s.needsRecord q.pkt.hdr then s.crossings ++ [⟨q.pkt.hdr, q.pkt.descId, 0⟩] else s.crossings) ∧
        t.rx.queue = s.rx.queue ∧
        Only [.tx, .rx, .crossings, .outbox] [.lnkTxSeq, .tclBucketLevel, .tclQueueSamples, .tclPortLink, .tclDlLate, .lnkRecordsWaits] s t) ∧
    (s.tx.queue = [] → s.tx.replay = none → Ends .linkPacketStart s fun t =>
        Sent s t headIdle [] 0 ∧ t.tx = s.tx ∧ t.rx.queue = s.rx.queue ∧ Only [.rx, .outbox] [] s t) ∧
    (∀ v, s.tx.replay = some v → v < 65536 → s.txN = (v + 1) % 65536 → ∀ r, s.stored v = some r → s.obj .lnkReplayFlits + 1 < 2 ^ 32 → Ends .linkPacketStart s fun t =>
        Sent s t r.head r.payload r.seq ∧ t.tx.replay = none ∧ t.tx.queue = s.tx.queue ∧ t.tx.retake = s.tx.retake ∧ t.txN = s.txN ∧
        t.obj .lnkReplayFlits = s.obj .lnkReplayFlits + 1 ∧ Only [.tx, .rx, .outbox] [.lnkReplayFlits] s t)

/-- The link goes down by a write of LNK_FORCE_DOWN, for want of flits, or for want of acknowledgements: the cause is shown and
counted, an event and a fault record are made, nothing is left in the transmitter, the lock is gone, and the link carries nothing.
On a link that is not up the write only answers, and the timeouts do nothing. DIAGNOSIS_START on a link that is up and has reached
LNK_WARN counts 65,536 flit slots for all 72 lanes. DIAGNOSIS_END after them names the lane whose score is at least 256 and at
least twice every other, and declares it faulty when it is active; when no lane stands out an event says so. Where it rests on
choices of the model: notes/assumptions/23. -/
def Obligations.LinkDownAndDiagnosis : Prop :=
  (∀ s : State, s.aon.up = true →
      (s.linkUp = true → s.tx.queue = [] → s.tx.unacked = [] → s.crossings = [] → s.stk.jobs = [] → s.arr.descs = [] → s.arr.submits = [] → s.arr.redIn = [] →
        s.arr.work = [] → s.arr.redAgain = [] → s.rx.queue = [] → s.pk.msgs = [] → s.pk.own = [] → s.pk.ownWait = [] → s.pk.done = [] → s.cls.register = [] →
        s.scr.running = [] → s.obj .lnkDownCount + 1 < 2 ^ 32 → s.obj .mgtFaultCount + 1 < 2 ^ 32 →
        s.heard .sequencer = true → s.heard (.port false) = true →
        ∀ x ∈ [(Instr.idleLimitTimeout, 2), (.ackStallTimeout, 3), (.lnkForceDown .sequencer, 10), (.lnkForceDown (.port false), 10)], (x.2 = 3 → s.inFlight ≠ 0) →
          Ends x.1 s fun t =>
            t.obj .lnkDownCause = x.2 ∧ t.obj .lnkDownCount = s.obj .lnkDownCount + 1 ∧ t.linkUp = false ∧ t.locked = false ∧ t.obj .phyRate = 0xFF ∧
            t.obj .mgtFaultCount = s.obj .mgtFaultCount + 1 ∧ t.tx.queue = [] ∧ t.tx.unacked = [] ∧ t.tx.retake = [] ∧ t.tx.spillKey = none ∧
            t.lanes.txPlan = none ∧ t.lanes.rxPlan = none ∧ t.trn.planned = false ∧ (s.eventRoom = true → LastEvent t 0x30 2 x.2) ∧
            Only [.tx, .rx, .lanes, .trn, .cal, .cls, .mgt, .outbox] [.lnkDownCause, .lnkDownCount, .lnkState, .mgtFaultRecord, .mgtFaultCount, .phyTrnState, .phyTrnFails, .phyRate, .phyTxWidth, .phyRxWidth, .phyLatState, .ageStepState, .tclGateState, .lnkSpillState, .lnkXoffState, .mgtEvtMode, .mgtEvtDropped] s t) ∧
      (s.linkUp = false → exec .idleLimitTimeout s = .next s ∧ exec .ackStallTimeout s = .next s ∧
        ∀ r, s.heard r = true → exec (.lnkForceDown r) s = .next { s with outbox := s.outbox ++ [.reply 0 0] })) ∧
  (∀ s : State, s.aon.up = true →
      (s.linkUp = true → s.rx.diag = none → s.obj .lnkWarn ≤ s.rx.window.sum → Ends .diagnosisStart s fun t =>
        t.rx = { s.rx with diag := some ⟨65536, List.replicate 72 0⟩ } ∧ t.fld .lnkDiagState 0 0 = 1 ∧ Only [.rx] [.lnkDiagState] s t) ∧
      (s.rx.window.sum < s.obj .lnkWarn → exec .diagnosisStart s = .next s) ∧
      (∀ d, s.rx.diag = some d → s.rx.window.sum < s.obj .lnkWarn →
        (d.slotsLeft ≠ 0 → exec .diagnosisEnd s = .next s) ∧
        (d.slotsLeft = 0 → ∀ p, namedLane d.scores = some p → s.rxActive p = false → Ends .diagnosisEnd s fun t =>
          t.rx = { s.rx with diag := none } ∧ t.obj .lnkDiagState = p * 256 ∧ Only [.rx] [.lnkDiagState] s t) ∧
        (d.slotsLeft = 0 → ∀ p, namedLane d.scores = some p → s.linkUp = true → s.rxActive p = true → s.rxFailed p = false → s.cal.recal = none → s.cal.scan = none →
          s.cal.monitor = none → s.scr.running = [] → s.tooNarrow (s.lanes72 .phyRxFailed ||| 2 ^ p) = false → Ends .diagnosisEnd s fun t =>
            t.rx = { s.rx with diag := none } ∧ t.obj .lnkDiagState = p * 256 ∧ t.rxFailed p = true ∧
            t.lanes = { s.lanes with faultsOut := s.lanes.faultsOut ++ [(s.farLanes (2 ^ p), 3)] } ∧ (s.eventRoom = true → LastEvent t 0x20 1 p) ∧
            Only [.rx, .lanes, .mgt, .outbox] [.lnkDiagState, .phyRxFailed, .mgtEvtMode, .mgtEvtDropped] s t) ∧
        (d.slotsLeft = 0 → namedLane d.scores = none → Ends .diagnosisEnd s fun t =>
          t.rx = { s.rx with diag := none } ∧ t.obj .lnkDiagState = 0xFF02 ∧ (s.eventRoom = true → LastEvent t 0x31 1 2) ∧
          Only [.rx, .mgt, .outbox] [.lnkDiagState, .mgtEvtMode, .mgtEvtDropped] s t)))

/-! ### The packet engine -/

/-- PACKET_TAKE_ON takes the oldest packet of a VC. A good packet in transit goes to the relay or link egress of its route with HOPS
one higher; a single-packet response that ends at an H-side instance goes to the Stream Port; a read that ends at an S-side stack
with every right opens a job for its sectors. A malformed response is counted and dropped. Without an address a link packet is
counted as without route, and a Stream Port packet waits. -/
def Obligations.PacketsAreTakenOn : Prop :=
  ∀ (s : State) (vc : Fin 8), s.aon.up = true → s.linkCore = true →
    (∀ src : Ingress, (∀ p ∈ s.ingressOf src, p.vc ≠ vc.val) → exec (.packetTakeOn src vc) s = .next s) ∧
    (∀ p, (s.rx.queue.find? fun x => x.vc == vc.val) = some p →
      (s.fa ≠ 0xFFF → s.fenced = false → s.pk.routeFenced = false → s.waits .link p = false →
        (malformed p.pkt p.vc (s.hSide && p.pkt.hdr.dst = s.fa) = false →
          (∀ port, port < 64 → s.route p.pkt.hdr = .out .relay port → p.pkt.hdr.hops < 15 → Ends (.packetTakeOn .link vc) s fun t =>
            t.rl = { s.rl with egress := s.rl.egress ++ [⟨s.pk.nextId, { p.pkt with hdr := { p.pkt.hdr with hops := p.pkt.hdr.hops + 1 } }, s.aon.lclk, port⟩] } ∧
            t.rx = { s.rx with queue := s.rx.queue.erase p } ∧ t.pk = { s.pk with nextId := s.pk.nextId + 1 } ∧ Only [.rx, .rl, .pk] [.lnkXoffState, .tclPortRelay] s t) ∧
          (s.hSide = true → s.sp.up = true → isRequest p.pkt.hdr.type = false → p.pkt.hdr.dst = s.fa → p.pkt.hdr.ep ≠ s.obj .pktOwnEp → p.pkt.hdr.msgCount = 1 →
            p.pkt.hdr.synth = false → p.pkt.hdr.type ≠ tErrCpl → s.pk.closed = [] → Ends (.packetTakeOn .link vc) s fun t =>
            t.sp = { s.sp with egress := s.sp.egress ++ [⟨s.pk.nextId, p.pkt, s.aon.lclk, 0⟩] } ∧ t.rx = { s.rx with queue := s.rx.queue.erase p } ∧
            t.pk.ordered = (s.pk.ordered.filter fun r => !answers p.pkt.hdr r) ∧ t.pk.msgs = s.pk.msgs ∧ Only [.rx, .sp, .pk] [.lnkXoffState, .tclPortStream] s t) ∧
          (s.sSide = true → p.pkt.hdr.dst = s.fa → p.pkt.hdr.type = tRdReq → p.pkt.hdr.msgCount = 1 → s.pk.closed = [] → s.obj .stkPcState = 0 → s.stk.pcs.length = 32 →
            s.accessStatus p.pkt.hdr p.pkt.hdr.aux = stOk → Ends (.packetTakeOn .link vc) s fun t =>
            t.stk.jobs = s.stk.jobs ++ [⟨s.stk.nextJob, p.pkt.hdr, none, p.pkt.hdr.aux, List.replicate p.pkt.hdr.aux (0, zeros 64, false), false, false, true, false⟩] ∧
            (∃ op ∈ (t.pc (p.pkt.hdr.addr % 32)).waiting, op.addr = p.pkt.hdr.addr ∧ op.step = .read ∧ op.use = .packet s.stk.nextJob 0) ∧
            t.rx = { s.rx with queue := s.rx.queue.erase p } ∧ t.stk.slots = s.stk.slots ∧ Only [.rx, .stk] [.lnkXoffState] s t)) ∧
        (malformed p.pkt p.vc (s.hSide && p.pkt.hdr.dst = s.fa) = true → isRequest p.pkt.hdr.type = false → s.obj .pktMalformed + 1 < 2 ^ 32 →
          Ends (.packetTakeOn .link vc) s fun t =>
            t.obj .pktMalformed = s.obj .pktMalformed + 1 ∧ t.rx = { s.rx with queue := s.rx.queue.erase p } ∧ Only [.rx] [.lnkXoffState, .pktMalformed] s t)) ∧
      (s.fa = 0xFFF → s.obj .pktNoroute + 1 < 2 ^ 32 → Ends (.packetTakeOn .link vc) s fun t =>
        t.obj .pktNoroute = s.obj .pktNoroute + 1 ∧ t.rx = { s.rx with queue := s.rx.queue.erase p } ∧ Only [.rx] [.lnkXoffState, .pktNoroute] s t)) ∧
    (∀ p, (s.rl.ingress.find? fun x => x.vc == vc.val) = some p → s.fa ≠ 0xFFF → s.fenced = false → s.pk.routeFenced = false → s.waits .relay p = false →
      malformed p.pkt p.vc (s.hSide && p.pkt.hdr.dst = s.fa) = false → s.route p.pkt.hdr = .out .link 0 → p.pkt.hdr.hops < 15 → isDl p.pkt.hdr.tc = false →
      Ends (.packetTakeOn .relay vc) s fun t =>
        t.tx = { s.tx with queue := s.tx.queue ++ [⟨s.pk.nextId, { p.pkt with hdr := { p.pkt.hdr with hops := p.pkt.hdr.hops + 1 } }, s.aon.lclk, 0⟩] } ∧
        t.rl = { s.rl with ingress := s.rl.ingress.erase p } ∧ t.outbox = s.outbox ++ [.relayCredit p.vc p.space] ∧ t.pk = { s.pk with nextId := s.pk.nextId + 1 } ∧
        Only [.rl, .tx, .pk, .outbox] [.tclPortLink] s t) ∧
    (s.fa = 0xFFF → exec (.packetTakeOn .stream vc) s = .next s)

/-- REQ_TIMEOUT ends an own request with TIMEOUT and counts it; its user takes the result. MSG_TIMEOUT drops a message that is not
complete, counts it and remembers it as closed: a response message ends at the Stream Port with a synthesised TIMEOUT, and a
request is answered with TIMEOUT. A message that is complete does not time out. Where it rests on choices of the model:
notes/assumptions/3, 14. -/
def Obligations.PacketTimeouts : Prop :=
  ∀ s : State, s.aon.up = true → s.obj .pktTimeouts + 1 < 2 ^ 32 →
    (∀ (tag : Fin 4096), s.pk.ownWait = [] →
      (∀ r, (s.pk.own.find? fun r => r.tag == tag.val) = some r → r.use ≠ .discard → r.use ≠ .pstateWrite → r.use.isAccess = false → Ends (.reqTimeout tag) s fun t =>
        t.pk = { s.pk with own := s.pk.own.filter (fun x => x.tag != r.tag), done := s.pk.done ++ [⟨r.use, stTimeout, []⟩] } ∧
        t.obj .pktTimeouts = s.obj .pktTimeouts + 1 ∧ Only [.pk] [.pktTimeouts] s t) ∧
      ((s.pk.own.find? fun r => r.tag == tag.val) = none → exec (.reqTimeout tag) s = .next s)) ∧
    (∀ n : Nat, ∀ m, s.pk.msgs[n]? = some m →
      (m.complete = true → exec (.msgTimeout n) s = .next s) ∧
      (m.complete = false → 1 < m.hdr.msgCount → s.pk.hold = List.replicate 32 none → s.pk.closed = [] →
        (isRequest m.hdr.type = false → m.hdr.type ≠ tOpCpl → s.sp.up = true → Ends (.msgTimeout n) s fun t =>
          t.pk.msgs = (s.pk.msgs.filter fun x => !sameMsg x.hdr m.hdr) ∧ t.pk.closed = [m.hdr] ∧
          t.sp = { s.sp with egress := s.sp.egress ++ [⟨s.pk.nextId, ⟨{ m.hdr with status := stTimeout, synth := true, last := true, msgCount := 1, len := 0 }, [], []⟩, s.aon.lclk, 0⟩] } ∧
          t.obj .pktTimeouts = s.obj .pktTimeouts + 1 ∧ Only [.pk, .sp] [.pktTimeouts, .tclPortStream] s t) ∧
        (isRequest m.hdr.type = true → s.fenced = false → s.fa ≠ 0xFFF → ∀ port, port < 64 → s.route (synthetic m.hdr 0 stTimeout false s.epochNow).hdr = .out .relay port →
          Ends (.msgTimeout n) s fun t =>
            t.pk.msgs = (s.pk.msgs.filter fun x => !sameMsg x.hdr m.hdr) ∧ t.pk.closed = [m.hdr] ∧
            (∃ q ∈ t.rl.egress.getLast?, t.rl = { s.rl with egress := s.rl.egress ++ [q] } ∧ q.pkt.hdr.status = stTimeout ∧ q.pkt.hdr.dst = m.hdr.src ∧ q.pkt.hdr.tag = m.hdr.tag ∧ q.port = port) ∧
            t.obj .pktTimeouts = s.obj .pktTimeouts + 1 ∧ Only [.pk, .rl] [.pktTimeouts, .tclPortRelay] s t)))

/-! ### Rules of the whole block -/

/-- A packet with HOPS 15 that would go to the link or the Relay Port is discarded and counted. A request is answered besides, with
its response type and LINK_DOWN, SYNTH 1, LAST 1, MSG_COUNT 1 and LEN 0; an OP_SUBMIT with an OP_CPL of LEN 2 whose record is zero
but for STATUS, QUEUE and DESC_ID. -/
def Obligations.HopLimit : Prop :=
  ∀ (s : State) (src : Ingress) (vc : Fin 8), s.aon.up = true → s.linkCore = true → src ≠ .stream → s.fa ≠ 0xFFF → s.fenced = false → s.pk.routeFenced = false →
    ∀ p, ((s.ingressOf src).find? fun x => x.vc == vc.val) = some p → s.waits src p = false → malformed p.pkt p.vc (s.hSide && p.pkt.hdr.dst = s.fa) = false →
    p.pkt.hdr.hops = 15 → (∃ e ∈ [Egress.link, .relay], ∃ port, port < 64 ∧ s.route p.pkt.hdr = .out e port) → s.obj .pktHopDrops + 1 < 2 ^ 32 →
      (isRequest p.pkt.hdr.type = false → Ends (.packetTakeOn src vc) s fun t =>
        t.obj .pktHopDrops = s.obj .pktHopDrops + 1 ∧ t.ingressOf src = (s.ingressOf src).erase p ∧ t.rl.egress = s.rl.egress ∧
        Only [.rx, .rl, .outbox] [.lnkXoffState, .pktHopDrops] s t) ∧
      (isRequest p.pkt.hdr.type = true → ∀ back, back < 64 → s.repliesBy p.pkt.hdr back → Ends (.packetTakeOn src vc) s fun t =>
        t.obj .pktHopDrops = s.obj .pktHopDrops + 1 ∧ t.ingressOf src = (s.ingressOf src).erase p ∧
        (∃ q ∈ t.rl.egress.getLast?, t.rl.egress = s.rl.egress ++ [q] ∧ q.port = back ∧ q.pkt.hdr.type = respType p.pkt.hdr.type ∧ q.pkt.hdr.dst = p.pkt.hdr.src ∧
          q.pkt.hdr.src = p.pkt.hdr.dst ∧ q.pkt.hdr.tag = p.pkt.hdr.tag ∧ q.pkt.hdr.status = stLinkDown ∧ q.pkt.hdr.synth = true ∧ q.pkt.hdr.last = true ∧ q.pkt.hdr.msgCount = 1 ∧
          (p.pkt.hdr.type ≠ tSubmit → q.pkt.hdr.len = 0 ∧ q.pkt.payload = []) ∧
          (p.pkt.hdr.type = tSubmit → q.pkt.hdr.len = 2 ∧ q.pkt.payload.length = 64 ∧ valAt q.pkt.payload 0 2 = p.pkt.descId % 65536 ∧ valAt q.pkt.payload 2 1 = p.pkt.hdr.aux % 64 ∧
            valAt q.pkt.payload 3 1 = stLinkDown ∧ slice q.pkt.payload 4 60 = zeros 60)) ∧
        Only [.rx, .rl, .pk, .outbox] [.lnkXoffState, .pktHopDrops, .tclPortRelay] s t)

/-! ### Classes and admission -/

/-- GATE_START starts a waiting gate list at phase 0 and shows it. QUEUE_SAMPLE takes the depth of every egress queue and raises the
maxima; QUEUE_SAMPLES_READ and PORT_COUNTERS_READ hand the counters out and clear what a read clears; while the link core is off
they answer DOMAIN_OFF. Where it rests on choices of the model: notes/assumptions/24. -/
def Obligations.GatesSamplesAndCounters : Prop :=
  ∀ s : State, s.aon.up = true →
    (∀ vc : Fin 8, (vc.val = 1 ∨ vc.val = 2) → s.locked = true → (s.gate vc).waiting = true → s.cls.gates.length = 2 → Ends (.gateStart vc) s fun t =>
      t.gate vc = ⟨true, false, 0⟩ ∧ t.gate (3 - vc.val) = s.gate (3 - vc.val) ∧ t.fld .tclGateState (2 * vc.val - 1) (2 * vc.val - 2) = 1 ∧ t.cls.register = s.cls.register ∧
      (∀ i, i < 256 → s.entry .tclFlowState i ≠ 1 → t.entry .tclFlowState i = s.entry .tclFlowState i) ∧ Only [.cls] [.tclGateState, .tclFlowState] s t) ∧
    (s.linkCore = true → Ends .queueSample s fun t =>
      (∀ e : Egress, ∀ vc, vc < 8 →
        field (t.entry .tclQueueSamples (egressIndex e * 8 + vc)) 15 0 = min 0xFFFF (queuedFlits (s.egressQueue e) vc) ∧
        field (t.entry .tclQueueSamples (egressIndex e * 8 + vc)) 31 16 = max (field (s.entry .tclQueueSamples (egressIndex e * 8 + vc)) 31 16) (min 0xFFFF (queuedFlits (s.egressQueue e) vc)) ∧
        field (t.entry .tclQueueSamples (egressIndex e * 8 + vc)) 127 32 = field (s.entry .tclQueueSamples (egressIndex e * 8 + vc)) 127 32) ∧
      Only [] [.tclQueueSamples] s t) ∧
    (∀ r, s.heard r = true → s.linkCore = true → Ends (.queueSamplesRead r) s fun t =>
      t.outbox = s.outbox ++ [.counters (s.objBytes .tclQueueSamples), .reply 0 0] ∧
      (∀ k, k < 24 → t.entry .tclQueueSamples k = field (s.entry .tclQueueSamples k) 15 0) ∧ Only [.outbox] [.tclQueueSamples] s t) ∧
    (∀ r, s.heard r = true → s.linkCore = true → ∀ e : Egress, Ends (.portCountersRead r e) s fun t =>
      t.outbox = s.outbox ++ [.counters (s.portBlock e), .reply 0 0] ∧ (∀ v, v < 8 → t.entry (portObj e) (12 + v) = 0) ∧
      (∀ i, i < 12 → t.entry (portObj e) i = s.entry (portObj e) i) ∧ Only [.outbox] [portObj e] s t) ∧
    (∀ r, s.heard r = true → s.linkCore = false → exec (.queueSamplesRead r) s = .next { s with outbox := s.outbox ++ [.reply 0x0B 0] } ∧
      ∀ e : Egress, exec (.portCountersRead r e) s = .next { s with outbox := s.outbox ++ [.reply 0x0B 0] })

/-- The transit register. ADMISSION_HOP_QUERY answers with this instance's term and remembers the candidate; ADMISSION_HOP_TIMEOUT
marks the walk. TRANSIT_REGISTER_UPDATE registers a flow with its slack, changes a slack, and removes a flow. FLOW_RECOMPUTE tells
the home of a flow whose term has risen, or withdraws the flow where the rise passes its slack. RECHECK_DONE shows how many flows
a rate would withdraw. Where it rests on choices of the model: notes/assumptions/26. -/
def Obligations.AdmissionAndRegister : Prop :=
  ∀ s : State, s.aon.up = true → s.linkCore = true →
    (∀ q : HopQuery, s.fa ≠ 0xFFF → s.fenced = false → ∀ e, s.flowHop q = some e → Ends (.admissionHopQuery q) s fun t =>
      t.outbox = s.outbox ++ [.hop (s.hopAnswer q)] ∧ t.cls.asked.getLast? = some ⟨q, 0, e.1, s.flowTerm q e.1 s.lclk⟩ ∧
      t.cls = { s.cls with asked := t.cls.asked } ∧ Only [.cls, .outbox] [] s t) ∧
    (∀ w, s.cls.walk = some w → exec .admissionHopTimeout s = .next { s with cls := { s.cls with walk := some { w with timedOut := true } } }) ∧
    (s.cls.walk = none → exec .admissionHopTimeout s = .next s) ∧
    (∀ (q : HopQuery) (slack : Nat), ∀ e, s.flowHop q = some e → (∀ x ∈ s.cls.register, sameFlow x.q q = false) → s.cls.register.length + 1 < 2 ^ 16 →
      Ends (.transitRegisterUpdate (.register q slack)) s fun t =>
        t.cls.register = s.cls.register ++ [⟨q, slack, e.1, s.flowTerm q e.1 s.lclk⟩] ∧ t.obj .tclRegisterUsed = s.cls.register.length + 1 ∧
        Only [.cls] [.arrDlStackSlots, .tclRegisterUsed] s t) ∧
    (∀ home index slack : Nat, Ends (.transitRegisterUpdate (.slack home index slack)) s fun t =>
        t = { s with cls := { s.cls with register := s.cls.register.map fun (x : Transit) => if x.q.home == home && x.q.index == index then { x with slack := slack } else x } }) ∧
    (∀ home index : Nat, index < 256 → Ends (.transitRegisterUpdate (.remove home index)) s fun t =>
        t.cls = { s.cls with register := s.cls.register.filter fun (x : Transit) => !(x.q.home == home && x.q.index == index) } ∧ Only [.cls] [.arrDlStackSlots, .tclRegisterUsed] s t) ∧
    (s.cls.register = [] → exec .flowRecompute s = .next s) ∧
    (∀ x ∈ s.cls.register, s.cls.register = [x] → x.q.home ≠ s.fa →
      (x.term < s.flowTerm x.q x.egress s.lclk → s.flowTerm x.q x.egress s.lclk - x.term ≤ x.slack → Ends .flowRecompute s fun t =>
        t.cls = { s.cls with register := [{ x with term := s.flowTerm x.q x.egress s.lclk }] } ∧
        t.outbox = s.outbox ++ [.tell x.q.home (.reduce x.q.index (s.flowTerm x.q x.egress s.lclk - x.term))] ∧ Only [.cls, .outbox] [] s t) ∧
      (x.slack < s.flowTerm x.q x.egress s.lclk - x.term → Ends .flowRecompute s fun t =>
        t.cls.register = [] ∧ t.outbox.getLast? = some (.tell x.q.home (.withdraw x.q.index 2)) ∧ (s.eventRoom = true → LastEvent t 0x51 1 (x.q.index % 256)) ∧
        Only [.cls, .mgt, .outbox] [.arrDlStackSlots, .tclRegisterUsed, .mgtEvtMode, .mgtEvtDropped] s t)) ∧
    (∀ rate, s.cls.recheck = some rate → s.cal.stepRate = none → (s.wouldWithdraw rate).length ≤ 1 → Ends .recheckDone s fun t =>
        t.cls = { s.cls with recheck := none } ∧ t.fld .tclRecheckResult 15 0 = (s.wouldWithdraw rate).length ∧ t.fld .tclRecheckResult 16 16 = 1 ∧
        Only [.cls] [.tclRecheckResult] s t) ∧
    (s.cls.recheck = none → exec .recheckDone s = .next s)

/-! ### The array -/

/-- A descriptor from submission to its start. OP_SUBMIT queues the descriptor when every check passes, and otherwise counts a refusal
and answers with the status of the failed check. DESCRIPTOR_START starts the descriptor that may start next in its queue.
CLUSTER_IDLE_GATE gates an idle cluster outside every deadline mask and CLUSTER_WAKE ends that when work waits. WCET_RECOMPUTE
shows the worst-case execution time of every queue. Where it rests on choices of the model: notes/assumptions/27. -/
def Obligations.DescriptorsAreTakenAndStarted : Prop :=
  ∀ s : State, s.aon.up = true →
    (∀ p fl rest, s.arr.submits = (p, fl) :: rest →
      ((s.submitStatus p).1 = stOk → s.obj .oprPassSplits + 1 < 2 ^ 32 → Ends .opSubmit s fun t =>
        (∃ d ∈ t.arr.descs.getLast?, t.arr = { s.arr with descs := s.arr.descs ++ [d], submits := rest, nextDesc := s.arr.nextDesc + 1 } ∧ d.id = s.arr.nextDesc ∧
          d.queue = p.hdr.aux % 64 ∧ d.req = p.hdr ∧ d.bytes = p.payload ∧ d.phase = .queued ∧ d.passes = (s.submitStatus p).2.passes) ∧
        t.obj .oprPassSplits = s.obj .oprPassSplits + (if 1 < (s.submitStatus p).2.passes then 1 else 0) ∧ Only [.arr] [.oprPassSplits] s t) ∧
      ((s.submitStatus p).1 ≠ stOk → s.obj .arrSubmitRefused + 1 < 2 ^ 32 → ∀ port, port < 64 → s.repliesBy p.hdr port → Ends .opSubmit s fun t =>
        t.arr = { s.arr with submits := rest } ∧ t.obj .arrSubmitRefused = s.obj .arrSubmitRefused + 1 ∧ Replied s t p.hdr (s.submitStatus p).1 port ∧
        Only [.arr, .rl, .pk] [.arrSubmitRefused, .tclPortRelay] s t)) ∧
    (s.arr.submits = [] → exec .opSubmit s = .next s) ∧
    (∀ q : Fin 64, (∀ d, s.nextStart q = some d → s.arrayFenced = false → d.op ≠ opReduce → d.op ≠ opFlush →
        exec (.descriptorStart q) s = .next (s.setDesc { d with phase := .running, acc := initAcc d.v })) ∧
      (s.nextStart q = none → exec (.descriptorStart q) s = .next s)) ∧
    (∀ k : Fin 8,
      ((s.obj .arrClusterEn).testBit k = true → s.readyDom (10 + k) = true → s.obj .arrIdleGate ≠ 0 → s.deadlineMask.testBit k = false →
        (∀ w ∈ s.arr.work, w.1 / 17 ≠ k.val) →
        exec (.clusterIdleGate k) s = .next { s with arr := { s.arr with gated := setBit s.arr.gated k true } }) ∧
      (s.deadlineMask.testBit k = true → exec (.clusterIdleGate k) s = .next s) ∧
      (s.arr.gated.testBit k = true → s.wanted k = true → exec (.clusterWake k) s = .next { s with arr := { s.arr with gated := setBit s.arr.gated k false } }) ∧
      (s.wanted k = false → exec (.clusterWake k) s = .next s)) ∧
    (s.cls.register = [] → Ends .wcetRecompute s fun t => (∀ q, q < 64 → t.entry .arrQueueWcet q = s.wcet q) ∧ Only [] [.arrQueueWcet] s t)

/-- Tiles. TILE_DISPATCH gives a free cell the next tile of the first deadline queue that has one, or of the next best-effort queue of
the round, and asks for the sectors that the tile lacks. TILE_DONE puts a result into the merge buffer; the result that is next in
index order is merged, and a descriptor with an inline result takes its bytes. CELL_FAULT takes the cell out of use: the spare
cell of its cluster takes its place, the tile runs again, and an event tells of it. Where it rests on choices of the model:
notes/assumptions/28. -/
def Obligations.TilesRunAndMerge : Prop :=
  ∀ s : State, s.aon.up = true →
    (∀ cell : Fin 136, s.arrayFenced = false → s.cellFree cell = true → s.arr.redAgain = [] →
      (∀ q rest, (s.readyQueues (cell / 17)).1 = q :: rest → ∀ x, s.queueTile q = some x → x.1.rerun = [] → x.1.phase = .running →
        (s.findDesc x.1.id = some x.1 → ∀ res, s.tileResult x.1 x.2 = .ok res →
          exec (.tileDispatch cell) s = .next { s with arr := { s.arr with
            descs := s.arr.descs.map fun y => if y.id == x.1.id then { x.1 with nextTile := x.2 + 1 } else y, work := s.arr.work ++ [(cell.val, .tile x.1.id x.2)] } })) ∧
      (∀ q, s.readyQueues (cell / 17) = ([], [q]) → s.arr.shares.getD q 0 < qWeight (s.queueCfg q) → ∀ x, s.queueTile q = some x → x.1.rerun = [] → x.1.phase = .running →
        s.findDesc x.1.id = some x.1 → (∀ e, s.tileResult x.1 x.2 = .error e → ∀ st, e ≠ .bad st) → s.sSide = true → s.arr.accesses = [] → Ends (.tileDispatch cell) s fun t =>
          t.arr.work = s.arr.work ++ [(cell.val, .tile x.1.id x.2)] ∧ t.arr.shares = s.arr.shares.set q (s.arr.shares.getD q 0 + 1) ∧
          t.arr.descs = (s.arr.descs.map fun y => if y.id == x.1.id then { x.1 with nextTile := x.2 + 1 } else y) ∧
          (∀ e, s.tileResult x.1 x.2 = .error e → ∀ l, e = .need l → ∀ a ∈ l, ∃ y ∈ t.arr.accesses, y.desc = x.1.id ∧ y.addr = a ∧ y.n = 1 ∧ y.write = false) ∧
          Only [.arr, .stk] [] s t) ∧
      (s.readyQueues (cell / 17) = ([], []) → exec (.tileDispatch cell) s = .next s)) ∧
    (∀ cell : Fin 136, ∀ w, s.arr.work.find? (fun w => w.1 == cell.val) = some w → w.1 = cell.val → ∀ d ∈ s.arr.descs, s.findDesc d.id = some d → ∀ n, w.2 = .tile d.id n →
      (s.arrayFenced = false → (∀ e, s.tileResult d n = .error e → exec (.tileDone cell) s = .next s) ∧
        (∀ res, s.tileResult d n = .ok res →
          (d.merged ≠ n → (∀ x ∈ d.results, x.1 ≠ d.merged) → d.merged ≠ tileCount d.v → exec (.tileDone cell) s = .next { s with arr := { s.arr with
            work := s.arr.work.erase w, descs := s.arr.descs.map fun y => if y.id == d.id then { d with results := d.results ++ [(n, res)], ran := d.ran + (if skipped d.op res then 0 else 1) } else y } }) ∧
          (d.merged = n → d.results = [] → d.phase = .running → n + 1 ≠ tileCount d.v → dInline d.v = true → d.op ≠ opReduce → Ends (.tileDone cell) s fun t =>
            t.arr = { s.arr with work := s.arr.work.erase w, descs := t.arr.descs } ∧
            (∃ e ∈ t.arr.descs, e.id = d.id ∧ e.merged = n + 1 ∧ e.results = [] ∧ e.ran = d.ran + (if skipped d.op res then 0 else 1) ∧
              e.inline = d.inline ++ ((mergedOutput d.v d.passes d.mem (mergeVals d.v { d.acc with tally := {} } n res) res n).1.map (·.2)).flatten ∧ e.phase = .running) ∧
            Only [.arr] [.oprCvtSat, .oprCvtOvf, .oprNanMade, .oprNanBlocks, .oprAccOvf, .oprAttnEmpty, .oprAttnRows, .oprTopkNan, .oprGemvBytes, .oprGatherEmpty, .oprGatherRows] s t))) ∧
      (s.entry .arrCellState cell = 0 → s.entry .arrCellState (17 * (cell / 17) + 16) = 1 → (∀ i, i < 16 → s.entry .arrCellState (17 * (cell / 17) + i) ≠ 1) →
        (∀ y ∈ s.arr.descs, ∃ x ∈ s.countedCells (qMask (s.queueCfg y.queue)), x ≠ cell.val) → s.obj .arrCellFails + 1 < 2 ^ 32 → s.obj .oprTileReruns + 1 < 2 ^ 32 →
        Ends (.cellFault cell) s fun t =>
          t.entry .arrCellState cell = 2 ∧ t.entry .arrCellState (17 * (cell / 17) + 16) = 0 ∧
          (∀ x, x < 136 → x ≠ cell.val → x ≠ 17 * (cell.val / 17) + 16 → t.entry .arrCellState x = s.entry .arrCellState x) ∧
          t.arr = { s.arr with work := s.arr.work.erase w, descs := s.arr.descs.map fun y => if y.id == d.id then { d with rerun := natSort (n :: d.rerun), rerunFlag := true } else y } ∧
          t.obj .arrCellFails = s.obj .arrCellFails + 1 ∧ t.obj .oprTileReruns = s.obj .oprTileReruns + 1 ∧ (s.eventRoom = true → LastEvent t 0x60 2 (cell.val % 256)) ∧
          Only [.arr, .mgt, .outbox] [.arrCellState, .arrCellFails, .oprTileReruns, .mgtEvtMode, .mgtEvtDropped] s t))

/-- OPERAND_ACCESS_DONE gives an operand's sectors to its descriptor, notes result sectors that are written, and ends the operator on
a failure. DESCRIPTOR_FINISH completes the oldest descriptor of a queue that can: it leaves the queue, and its OP_CPL carries OK,
or the worst status that ended it. Where it rests on choices of the model: notes/assumptions/28. -/
def Obligations.AccessesAndCompletion : Prop :=
  ∀ s : State, s.aon.up = true →
    (∀ a ∈ s.arr.accesses, s.arr.accesses.find? (fun x => x.id == a.id && x.done.isSome) = some a → s.pk.ownWait = [] → ∀ d ∈ s.arr.descs, d.id = a.desc → s.findDesc d.id = some d →
      d.phase ≠ .ending → ∀ r, a.done = some r →
      (r.1 = stOk → a.write = false → a.patch = none → s.tilesOf d.id = [] → exec (.operandAccessDone a.id) s = .next
        (({ s with arr := { s.arr with accesses := s.arr.accesses.erase a } } : State).setDesc { d with mem := d.mem ++ (List.range a.n).map fun i => (a.addr + i, slice r.2.2 (64 * i) 64) })) ∧
      (r.1 = stOk → a.write = true → d.op ≠ opCopy → exec (.operandAccessDone a.id) s = .next
        (({ s with arr := { s.arr with accesses := s.arr.accesses.erase a } } : State).setDesc { d with okSectors := d.okSectors ++ (List.range a.n).map fun i => a.addr + i })) ∧
      (r.1 ≠ stOk → a.write = false → a.patch = none → Ends (.operandAccessDone a.id) s fun t =>
        (∀ w ∈ t.arr.work, ∀ n, w.2 ≠ .tile d.id n) ∧ (∃ e ∈ t.arr.descs, e = { d with phase := .ending, fails := d.fails ++ [r.1], rerun := [], results := [], written := [] }) ∧
        t.arr = { s.arr with accesses := s.arr.accesses.erase a, descs := t.arr.descs, work := t.arr.work } ∧ Only [.arr] [] s t)) ∧
    (∀ id : Nat, s.arr.accesses = [] → exec (.operandAccessDone id) s = .next s) ∧
    (∀ q : Fin 64,
      (∀ d, (s.inQueue q).find? s.finishable = some d → s.arr.reductions = [] → d.dropCpl = false → (dInline d.v = false ∨ d.phase = .ending) → s.obj .oprDescDone + 1 < 2 ^ 32 →
        ∀ port, port < 64 → s.repliesBy d.req port → Ends (.descriptorFinish q) s fun t =>
          t.arr = { s.arr with descs := s.arr.descs.filter (fun x => x.id != d.id), accesses := s.arr.accesses.filter (fun a => a.desc != d.id), work := t.arr.work } ∧
          (∀ w ∈ t.arr.work, w ∈ s.arr.work ∧ ∀ n, w.2 ≠ .tile d.id n) ∧
          Replied s t d.req (if d.phase = .ending then worst d.fails else stOk) port ∧
          (d.phase ≠ .ending → t.obj .oprDescDone = s.obj .oprDescDone + 1) ∧ Only [.arr, .rl, .pk, .free] [.oprDescDone, .tclPortRelay] s t) ∧
      ((s.inQueue q).find? s.finishable = none → exec (.descriptorFinish q) s = .next s))

/-! ### Reductions -/

/-- The life of a reduction. DESCRIPTOR_START of a REDUCE_ON_WRITE opens it, and of a REDUCE_FLUSH stops the one that it names. RED_WR
gives a contribution to a free cell, keeps it waiting, or refuses it. RED_WR_ADD_DONE adds its values and counts the message, and
the last contributor stops the reduction. REDUCE_FINISH of a stopped reduction whose work is done starts to write the target, or,
aborted, writes nothing. Where it rests on choices of the model: notes/assumptions/29. -/
def Obligations.ReductionLife : Prop :=
  ∀ s : State, s.aon.up = true →
    (∀ (q : Fin 64), ∀ d, s.nextStart q = some d → s.arrayFenced = false → s.findDesc d.id = some d →
      (d.op = opReduce → s.findRed (reduceOf d.v).redId = none → s.arr.reductions = [] → Ends (.descriptorStart q) s fun t =>
        (∃ r ∈ t.arr.reductions.getLast?, t.arr = { s.arr with reductions := [r], descs := s.arr.descs.map fun y => if y.id == d.id then { d with phase := .running } else y } ∧
          r.id = (reduceOf d.v).redId ∧ r.desc = d.id ∧ r.target = addrOf (dResultAddr d.v) ∧ r.elements = (reduceOf d.v).elements ∧ r.contributors = (reduceOf d.v).contributors ∧
          r.counted = 0 ∧ r.state = 1 ∧ r.accs = [] ∧ r.poison = false) ∧ Only [.arr] [] s t) ∧
      (d.op = opFlush → s.findRed (flushId d.v) = none → exec (.descriptorStart q) s = .next (s.setDesc { d with phase := .writing, info := 0 })) ∧
      (∀ r, s.findRed (flushId d.v) = some r → d.op = opFlush → s.redOpen r = true → r.part = qPart (s.queueCfg d.queue) → exec (.descriptorStart q) s = .next
        ((s.setDesc { d with phase := .waiting }).setRed { r with state := 2, endCode := if flushAbort d.v then 2 else 1, flush := some d.id }))) ∧
    (∀ p fl rest, s.arr.redIn = (p, fl) :: rest →
      (∀ r, s.findRed p.hdr.aux = some r → s.redStatus p = stOk →
        (∀ x, s.freeCell (qMask (s.queueCfg r.queue)) = some x → exec .redWr s = .next { s with arr := { s.arr with redIn := rest, work := s.arr.work ++ [(x, .redWr r.id p)] } }) ∧
        (s.freeCell (qMask (s.queueCfg r.queue)) = none → exec .redWr s = .next { s with arr := { s.arr with redIn := rest, redAgain := s.arr.redAgain ++ [(r.id, p)] } })) ∧
      (s.redStatus p = stRefused → p.hdr.type = tRedWr → s.obj .redRefused + 1 < 2 ^ 32 → ∀ m, s.findMsg p.hdr = some m → m.hdr.msgCount ≤ m.performed + 1 → m.dropped = false → m.status = stOk →
        ∀ port, port < 64 → s.repliesBy p.hdr port → Ends .redWr s fun t =>
          t.arr = { s.arr with redIn := rest } ∧ t.obj .redRefused = s.obj .redRefused + 1 ∧ Replied s t p.hdr stRefused port ∧ s.findMsg p.hdr ≠ t.findMsg p.hdr ∧
          Only [.arr, .rl, .pk] [.redRefused, .tclPortRelay] s t)) ∧
    (s.arr.redIn = [] → exec .redWr s = .next s) ∧
    (∀ x ∈ s.arr.work, s.arr.work = [x] → ∀ p, x.2 = .redWr p.hdr.aux p → ∀ r, s.findRed p.hdr.aux = some r → ∀ m, s.findMsg p.hdr = some m → p.hdr.type = tRedWr →
      m.hdr.msgCount ≤ m.performed + 1 → m.dropped = false → m.status = stOk → s.arr.reductions = [r] → r.state = 1 → ∀ port, port < 64 → s.repliesBy p.hdr port → Ends .redWrAddDone s fun t =>
        t.arr = { s.arr with work := [], reductions := [{ (r.add p).1 with counted := r.counted + 1, state := if r.contributors ≤ r.counted + 1 then 2 else 1 }] } ∧
        Replied s t p.hdr stOk port ∧ Only [.arr, .rl, .pk] [.oprCvtSat, .oprCvtOvf, .oprNanMade, .oprNanBlocks, .oprAccOvf, .tclPortRelay] s t) ∧
    (s.arr.work = [] → exec .redWrAddDone s = .next s) ∧
    (∀ r ∈ s.arr.reductions, s.findRed r.id = some r → ∀ d, s.findDesc r.desc = some d → r.state = 2 → s.redQuiet r = true → s.arrayFenced = false →
      (r.endCode = 2 → exec (.reduceFinish r.id) s = .next ((s.setDesc { d with phase := .writing, info := r.info }).setRed { r with state := 3, accs := [] })) ∧
      (r.endCode ≠ 2 → s.sSide = true → s.arr.reductions = [r] → d.op = opReduce → Ends (.reduceFinish r.id) s fun t =>
        t.arr.reductions = [{ r with state := 3 }] ∧ t.arr.work = s.arr.work ∧ (∃ e ∈ t.arr.descs, e.id = d.id ∧ e.phase = .writing ∧ e.info = r.info) ∧
        Only [.arr, .stk] [.oprCvtSat, .oprCvtOvf, .oprNanMade, .oprNanBlocks, .oprAccOvf] s t)) ∧
    (∀ id : Nat, s.arr.reductions = [] → exec (.reduceFinish id) s = .next s)

/-! ### Keys, partitions, the digest and zeroisation -/

/-- KEY_LOAD, KEY_SELECT and KEY_CLEAR of a message that the key unit holds for mailbox 4. A load takes the key that unwraps, a select
makes a loaded position the write key, a clear empties a position that is not the write key; each counts, advances the digest's
generation and replies with RESULT 0. A key unit without keys answers RESULT 6 and changes no slot. No other slot changes. Where
it rests on choices of the model: notes/assumptions/8. -/
def Obligations.KeyCommands : Prop :=
  ∀ s : State, s.aon.up = true → ∀ (part pos flags : Byte) (wrap : List Byte), pos.toNat ≤ 1 → s.mgt.mailboxes.length = 6 → (s.mbx 4).inFull = false → s.obj .stkKeyCmds + 1 < 2 ^ 32 →
    s.obj .stkKeyRefused + 1 < 2 ^ 32 → s.obj .stkDigestGenNow + 1 < 2 ^ 32 →
    (s.noKeys = false →
      (s.mgt.taken = [⟨4, false, [1, part, pos, flags, 0, 0, 0, 0] ++ wrap⟩] → wrap.length = 72 → s.partValid part.toNat = false →
        Ends (.keyLoad ([part, pos, flags, 0, 0, 0, 0] ++ wrap)) s fun t =>
          (∀ key, kwUnwrap (slice Config.keyWrappingKey 0 32) wrap = some key → t.slot part.toNat = { (s.slot part.toNat).setKey pos.toNat (some key) with slot := part.toNat } ∧
            t.obj .stkKeyCmds = s.obj .stkKeyCmds + 1 ∧ t.obj .stkDigestGenNow = s.obj .stkDigestGenNow + 1 ∧ slice (t.mbx 4).inn 0 2 = [0x81, 0]) ∧
          (kwUnwrap (slice Config.keyWrappingKey 0 32) wrap = none → t.stk = s.stk ∧ t.obj .stkKeyRefused = s.obj .stkKeyRefused + 1 ∧ slice (t.mbx 4).inn 0 2 = [0x81, 2]) ∧
          (∀ q, q < 256 → q ≠ part.toNat → t.slot q = s.slot q) ∧ t.mgt.taken = [] ∧ (t.mbx 4).inFull = true ∧ (∀ j, j < 4 → t.mbx j = s.mbx j) ∧
          Only [.stk, .mgt] [.stkKeyCmds, .stkKeyRefused, .stkDigestGenNow, .stkDigestState] s t) ∧
      (s.mgt.taken = [⟨4, false, [2, part, pos, flags, 0, 0, 0, 0]⟩] → ((s.slot part.toNat).key pos.toNat).isSome = true →
        Ends (.keySelect [part, pos, flags, 0, 0, 0, 0]) s fun t =>
          (t.slot part.toNat).writeKey = pos.toNat ∧ (t.slot part.toNat).fenced = false ∧ (t.slot part.toNat).key0 = (s.slot part.toNat).key0 ∧ (t.slot part.toNat).key1 = (s.slot part.toNat).key1 ∧
          (t.slot part.toNat).walk = (if flags.toNat.testBit 0 then some (s.partBase part.toNat) else (s.slot part.toNat).walk) ∧
          t.obj .stkKeyCmds = s.obj .stkKeyCmds + 1 ∧ t.obj .stkDigestGenNow = s.obj .stkDigestGenNow + 1 ∧ slice (t.mbx 4).inn 0 4 = [0x82, 0, part, pos] ∧
          (∀ q, q < 256 → q ≠ part.toNat → t.slot q = s.slot q) ∧ t.mgt.taken = [] ∧ Only [.stk, .mgt] [.stkKeyCmds, .stkDigestGenNow, .stkDigestState] s t) ∧
      (s.mgt.taken = [⟨4, false, [3, part, pos, flags, 0, 0, 0, 0]⟩] → (s.slot part.toNat).writeKey ≠ pos.toNat → (s.slot part.toNat).walk = none →
        Ends (.keyClear [part, pos, flags, 0, 0, 0, 0]) s fun t =>
          (t.slot part.toNat).key pos.toNat = none ∧ (t.slot part.toNat).key (1 - pos.toNat) = (s.slot part.toNat).key (1 - pos.toNat) ∧ (t.slot part.toNat).writeKey = (s.slot part.toNat).writeKey ∧
          t.obj .stkKeyCmds = s.obj .stkKeyCmds + 1 ∧ t.obj .stkDigestGenNow = s.obj .stkDigestGenNow + 1 ∧ slice (t.mbx 4).inn 0 4 = [0x83, 0, part, pos] ∧
          (∀ q, q < 256 → q ≠ part.toNat → t.slot q = s.slot q) ∧ t.mgt.taken = [] ∧ Only [.stk, .mgt] [.stkKeyCmds, .stkDigestGenNow, .stkDigestState] s t)) ∧
    (s.noKeys = true → s.mgt.taken = [⟨4, false, [3, part, pos, flags, 0, 0, 0, 0]⟩] → Ends (.keyClear [part, pos, flags, 0, 0, 0, 0]) s fun t =>
      t.stk = s.stk ∧ t.obj .stkKeyRefused = s.obj .stkKeyRefused + 1 ∧ slice (t.mbx 4).inn 0 2 = [0x83, 6] ∧ t.mgt.taken = [] ∧ Only [.mgt] [.stkKeyRefused] s t) ∧
    (s.mgt.taken = [] → exec (.keyLoad wrap) s = .next s ∧ exec (.keySelect wrap) s = .next s ∧ exec (.keyClear wrap) s = .next s)

/-- A secure write of 1 to STK_PART_APPLY makes the staged tables the active ones when every check of them passes, and otherwise only
shows which check failed. DIGEST_DONE publishes the digest of the present state with its generation. SCR_ZEROISE clears every key
and the active partition table, fences the instance and brings the link down; ZEROISE_CLEAR_TIMEOUT power-cycles a domain that has
not confirmed; ZEROISE_DONE wipes what can hold plaintext and makes the record. Where it rests on choices of the model:
notes/assumptions/8, 31. -/
def Obligations.PartitionsDigestAndZeroisation : Prop :=
  ∀ (r : Requester) (s : State), s.aon.up = true →
    (s.heard r = true → isSecure r = true →
      (s.applyCheck = none → s.obj .stkPcState = 0 → s.obj .stkDigestGenNow + 1 < 2 ^ 32 → Ends (.stkPartApply r) s fun t =>
        t.stk = { s.stk with parts := (if s.sSide then stagedParts s else s.stk.parts), access := stagedAccess s, stagedDiffers := false, boundsFenced := [] } ∧ t.obj .stkPartResult = 0 ∧
        t.obj .stkDigestGenNow = s.obj .stkDigestGenNow + 1 ∧ t.outbox = s.outbox ++ [.reply 0 0] ∧ Only [.stk, .outbox] [.stkPartResult, .stkDigestGenNow, .stkDigestState] s t) ∧
      (∀ e, s.applyCheck = some e → Ends (.stkPartApply r) s fun t =>
        t.obj .stkPartResult % 256 = e.1 ∧ t.outbox = s.outbox ++ [.reply 0 0] ∧ Only [.outbox] [.stkPartResult] s t) ∧
      (s.obj .scrZeroise = 0 → Ends (.scrZeroise r) s fun t =>
        t.obj .scrZeroise = 1 ∧ t.fenced = true ∧ t.linkUp = false ∧ t.stk.slots = [] ∧ t.stk.parts = [] ∧ (∀ p, p < 256 → t.entry .stkPartTable p = 0) ∧
        t.scr.running = [⟨.secureStore, 0, 0, true⟩] ∧ t.scr.zeroWait = s.pwr.powered ∧ t.outbox.getLast? = some (.reply 0 0))) ∧
    (s.heard r = true → isSecure r = false → exec (.stkPartApply r) s = .next { s with outbox := s.outbox ++ [.reply 3 0] } ∧
      exec (.scrZeroise r) s = .next { s with outbox := s.outbox ++ [.reply 3 0] }) ∧
    (s.obj .stkDigestState = 1 → s.stk.selfTestFailed = false → Ends .digestDone s fun t =>
      t.obj .stkDigest = ofBytes (sha384 s.digestMessage) % 2 ^ 384 ∧ t.obj .stkDigestGen = s.obj .stkDigestGenNow ∧ t.obj .stkDigestState = 2 ∧
      Only [] [.stkDigest, .stkDigestGen, .stkDigestState] s t) ∧
    (s.obj .stkDigestState = 2 → exec .digestDone s = .next s) ∧
    (∀ d : Fin 20, s.obj .scrZeroise = 1 → s.scr.zeroWait.testBit d = true → Ends (.zeroiseClearTimeout d) s fun t =>
      t.scr.zeroWait = setBit s.scr.zeroWait d false ∧ t.scr.zeroCycled = true ∧ t.obj .scrZeroise = 1 ∧ t.stk.slots = s.stk.slots ∧ t.pk.own = s.pk.own ∧ t.readyDom d = false) ∧
    (s.obj .scrZeroise = 0 → (∀ d : Fin 20, exec (.zeroiseClearTimeout d) s = .next s) ∧ exec .zeroiseDone s = .next s) ∧
    (s.obj .scrZeroise = 1 → s.scr.running = [] → s.pwr.resetWaits = false → s.obj .mgtFaultCount + 1 < 2 ^ 32 → Ends .zeroiseDone s fun t =>
      t.obj .scrZeroise = 0 ∧ t.entry .scrZeroRecord 0 = s.aon.rclk % 2 ^ 64 ∧ t.entry .scrZeroRecord 1 = 1 + 2 * ofBool s.scr.zeroCycled ∧
      t.arr.descs = [] ∧ t.arr.reductions = [] ∧ t.eng.store = [] ∧ t.tx.spillKey = none ∧ t.tx.queue = [] ∧ t.rx.queue = [] ∧ t.sp.egress = [] ∧ t.stk.jobs = [] ∧ t.scr.zeroWait = 0 ∧
      (s.eventRoom = true → LastEvent t 0x91 3 (1 + 2 * ofBool s.scr.zeroCycled)) ∧ t.obj .mgtFaultCount = s.obj .mgtFaultCount + 1 ∧
      Only [.arr, .eng, .tx, .rx, .pk, .sp, .rl, .stk, .scr, .mgt, .outbox] [.scrZeroise, .scrZeroRecord, .mgtEvtMode, .mgtEvtDropped, .mgtFaultRecord, .mgtFaultCount] s t)

/-! ### Mailboxes and locks -/

/-- Mailboxes at the Control Port. A secure mailbox answers only secure accesses. MAILBOX_SEND marks the outbound message full, with
its length, or answers the status of the first failing check; MAILBOX_ABORT and MAILBOX_RELEASE empty the two sides;
MAILBOX_BUFFER_WRITE writes one word of an outbound buffer that is not full. MAILBOX_TAKEN hands the message to the local target,
or sends it through the tunnel in fragments. The tunnel. TUNNEL and TUNNEL_S of a whole message in one fragment give a request to
its target, and a reply to the mailbox that waits for it; a first fragment of several is kept; a fragment that does not continue
its message drops it. TUNNEL_TIMEOUT ends an exchange with TIMEOUT. ECHO repeats a message that the sequencer holds. Where it
rests on choices of the model: notes/assumptions/48. -/
def Obligations.MailboxesAndTunnel : Prop :=
  (∀ s : State, s.aon.up = true →
      (∀ (sec : Bool) (j : Fin 6), s.portRuns = true →
        ((mbxSecure j = true → sec = true) →
          (∀ len : Nat, (j.val ≤ 1 → s.readyDom 19 = true) → (mbxFar j = true → s.sbUp = true) →
            (0 < len → len ≤ 256 → (s.mbx j).outFull = false → exec (.mailboxSend sec j len) s = .next
              { s.setMbx j { s.mbx j with lastStatus := 0, outFull := true, outLen := len } with outbox := s.outbox ++ [.reply 0 0] }) ∧
            (0 < len → len ≤ 256 → (s.mbx j).outFull = true → exec (.mailboxSend sec j len) s = .next
              { s.setMbx j { s.mbx j with lastStatus := stRefused } with outbox := s.outbox ++ [.reply stRefused 0] }) ∧
            (256 < len → (s.mbx j).outFull = false → exec (.mailboxSend sec j len) s = .next { s.setMbx j { s.mbx j with lastStatus := stMbxLen } with outbox := s.outbox ++ [.reply stMbxLen 0] })) ∧
          exec (.mailboxAbort sec j) s = .next { s.setMbx j { s.mbx j with outFull := false } with outbox := s.outbox ++ [.reply 0 0] } ∧
          exec (.mailboxRelease sec j) s = .next { s.setMbx j { s.mbx j with inFull := false } with outbox := s.outbox ++ [.reply 0 0] } ∧
          (∀ offset value : Nat, offset < 256 →
            ((s.mbx j).outFull = false → exec (.mailboxBufferWrite sec j false offset value) s = .next
              { s.setMbx j { s.mbx j with out := splice (s.mbx j).out (offset / 4 * 4) (toBytes 4 value) } with outbox := s.outbox ++ [.reply 0 0] }) ∧
            ((s.mbx j).outFull = true → exec (.mailboxBufferWrite sec j false offset value) s = .next { s with outbox := s.outbox ++ [.reply stRefused 0] }) ∧
            exec (.mailboxBufferWrite sec j true offset value) s = .next { s with outbox := s.outbox ++ [.reply stDenied 0] })) ∧
        (mbxSecure j = true → sec = false → ∀ n : Nat, exec (.mailboxSend sec j n) s = .next { s with outbox := s.outbox ++ [.reply stDenied 0] } ∧
          exec (.mailboxAbort sec j) s = .next { s with outbox := s.outbox ++ [.reply stDenied 0] } ∧ exec (.mailboxRelease sec j) s = .next { s with outbox := s.outbox ++ [.reply stDenied 0] } ∧
          exec (.mailboxBufferWrite sec j false n n) s = .next { s with outbox := s.outbox ++ [.reply stDenied 0] })) ∧
      (∀ j : Fin 6,
        ((s.mbx j).outFull = false → exec (.mailboxTaken j) s = .next s) ∧
        ((s.mbx j).outFull = true → (s.mbx j).taken = false →
          (j.val ≤ 1 → s.seqRuns = true → seqMalformed ((s.mbx j).out.take (s.mbx j).outLen) = false → Ends (.mailboxTaken j) s fun t =>
            t.mgt = { s.mgt with mailboxes := s.mgt.mailboxes.set j { s.mbx j with outFull := false, taken := true }, taken := s.mgt.taken ++ [⟨j, false, (s.mbx j).out.take (s.mbx j).outLen⟩] } ∧
            Only [.mgt] [] s t) ∧
          (mbxFar j = true → s.sbUp = true → Ends (.mailboxTaken j) s fun t =>
            t.mgt = { s.mgt with mailboxes := s.mgt.mailboxes.set j { s.mbx j with outFull := false, taken := true } } ∧
            t.outbox = s.outbox ++ (fragments j 0 false ((s.mbx j).out.take (s.mbx j).outLen)).map (fun f => .sideband (tunnelType j) f) ∧ Only [.mgt, .outbox] [] s t)))) ∧
  (∀ s : State, s.aon.up = true →
      (s.sbUp = true → s.mgt.tunnels = [] → ∀ d : List Byte, d.length ≤ 58 →
        (∀ j, 2 ≤ j → j ≤ 3 →
          ((s.mbx j).taken = true → ∀ st : Byte, exec (.tunnel ([b8 j, 0xC0, st, 1] ++ toBytes 2 d.length ++ d)) s = .next (s.endExchange j st.toNat d)) ∧
          (s.seqRuns = true → seqMalformed d = false → exec (.tunnel ([b8 j, 0xC0, 0, 0] ++ toBytes 2 d.length ++ d)) s = .next { s with mgt := { s.mgt with taken := s.mgt.taken ++ [⟨j, true, d⟩] } }) ∧
          exec (.tunnel ([b8 j, 0x80, 0, 0] ++ toBytes 2 200 ++ d)) s = .next { s with mgt := { s.mgt with tunnels := [⟨j, false, 1, d⟩] } } ∧
          exec (.tunnel ([b8 j, 0x41, 0, 0] ++ toBytes 2 200 ++ d)) s = .next s ∧ exec (.tunnelS ([b8 j, 0xC0, 0, 0] ++ toBytes 2 d.length ++ d)) s = .next s) ∧
        ((s.mbx 5).taken = true → ∀ st : Byte, exec (.tunnelS ([5, 0xC0, st, 1] ++ toBytes 2 d.length ++ d)) s = .next (s.endExchange 5 st.toNat d)) ∧
        (∀ cmd : Byte, 1 ≤ cmd.toNat → cmd.toNat ≤ 3 → d.length < 58 → exec (.tunnelS ([5, 0xC0, 0, 0] ++ toBytes 2 (d.length + 1) ++ cmd :: d)) s = .next { s with mgt := { s.mgt with taken := s.mgt.taken ++ [⟨5, true, cmd :: d⟩] } })) ∧
      (∀ j : Fin 6, (mbxFar j = true → (s.mbx j).taken = true → (s.mbx j).inFull = false → exec (.tunnelTimeout j) s = .next (s.endExchange j stTimeout [])) ∧
        ((s.mbx j).taken = false → exec (.tunnelTimeout j) s = .next s)) ∧
      (∀ m ∈ s.mgt.taken, s.seqMsg 1 = some m → m.far = false → Ends .echo s fun t =>
        t.mgt = { s.mgt with taken := s.mgt.taken.erase m, mailboxes := t.mgt.mailboxes } ∧ (∀ j, j ≠ m.mbx → t.mbx j = s.mbx j) ∧
        (m.mbx < s.mgt.mailboxes.length → (t.mbx m.mbx).inFull = true ∧ (t.mbx m.mbx).inStatus = 0 ∧ (t.mbx m.mbx).inLen = m.msg.length ∧ (t.mbx m.mbx).taken = false ∧
          slice (t.mbx m.mbx).inn 0 4 = [0x81] ++ slice m.msg 1 1 ++ [0, 0] ∧ slice (t.mbx m.mbx).inn 4 12 = slice m.msg 4 12) ∧ Only [.mgt] [] s t) ∧
      (s.seqMsg 1 = none → exec .echo s = .next s))

/-- Locks. LOCK_READ of a free lock takes it for the reader and answers 0, and of a held or faulted one answers its owner code.
LOCK_RELEASE by the owner frees a lock that is not faulted, and else answers ACCESS_DENIED. The owner is who has the owner's rank
and GW. The owner code holds FAULT, GW and RANK. MGT_LOCK_STATE shows it and takes no lock. MGT_LOCK_FORCE frees the locks of a
mask and clears their faults, and is for secure requesters. -/
def Obligations.Locks : Prop :=
  ∀ (r : Requester) (s : State), s.aon.up = true → s.mgt.locks.length = 32 →
    (s.heard r = true → ∀ n : Fin 32,
      (s.lockCode n = 0 → exec (.lockRead r n) s = .next { s with mgt := { s.mgt with locks := s.mgt.locks.set n (some r) }, outbox := s.outbox ++ [.reply 0 0] }) ∧
      (s.lockCode n ≠ 0 → exec (.lockRead r n) s = .next { s with outbox := s.outbox ++ [.reply 0 (s.lockCode n)] }) ∧
      (s.mgt.lockFault.testBit n = true → s.lockCode n ≠ 0 ∧ exec (.lockRelease r n) s = .next { s with outbox := s.outbox ++ [.reply stDenied 0] }) ∧
      (s.mgt.locks[n.val]? = some none → exec (.lockRelease r n) s = .next { s with outbox := s.outbox ++ [.reply stDenied 0] }) ∧
      (∀ o, s.mgt.locks[n.val]? = some (some o) → s.mgt.lockFault.testBit n = false →
        (rankOf o = rankOf r ∧ gwOf o = gwOf r → exec (.lockRelease r n) s = .next { s with mgt := { s.mgt with locks := s.mgt.locks.set n none }, outbox := s.outbox ++ [.reply 0 0] }) ∧
        (¬(rankOf o = rankOf r ∧ gwOf o = gwOf r) → exec (.lockRelease r n) s = .next { s with outbox := s.outbox ++ [.reply stDenied 0] }))) ∧
    (∀ n : Fin 32, ∀ o, s.mgt.locks[n.val]? = some o → field (s.lockCode n) 31 31 = ofBool (s.mgt.lockFault.testBit n) ∧ field (s.lockCode n) 30 28 = 0 ∧ field (s.lockCode n) 15 4 = 0 ∧
      (o = none → field (s.lockCode n) 27 16 = 0 ∧ field (s.lockCode n) 3 0 = 0) ∧
      (∀ q, o = some q → gwOf q < 4096 → field (s.lockCode n) 27 16 = gwOf q ∧ field (s.lockCode n) 3 0 = rankOf q)) ∧
    (∀ (sec : Bool) (n : Fin 32), s.pwr.hclkStop = false → s.mgt.dxSel = 0x9020 * 2 ^ 16 + 2 ^ 8 → s.mgt.dxOffset = 4 * n.val → s.mgt.capPort.obj = none → Ends (.dxDataRead sec) s fun t =>
      t.outbox = s.outbox ++ [.reply 0 (s.lockCode n)] ∧ t.mgt.locks = s.mgt.locks ∧ t.mgt.lockFault = s.mgt.lockFault ∧ Only [.mgt, .outbox] [] s t) ∧
    (s.heard r = true → isSecure r = true → ∀ v : Nat, v < 2 ^ 32 → Ends (.mgtLockForce r v) s fun t =>
      (∀ n, n < 32 → t.mgt.locks[n]? = (if v.testBit n then some none else s.mgt.locks[n]?) ∧ t.mgt.lockFault.testBit n = (s.mgt.lockFault.testBit n && !v.testBit n)) ∧
      t.mgt = { s.mgt with locks := t.mgt.locks, lockFault := t.mgt.lockFault } ∧ t.outbox = s.outbox ++ [.reply 0 0] ∧ Only [.mgt, .outbox] [] s t) ∧
    (s.heard r = true → isSecure r = false → ∀ v : Nat, exec (.mgtLockForce r v) s = .next { s with outbox := s.outbox ++ [.reply 3 0] })

/-! ### The ring and its gateway -/

/-- Requests at their target, over one hop of the loop: RING_READ answers with the object's bytes, RING_WRITE stores a value,
RING_LOCK and RING_UNLOCK take and free a lock for the gateway that sent them, and RING_EVENT places a record at an event gateway
with room, and is refused elsewhere. Each reply goes back to where the request came from. Messages on their way and the gateway.
RING_HOP executes a hop of the loop or over the link; a request whose link hop cannot be executed is answered from here.
RING_REPLY gives a reply to the gateway's exchange or ends the delivery of an event record. RING_BROKEN and RING_RESTORED show the
state of the loop. The gateway takes request words, sends the request with a new tag, and times out. Where it rests on choices of
the model: notes/assumptions/46. -/
def Obligations.RingMessages : Prop :=
  (∀ s : State, s.aon.up = true → ∀ (input : RingInput) (sec : Bool) (p tag : Nat) (rest : List Byte), p < s.ringLen → p < 64 → tag < 2 ^ 16 → rest.length = 11 →
      (∀ o : Obj, o ∈ [Obj.pktOwnEp, .pktFa, .lnkState, .tclSampleLog] → s.holderOn o = true →
        Ends (.ringRead input (ringMsg 1 0 1 1 (ofBool sec) (b8 p :: rest) tag o.row.index o.row.sub o.row.layout.bytes 0 [])) s fun t =>
          t.outbox = s.outbox ++ [.ring p (ringMsg 0x81 0 1 1 (ofBool sec) (s.ringPlace :: rest) tag o.row.index o.row.sub o.row.layout.bytes 0 (toBytes o.row.layout.bytes (s.obj o)))] ∧
          t.mgt = { s.mgt with capRing := t.mgt.capRing } ∧ Only [.mgt, .outbox] [] s t) ∧
      (∀ gw v : Nat, v < 2 ^ 20 → Ends (.ringWrite gw input (ringMsg 2 0 1 1 (ofBool sec) (b8 p :: rest) tag 0x4000 2 4 0 (toBytes 4 v))) s fun t =>
          t.obj .pktOwnEp = v ∧ t.outbox = s.outbox ++ [.ring p (ringMsg 0x82 0 1 1 (ofBool sec) (s.ringPlace :: rest) tag 0x4000 2 0 0 [])] ∧
          t.mgt.locks = s.mgt.locks ∧ t.mgt.mailboxes = s.mgt.mailboxes ∧ t.mgt.events = s.mgt.events ∧ Only [.mgt, .outbox] [.pktOwnEp] s t) ∧
      (∀ gw n : Nat, gw < 4096 → n < 32 →
        (s.lockCode n = 0 → exec (.ringLock gw input (ringMsg 3 0 1 1 (ofBool sec) (b8 p :: rest) tag n 0 0 0 [])) s = .next
          { s with mgt := { s.mgt with locks := s.mgt.locks.set n (some (.ring gw sec)) }, outbox := s.outbox ++ [.ring p (ringMsg 0x83 0 1 1 (ofBool sec) (s.ringPlace :: rest) tag n 0 4 0 (zeros 4))] }) ∧
        (s.lockCode n ≠ 0 → exec (.ringLock gw input (ringMsg 3 0 1 1 (ofBool sec) (b8 p :: rest) tag n 0 0 0 [])) s = .next
          { s with outbox := s.outbox ++ [.ring p (ringMsg 0x83 0 1 1 (ofBool sec) (s.ringPlace :: rest) tag n 0 4 0 (toBytes 4 (s.lockCode n)))] }) ∧
        (s.mgt.locks[n]? = some (some (.ring gw sec)) → s.mgt.lockFault.testBit n = false → exec (.ringUnlock gw input (ringMsg 4 0 1 1 (ofBool sec) (b8 p :: rest) tag n 0 0 0 [])) s = .next
          { s with mgt := { s.mgt with locks := s.mgt.locks.set n none }, outbox := s.outbox ++ [.ring p (ringMsg 0x84 0 1 1 (ofBool sec) (s.ringPlace :: rest) tag n 0 0 0 [])] }) ∧
        (s.mgt.locks[n]? = some none → exec (.ringUnlock gw input (ringMsg 4 0 1 1 (ofBool sec) (b8 p :: rest) tag n 0 0 0 [])) s = .next
          { s with outbox := s.outbox ++ [.ring p (ringMsg 0x84 3 1 1 (ofBool sec) (s.ringPlace :: rest) tag n 0 0 0 [])] })) ∧
      (∀ d : List Byte, d.length = 32 →
        (s.evtGateway = true → s.evtHeld ≠ s.obj .mgtEvtSize → s.mgt.events.length < 64 → exec (.ringEvent input (ringMsg 5 0 1 1 (ofBool sec) (b8 p :: rest) tag 0 0 32 0 d)) s = .next
          { s with mgt := { s.mgt with events := s.mgt.events ++ [EventRec.ofBytes d] }, outbox := s.outbox ++ [.ring p (ringMsg 0x85 0 1 1 (ofBool sec) (s.ringPlace :: rest) tag 0 0 0 0 [])] }) ∧
        (s.evtGateway = false → exec (.ringEvent input (ringMsg 5 0 1 1 (ofBool sec) (b8 p :: rest) tag 0 0 32 0 d)) s = .next
          { s with outbox := s.outbox ++ [.ring p (ringMsg 0x85 stRefused 1 1 (ofBool sec) (s.ringPlace :: rest) tag 0 0 0 0 [])] }))) ∧
  (∀ s : State, s.aon.up = true →
      (∀ (input : RingInput) (p tag kind : Nat) (rest : List Byte), p < s.ringLen → p < 64 → tag < 2 ^ 16 → 1 ≤ kind → kind ≤ 4 → rest.length = 10 →
        exec (.ringHop input (ringMsg kind 0 1 0 0 (b8 p :: 7 :: rest) tag 0x4000 2 4 0 (zeros 4))) s = .next
          { s with outbox := s.outbox ++ [.ring p (ringMsg kind 0 1 1 0 (s.ringPlace :: 7 :: rest) tag 0x4000 2 4 0 (zeros 4))] } ∧
        (s.sbUp = true → exec (.ringHop input (ringMsg kind 0 2 1 0 (b8 p :: 0x80 :: rest) tag 0x4000 2 4 0 (zeros 4))) s = .next
          { s with outbox := s.outbox ++ [.sideband 0x10 (ringMsg kind 0 2 2 0 (b8 p :: 0x80 :: rest) tag 0x4000 2 4 0 (zeros 4))] }) ∧
        (s.sbUp = false → exec (.ringHop input (ringMsg kind 0 2 1 0 (b8 p :: 0x80 :: rest) tag 0x4000 2 4 0 (zeros 4))) s = .next
          { s with outbox := s.outbox ++ [.ring p (ringMsg (0x80 + kind) stLinkDown 1 1 0 (s.ringPlace :: 0x80 :: rest) tag 0x4000 2 0 0 [])] }) ∧
        (∀ st : Nat, st < 256 → ∀ d : List Byte, d.length = 4 → s.mgt.gwBusy = true → tag = s.mgt.gwTag → exec (.ringReply input (ringMsg (0x80 + kind) st 2 2 0 (b8 p :: 0x80 :: rest) tag 0x4000 2 4 0 d)) s = .next
          { s with mgt := { s.mgt with gwBusy := false, gwReady := true, gwStatus := st, gwReply := ringMsg (0x80 + kind) st 2 2 0 (b8 p :: 0x80 :: rest) tag 0x4000 2 4 0 d ++ zeros 28 } }) ∧
        (s.mgt.evtTries ≠ 0 → tag = s.mgt.ringTagEvt → ∀ e ∈ s.mgt.events, s.mgt.events = [e] → Ends (.ringReply input (ringMsg 0x85 0 2 2 0 (b8 p :: 0x80 :: rest) tag 0 0 0 0 [])) s fun t =>
          t.mgt = { s.mgt with events := [], evtTries := 0, evtProbe := false } ∧ Only [.mgt] [.mgtEvtMode] s t) ∧
        (s.mgt.gwBusy = false → s.mgt.evtTries = 0 → exec (.ringReply input (ringMsg 0x85 0 2 2 0 (b8 p :: 0x80 :: rest) tag 0 0 0 0 [])) s = .next s)) ∧
      (s.fld .mgtRingState 17 17 = 0 → Ends .ringBroken s fun t =>
        t.fld .mgtRingState 17 17 = 1 ∧ t.fld .mgtRingState 16 0 = s.fld .mgtRingState 16 0 ∧ (s.eventRoom = true → LastEvent t 0x02 1 (s.fld .mgtRingState 5 0)) ∧
        Only [.mgt, .outbox] [.mgtRingState, .mgtEvtMode, .mgtEvtDropped] s t) ∧
      (s.fld .mgtRingState 17 17 = 1 → exec .ringBroken s = .next s) ∧
      Ends .ringRestored s (fun t => t.fld .mgtRingState 17 17 = 0 ∧ t.fld .mgtRingState 16 0 = s.fld .mgtRingState 16 0 ∧ Only [] [.mgtRingState] s t) ∧
      (∀ sec : Bool, s.pwr.hclkStop = false →
        (s.hSide = true → s.mgt.gwBusy = false → s.mgt.gwReq.length = 56 →
          (∀ offset value : Nat, offset < 56 → exec (.gatewayRequestWrite sec offset value) s = .next
            { s with mgt := { s.mgt with gwReq := splice s.mgt.gwReq (offset / 4 * 4) (toBytes 4 value) }, outbox := s.outbox ++ [.reply 0 0] }) ∧
          (∀ value : Nat, value.testBit 0 = true → rNhops s.mgt.gwReq = 1 → rNext s.mgt.gwReq = 0 → rHop s.mgt.gwReq 0 < s.ringLen → rHop s.mgt.gwReq 0 < 64 → 1 ≤ rKind s.mgt.gwReq → rKind s.mgt.gwReq ≤ 4 →
            rLen s.mgt.gwReq ≤ 32 → valAt s.mgt.gwReq 3 1 ≤ 1 → Ends (.gatewaySend sec value) s fun t =>
              t.mgt = { s.mgt with gwBusy := true, gwReady := false, gwTag := (s.mgt.gwTag + 1) % 65536 } ∧
              (∃ o ∈ t.outbox, o = .ring (rHop s.mgt.gwReq 0) (ringMsg (rKind s.mgt.gwReq) (valAt s.mgt.gwReq 1 1) 1 1 (ofBool sec) (s.ringPlace :: slice s.mgt.gwReq 5 11) ((s.mgt.gwTag + 1) % 65536)
                (rIndex s.mgt.gwReq) (rSub s.mgt.gwReq) (rLen s.mgt.gwReq) (rOffset s.mgt.gwReq) (slice s.mgt.gwReq 24 (if rKind s.mgt.gwReq = 1 then 0 else rLen s.mgt.gwReq)))) ∧
              t.outbox.length = s.outbox.length + 2 ∧ Only [.mgt, .outbox] [] s t) ∧
          (∀ value : Nat, value.testBit 0 = false → exec (.gatewaySend sec value) s = .next { s with outbox := s.outbox ++ [.reply 0 0] })) ∧
        (s.hSide = true → s.mgt.gwBusy = true → ∀ value : Nat, exec (.gatewaySend sec value) s = .next { s with outbox := s.outbox ++ [.reply stRefused 0] })) ∧
      (s.mgt.gwBusy = true → exec .gatewayTimeout s = .next { s with mgt := { s.mgt with gwBusy := false, gwReady := false, gwStatus := stTimeout } }) ∧
      (s.mgt.gwBusy = false → exec .gatewayTimeout s = .next s))

/-- CONTINUITY_FRAME applies the frame that the stand-in held and holds the new one; a frame in error is counted and sends a stand-in
to RESYNC and a copying one to FAILED. RESYNC_DONE after the last chunk makes the stand-in STANDBY. YIELD with a stand-in makes it
the lead, records the yield and turns the engine off; without one the instance is fenced and the link goes down. TAKEOVER_RESUME
ends the gap and powers the engine that yielded. Where it rests on choices of the model: notes/assumptions/32. -/
def Obligations.EnginesTakeOver : Prop :=
  ∀ s : State, s.aon.up = true → s.lead ≤ 1 →
    (∀ frame : List Byte, frame.length = 64 → s.engineLeads = true → s.obj .redFrameErrs + 1 < 2 ^ 32 → s.eng.held = none →
      (s.frameBad (ofBytes frame) = false → (s.engState s.other = 2 ∨ s.engState s.other = 3) → exec (.continuityFrame frame) s = .next
        { s with eng := { s.eng with held := some frame, fseq := some (field (ofBytes frame) 495 480) } }) ∧
      (s.frameBad (ofBytes frame) = true → s.engState s.other = 2 → Ends (.continuityFrame frame) s fun t =>
        t.engState s.other = 3 ∧ t.engState s.lead = s.engState s.lead ∧ t.eng = { s.eng with chunk := 0, fseq := none, segTest := none, passRun := false } ∧
        t.obj .redFrameErrs = s.obj .redFrameErrs + 1 ∧ Only [.eng] [.redEngState, .redFrameErrs] s t) ∧
      (s.frameBad (ofBytes frame) = true → s.engState s.other = 3 → Ends (.continuityFrame frame) s fun t =>
        t.engState s.other = 5 ∧ t.obj .redFrameErrs = s.obj .redFrameErrs + 1 ∧ Only [] [.redEngState, .redFrameErrs] s t)) ∧
    (∀ f, s.eng.held = some f → ∀ frame : List Byte, frame.length = 64 → s.engineLeads = true → s.engState s.other = 2 → s.frameBad (ofBytes frame) = false → frameCopy (ofBytes f) = false → frameNrec (ofBytes f) = 1 →
      (frameRecord (ofBytes f) 0).1 < 245760 → exec (.continuityFrame frame) s = .next { s with eng := { s.eng with
        held := some frame, fseq := some (field (ofBytes frame) 495 480), store := putWord (frameRecord (ofBytes f) 0).1 ((frameRecord (ofBytes f) 0).2 % 2 ^ 32) s.eng.store } }) ∧
    (s.engState s.other = 3 → s.eng.held = none → s.obj .redResyncs + 1 < 2 ^ 32 → s.eng.chunk = 30720 → Ends .resyncDone s fun t =>
      t.engState s.other = 2 ∧ t.engState s.lead = s.engState s.lead ∧ t.fld .redEngState 9 9 = 0 ∧ t.obj .redResyncs = s.obj .redResyncs + 1 ∧ Only [] [.redEngState, .redResyncs] s t) ∧
    (s.eng.held = none → s.eng.chunk < 30720 → exec .resyncDone s = .next s) ∧
    (∀ code : Fin 5, code ≠ 0 → s.engState s.lead = 1 →
      (s.engState s.other = 2 → s.eng.yields = [] → 1 < s.obj .redYieldLimit → s.obj .redTakeovers + 1 < 2 ^ 32 → Ends (.yieldEngine code) s fun t =>
        t.lead = s.other ∧ t.engState s.other = 1 ∧ t.engState s.lead = 0 ∧ t.pwr.powered = setBit s.pwr.powered s.lead false ∧ t.eng.takeover = true ∧ t.eng.store = s.eng.store ∧
        t.obj .redTakeovers = s.obj .redTakeovers + 1 ∧ t.fld .redLastYield 7 0 = code.val ∧ t.fld .redLastYield 8 8 = s.lead ∧ (s.eventRoom = true → LastEvent t 0x80 1 code.val) ∧
        Only [.eng, .pwr, .mgt, .outbox] [.redEngState, .redHealth, .redTakeovers, .redLastYield, .mgtEvtMode, .mgtEvtDropped] s t) ∧
      (s.engState s.other ≠ 2 → s.fenced = false → Ends (.yieldEngine code) s fun t =>
        t.fenced = true ∧ t.obj .redFenceCause = 2 ∧ t.linkUp = false ∧ t.engState s.lead ≠ 1 ∧ t.lead = s.lead ∧ t.eng.takeover = false ∧ t.poweredDom s.lead = false ∧
        t.obj .redTakeovers = s.obj .redTakeovers ∧ t.arr.descs = [] ∧ t.tx.queue = [])) ∧
    (s.eng.takeover = true → s.rx.log = [] → s.engState s.other = 0 → (s.obj .pwrDomainCtrl).testBit s.other = true →
      exec .takeoverResume s = .next { s with eng := { s.eng with takeover := false }, pwr := { s.pwr with powered := setBit s.pwr.powered s.other true, ready := setBit s.pwr.ready s.other false } }) ∧
    (s.eng.takeover = false → exec .takeoverResume s = .next s)

/-- STANDIN_SEGMENT_TEST starts the next segment where the stand-in is free and the power budget has room. SEGMENT_DONE moves on to
the next segment and records a full pass; a segment that fails turns the engine off for good with an event. ENGINE_RETEST_DONE
makes an engine that has passed the lead where none leads, and else starts its copy; one that has failed stays off. Where it rests
on choices of the model: notes/assumptions/32. -/
def Obligations.EngineTests : Prop :=
  ∀ s : State, s.aon.up = true → s.lead ≤ 1 →
    (s.seqRuns = true → s.engState s.other = 2 → s.eng.segTest = none → s.eng.retest = none →
      (s.powerFits 640 = true → Ends .standinSegmentTest s fun t =>
        t.eng = { s.eng with segTest := some s.eng.nextSeg } ∧ (s.eng.nextSeg = 0 → t.health s.other 31 24 = 0) ∧ (s.eng.nextSeg ≠ 0 → t.entry .redHealth s.other = s.entry .redHealth s.other) ∧
        t.entry .redHealth s.lead = s.entry .redHealth s.lead ∧ Only [.eng] [.redHealth] s t) ∧
      (s.powerFits 640 = false → exec .standinSegmentTest s = .next s)) ∧
    (∀ g, s.eng.segTest = some g → g < 64 → s.scr.halted = false →
      (Ends (.segmentDone false) s fun t =>
        t.engState s.other = 5 ∧ t.eng = { s.eng with segTest := none, passRun := false, nextSeg := 0 } ∧ t.health s.other 15 8 = 1 ∧ t.health s.other 23 16 = g ∧
        t.pwr.powered = setBit s.pwr.powered s.other false ∧ (s.eventRoom = true → LastEvent t 0x81 2 s.other) ∧ Only [.eng, .pwr, .mgt, .outbox] [.redEngState, .redHealth, .mgtEvtMode, .mgtEvtDropped] s t) ∧
      (s.eng.passRun = false → Ends (.segmentDone true) s fun t =>
        t.eng = { s.eng with segTest := none, nextSeg := (g + 1) % 64 } ∧ t.health s.other 31 24 = (s.health s.other 31 24 + 1) % 256 ∧
        (g = 63 → t.health s.other 15 8 = 0 ∧ t.health s.other 23 16 = 0xFF ∧ t.health s.other 127 64 = s.aon.rclk % 2 ^ 64) ∧ (g ≠ 63 → t.health s.other 15 8 = s.health s.other 15 8) ∧
        Only [.eng] [.redHealth] s t)) ∧
    (s.eng.segTest = none → exec (.segmentDone true) s = .next s ∧ exec (.segmentDone false) s = .next s) ∧
    (∀ e, s.eng.retest = some e → e ≤ 1 → s.engState e = 4 → s.scr.halted = false → s.readyDom (1 - e) = true → s.engState (1 - e) ≠ 0 →
      (s.engineLeads = true → Ends (.engineRetestDone true) s fun t =>
        t.engState e = 3 ∧ t.engState (1 - e) = s.engState (1 - e) ∧ t.eng = { s.eng with retest := none, chunk := 0, held := none, fseq := none, segTest := none, passRun := false } ∧
        t.health e 15 8 = 0 ∧ t.health e 127 64 = s.aon.rclk % 2 ^ 64 ∧ Only [.eng] [.redEngState, .redHealth] s t) ∧
      (s.engineLeads = false → Ends (.engineRetestDone true) s fun t => t.engState e = 1 ∧ t.lead = e ∧ t.eng = { s.eng with retest := none } ∧ Only [.eng] [.redEngState, .redHealth] s t) ∧
      (Ends (.engineRetestDone false) s fun t =>
        t.engState e = 5 ∧ t.health e 15 8 = 1 ∧ t.pwr.powered = setBit s.pwr.powered e false ∧ t.eng = { s.eng with retest := none } ∧ (s.eventRoom = true → LastEvent t 0x81 2 e) ∧
        Only [.eng, .pwr, .mgt, .outbox] [.redEngState, .redHealth, .mgtEvtMode, .mgtEvtDropped] s t)) ∧
    (s.eng.retest = none → exec (.engineRetestDone true) s = .next s ∧ exec (.engineRetestDone false) s = .next s)

/-- SHARED_ECC_ERROR counts a corrected word, and the second one of a row calls for a spare row; an uncorrectable word of the transmit
queue poisons or removes its packet. A secure FENCE fences the instance with cause 1; a secure UNFENCE ends the fence, but not one
for want of engines while none leads. COMPLEMENT_CHECK records the fault and raises an event, and the value's own action follows.
Where it rests on choices of the model: notes/assumptions/33. -/
def Obligations.SharedStorageFenceAndChecks : Prop :=
  ∀ s : State, s.aon.up = true →
    (s.linkCore = true → ∀ e : EccError, s.obj .redSharedCorr + 1 < 2 ^ 32 → s.obj .redSharedUncorr + 1 < 2 ^ 32 →
      (e.corrected = true → e.array ≠ 0 → (∀ x ∈ s.eng.rowErrs, x ≠ (e.array.val, e.row)) → Ends (.sharedEccError e) s fun t =>
        t.obj .redSharedCorr = s.obj .redSharedCorr + 1 ∧ t.eng = { s.eng with rowErrs := s.eng.rowErrs ++ [(e.array.val, e.row)] } ∧ Only [.eng] [.redSharedCorr] s t) ∧
      (e.corrected = true → e.array ≠ 0 → s.eng.rowErrs = [(e.array.val, e.row)] → s.eng.spared = [] → s.entry .redSpareRows e.array + 1 < 2 ^ 32 → Ends (.sharedEccError e) s fun t =>
        t.obj .redSharedCorr = s.obj .redSharedCorr + 1 ∧ t.eng = { s.eng with rowErrs := [], spared := [(e.array.val, e.row)] } ∧
        (∀ i, i < 5 → t.entry .redSpareRows i = s.entry .redSpareRows i + (if i = e.array.val then 1 else 0)) ∧ (s.eventRoom = true → LastEvent t 0x82 1 e.array) ∧
        Only [.eng, .mgt, .outbox] [.redSharedCorr, .redSpareRows, .mgtEvtMode, .mgtEvtDropped] s t) ∧
      (e.corrected = false → e.array = 2 → ∀ q ∈ s.tx.queue, s.tx.queue = [q] → q.pkt.hdr.tc = e.vc.val → e.pos = 0 → Ends (.sharedEccError e) s fun t =>
        t.tx = { s.tx with queue := if e.header then [] else [{ q with pkt := q.pkt.poisoned }] } ∧ t.obj .redSharedUncorr = s.obj .redSharedUncorr + 1 ∧ Only [.tx] [.redSharedUncorr] s t) ∧
      (e.corrected = false → e.array = 0 → s.linkUp = true → Ends (.sharedEccError e) s fun t => t.linkUp = false ∧ t.obj .lnkDownCause = downRetake)) ∧
    (∀ r : Requester, s.heard r = true →
      (isSecure r = true →
        (s.fenced = false → s.heldRequests = [] → s.arr.descs = [] → Ends (.fence r) s fun t =>
          t.fenced = true ∧ t.obj .redFenceCause = 1 ∧ t.tx.queue = [] ∧ t.rl.egress = [] ∧ t.sp.egress = [] ∧ t.pk.own = [] ∧ t.pk.ownWait = [] ∧ t.outbox.getLast? = some (.reply 0 0)) ∧
        (s.fenced = true → exec (.fence r) s = .next { s with outbox := s.outbox ++ [.reply 0 0] }) ∧
        (s.obj .redFenceCause ≠ 2 ∨ s.engineLeads = true → Ends (.unfence r) s fun t =>
          t.fenced = false ∧ t.obj .redFenceCause = 0 ∧ t.outbox = s.outbox ++ [.reply 0 0] ∧ Only [.outbox] [.redFence, .redFenceCause] s t) ∧
        (s.obj .redFenceCause = 2 → s.engineLeads = false → exec (.unfence r) s = .next { s with outbox := s.outbox ++ [.reply 3 0] })) ∧
      (isSecure r = false → exec (.fence r) s = .next { s with outbox := s.outbox ++ [.reply 3 0] } ∧ exec (.unfence r) s = .next { s with outbox := s.outbox ++ [.reply 3 0] })) ∧
    (∀ n : Fin 32, s.obj .mgtFaultCount + 1 < 2 ^ 32 → Ends (.complementCheck (.lock n)) s fun t =>
      t.mgt.lockFault = setBit s.mgt.lockFault n true ∧ t.mgt.locks = s.mgt.locks ∧ t.obj .mgtFaultCount = s.obj .mgtFaultCount + 1 ∧ (s.eventRoom = true → LastEvent t 0x03 2 0) ∧
      Only [.mgt, .outbox] [.mgtFaultCount, .mgtFaultRecord, .mgtEvtMode, .mgtEvtDropped] s t) ∧
    (s.obj .mgtFaultCount + 1 < 2 ^ 32 → s.obj .stkDigestGenNow + 1 < 2 ^ 32 → (∀ p : Fin 256,
      (Ends (.complementCheck (.partBounds p)) s fun t => t.partFenced p = true ∧ t.stk.parts = s.stk.parts ∧ t.stk.slots = s.stk.slots ∧
        Only [.stk, .mgt, .outbox] [.stkDigestGenNow, .stkDigestState, .mgtFaultCount, .mgtFaultRecord, .mgtEvtMode, .mgtEvtDropped] s t) ∧
      (Ends (.complementCheck (.keySlot p)) s fun t => (t.slot p).fenced = true ∧ (t.slot p).key0 = none ∧ (t.slot p).key1 = none ∧ (t.slot p).writeKey = (s.slot p).writeKey ∧
        (∀ q, q < 256 → q ≠ p.val → t.slot q = s.slot q) ∧ Only [.stk, .mgt, .outbox] [.stkDigestGenNow, .stkDigestState, .mgtFaultCount, .mgtFaultRecord, .mgtEvtMode, .mgtEvtDropped] s t)) ∧
      (Ends (.complementCheck .routeActive) s fun t => t.pk = { s.pk with routeFenced := true } ∧ Only [.pk, .mgt, .outbox] [.mgtFaultCount, .mgtFaultRecord, .mgtEvtMode, .mgtEvtDropped] s t) ∧
      (Ends (.complementCheck .sceneActive) s fun t => t.mgt.cfgFenced = true ∧ Only [.mgt, .outbox] [.mgtFaultCount, .mgtFaultRecord, .mgtEvtMode, .mgtEvtDropped] s t) ∧
      (s.linkUp = true → (Ends (.complementCheck .txMap) s fun t => t.linkUp = false ∧ t.obj .lnkDownCause = downMap) ∧ (Ends (.complementCheck .rxMap) s fun t => t.linkUp = false ∧ t.obj .lnkDownCause = downMap)))

/-! ### Calibration and ageing -/

/-- TEMP_SAMPLE takes the eight temperatures, and trims that carry nothing take their targets. TRIM_STEP moves every carrying trim one
code towards its target. RECAL_START measures the next lane in order; RECAL_DONE turns a result within its window and delta limit
into an offset, and counts and reports one outside its window. DESKEW_CHECK moves the read points of the active lanes by the first
attempt that passes, and counts three that fail. SEQ_WATCHDOG drops the sequencer's work and locks and restarts it. Where it rests
on choices of the model: notes/assumptions/3, 34. -/
def Obligations.CalibrationSteps : Prop :=
  ∀ s : State, s.aon.up = true → s.seqRuns = true →
    (∀ temps : List Int, temps.length = 8 → (∀ x ∈ temps, -32768 ≤ x ∧ x < 32768) → Ends (.tempSample temps) s fun t =>
      t.cal = { s.cal with temps := temps } ∧ (∀ g, g < 8 → ∀ x, temps[g]? = some x → t.entry .calTemp g = ofSigned 16 x) ∧
      (∀ p, p < 72 → s.cal.recal ≠ some p → ∀ k, k < 13 → t.applied p k = if s.carries p k then s.applied p k else t.trimTarget p k t.rateNow) ∧
      (∀ p, p < 72 → s.cal.recal = some p → t.entry .calTrimNow p = s.entry .calTrimNow p) ∧ Only [.cal] [.calTemp, .calTrimNow] s t) ∧
    (Ends .trimStep s fun t =>
      (∀ p, p < 72 → s.cal.recal ≠ some p → (∀ k, k < 13 → t.applied p k = if s.carries p k then oneStep (s.applied p k) (s.trimTarget p k s.rateNow) else s.trimTarget p k s.rateNow) ∧
        field (t.entry .calTrimNow p) 127 104 = field (s.entry .calTrimNow p) 127 104) ∧
      (∀ p, p < 72 → s.cal.recal = some p → t.entry .calTrimNow p = s.entry .calTrimNow p) ∧ Only [] [.calTrimNow] s t) ∧
    (∀ lane : Fin 72, s.linkSteady = true → s.obj .calEn = 1 → s.cal.recal = none → s.nextGood s.cal.nextRecal = some lane.val → s.cal.scan ≠ some lane.val → s.inPending lane = false → s.laneTested lane = false →
      exec (.recalStart lane) s = .next { s with cal := { s.cal with recal := some lane.val, nextRecal := (lane.val + 1) % 72 } }) ∧
    (∀ lane : Fin 72, s.cal.recal ≠ none → exec (.recalStart lane) s = .next s) ∧
    (∀ p, s.cal.recal = some p → p < 72 → ∀ codes : List Int,
      (∀ k ∈ rxTrims, k ≠ 0 → windowLow k ≤ codes.getD k 0 ∧ codes.getD k 0 ≤ windowHigh k ∧ codes.getD k 0 - s.trimTarget p k s.rateNow ≤ deltaLimit k ∧ s.trimTarget p k s.rateNow - codes.getD k 0 ≤ deltaLimit k) →
      (windowLow 0 ≤ codes.getD 0 0 → codes.getD 0 0 ≤ windowHigh 0 → codes.getD 0 0 - s.trimTarget p 0 s.rateNow ≤ deltaLimit 0 → s.trimTarget p 0 s.rateNow - codes.getD 0 0 ≤ deltaLimit 0 →
        Ends (.recalDone codes) s fun t => t.cal = { s.cal with recal := none } ∧ (∀ k ∈ rxTrims, trimByte (t.entry .calTrimOffset p) k = codes.getD k 0 - s.zeroTarget p k s.rateNow) ∧
          (∀ q, q < 72 → q ≠ p → t.entry .calTrimOffset q = s.entry .calTrimOffset q ∧ t.entry .calTrimNow q = s.entry .calTrimNow q) ∧ (t.entry .calTrimNow p).testBit 123 = false ∧
          Only [.cal] [.calTrimOffset, .calTrimNow] s t) ∧
      (codes.getD 0 0 < windowLow 0 → -128 ≤ codes.getD 0 0 → s.obj .calRejects + 1 < 2 ^ 32 → Ends (.recalDone codes) s fun t =>
          t.cal = { s.cal with recal := none } ∧ t.obj .calRejects = s.obj .calRejects + 1 ∧ t.obj .calLastReject = p + ofSigned 8 (codes.getD 0 0) * 2 ^ 16 ∧
          trimByte (t.entry .calTrimOffset p) 0 = trimByte (s.entry .calTrimOffset p) 0 ∧ (t.entry .calTrimNow p).testBit 123 = true ∧ (s.eventRoom = true → LastEvent t 0x84 1 0) ∧
          Only [.cal, .mgt, .outbox] [.calTrimOffset, .calTrimNow, .calRejects, .calLastReject, .mgtEvtMode, .mgtEvtDropped] s t)) ∧
    (s.cal.recal = none → exec (.recalDone []) s = .next s) ∧
    (s.linkActive = true → ∀ l : List (List Nat × List Nat),
      (∀ a, (l.take 3).find? s.deskewPass = some a → Ends (.deskewCheck l) s fun t =>
        (∀ p, p < 72 → t.entry .calDeskew p = if s.rxActive p then min 63 (a.2.getD p 0) else s.entry .calDeskew p) ∧ Only [] [.calDeskew] s t) ∧
      ((l.take 3).find? s.deskewPass = none → 3 ≤ l.length → s.obj .calLinkRejects + 1 < 2 ^ 32 → Ends (.deskewCheck l) s fun t =>
        t.obj .calLinkRejects = s.obj .calLinkRejects + 1 ∧ (s.eventRoom = true → LastEvent t 0x84 1 1) ∧ Only [.mgt, .outbox] [.calLinkRejects, .mgtEvtMode, .mgtEvtDropped] s t)) ∧
    (∀ imageOk : Bool, s.cal.planDue = false → s.obj .calSeqRestarts + 1 < 2 ^ 32 → s.obj .mgtFaultCount + 1 < 2 ^ 32 → Ends (.seqWatchdog imageOk) s fun t =>
      t.cal = { s.cal with recal := none, scan := none, monitor := none, retireDue := [], retireWait := none, stepRate := none, stepPhase := 0, seqDown := !imageOk } ∧
      t.obj .calSeqRestarts = s.obj .calSeqRestarts + 1 ∧ t.fld .calSeqState 3 3 = ofBool (!imageOk) ∧ t.obj .mgtFaultCount = s.obj .mgtFaultCount + 1 ∧ (s.eventRoom = true → LastEvent t 0x84 1 2) ∧
      (∀ x ∈ t.mgt.locks, ∀ r, x = some r → rankOf r ≠ 1) ∧ (∀ n r, n < 32 → s.mgt.locks[n]? = some (some r) → rankOf r ≠ 1 → t.mgt.locks[n]? = some (some r)) ∧
      Only [.cal, .mgt, .outbox] [.calSeqRestarts, .calSeqState, .ageStepState, .ageMonitorState, .mgtFaultRecord, .mgtFaultCount, .mgtEvtMode, .mgtEvtDropped] s t)

/-- AGEING_MONITOR compares every monitor in power with its time-zero count. EYE_SCAN_START scans the next lane in order with a spare
lane as monitor, and pauses without one; EYE_SCAN_DONE keeps the result and the smallest of the interval. MARGIN_PLAN closes the
interval's samples and forecasts every lane, or waits for the sequencer. LANE_RETIRE retires the head of the plan under lock 0.
STEP_GRACE_END has the flows checked again. SEQ_LOCK_RETRY does nothing while the sequencer waits for no lock, or still finds lock
0 held; on a free lock it goes on with the rate step or the retirement that waited. Where it rests on choices of the model:
notes/assumptions/35. -/
def Obligations.AgeingSteps : Prop :=
  (∀ s : State, s.aon.up = true →
      (s.obj .ageEn = 1 → s.seqRuns = false → exec .marginPlan s = .next { s with cal := { s.cal with planDue := true } }) ∧
      (s.seqRuns = true →
        (∀ counts : List Nat, s.obj .ageRoLimit = 65535 → Ends (.ageingMonitor counts) s fun t =>
          (∀ m, m < 32 → t.entry .ageRo m = if s.readyDom (monitorDomain m) then
            (if Config.monitorCount m s.cal.temps = 0 then 0 else min 65535 ((Config.monitorCount m s.cal.temps - counts.getD m 0) * 10000 / Config.monitorCount m s.cal.temps)) else s.entry .ageRo m) ∧
          Only [] [.ageRo] s t) ∧
        (∀ lane : Fin 72, s.obj .ageEn = 1 → s.cal.scan = none → s.nextGood s.cal.nextScan = some lane.val → s.cal.recal ≠ some lane.val → s.laneTested lane = false →
          (∀ m, s.monitorFor lane = some m → m < 72 → Ends (.eyeScanStart lane) s fun t => t.cal = { s.cal with scan := some lane.val, monitor := some m, paused := false, nextScan := (lane.val + 1) % 72 } ∧
            t.obj .ageMonitorState = lane.val + m * 2 ^ 8 ∧ Only [.cal] [.ageMonitorState] s t) ∧
          (s.monitorFor lane = none → Ends (.eyeScanStart lane) s fun t => t.cal = { s.cal with paused := true, stale := setBit s.cal.stale lane true, nextScan := (lane.val + 1) % 72 } ∧
            (t.obj .ageMonitorState).testBit 15 = true ∧ Only [.cal] [.ageMonitorState] s t)) ∧
        (∀ p, s.cal.scan = some p → p < 72 → ∀ h w : Nat, Ends (.eyeScanDone h w) s fun t =>
          t.entry .ageEye p = min 255 h + 256 * min 255 w ∧ t.cal = { s.cal with scan := none, monitor := none, stale := setBit s.cal.stale p false, scanned := setBit s.cal.scanned p true,
                                                                                 minH := s.cal.minH.set p (min (min 255 h) (s.cal.minH.getD p 255)), minW := s.cal.minW.set p (min (min 255 w) (s.cal.minW.getD p 255)) } ∧
          (∀ q, q < 72 → q ≠ p → t.entry .ageEye q = s.entry .ageEye q) ∧ Only [.cal] [.ageEye, .ageMonitorState] s t) ∧
        (s.cal.scan = none → exec (.eyeScanDone 0 0) s = .next s) ∧
        (s.obj .ageEn = 1 → s.linkActive = false → (∀ x ∈ s.cal.minH, x < 256) → (∀ x ∈ s.cal.minW, x < 256) → Ends .marginPlan s fun t =>
          (∀ p, p < 72 → t.entry .ageHistory (32 * p + 31) = s.cal.minH.getD p 255 + 256 * s.cal.minW.getD p 255 ∧ (∀ i, i < 31 → t.entry .ageHistory (32 * p + i) = s.entry .ageHistory (32 * p + i + 1)) ∧
            (s.rxFailed p = false → (t.samples p).length < s.obj .ageMinSamples → t.entry .ageForecast p = 0)) ∧
          t.cal = { s.cal with minH := List.replicate 72 255, minW := List.replicate 72 255, planDue := false, retireDue := [] } ∧ Only [.cal] [.ageHistory, .ageForecast, .ageStepState] s t) ∧
        (∀ lane : Fin 72, ∀ rest, s.cal.retireDue = lane.val :: rest → s.spliceOpen = false → s.linkSteady = true → s.rxFailed lane = false → s.canRetire = true → s.seqMayLock = true → s.obj .ageRetired + 1 < 2 ^ 32 →
          Ends (.laneRetire lane) s fun t => t.rxFailed lane = true ∧ t.obj .ageRetired = s.obj .ageRetired + 1 ∧ (t.entry .ageForecast lane).testBit 18 = true ∧ (t.cal.retireDue = rest ∨ t.cal.retireDue = [])) ∧
        (∀ lane : Fin 72, s.cal.retireDue = [] → exec (.laneRetire lane) s = .next s) ∧
        (s.cal.stepPhase = 2 → s.seqMayLock = true → ∀ rate, s.cal.stepRate = some rate → Ends .stepGraceEnd s fun t =>
          t.cal = { s.cal with stepPhase := 4 } ∧ t.cls = { s.cls with recheck := some rate } ∧ t.fld .ageStepState 1 1 = 0 ∧ Only [.cal, .cls, .mgt] [.ageStepState, .tclRecheckResult] s t) ∧
        (s.cal.stepPhase ≠ 2 → exec .stepGraceEnd s = .next s))) ∧
  (∀ s : State, s.aon.up = true →
      (s.mgt.seqLockWait = none → exec .seqLockRetry s = .next s) ∧
      (s.mgt.seqLockWait = some 1 → s.seqRuns = true → ∀ rate, s.cal.stepRate = some rate → (s.seqMayLock = false → exec .seqLockRetry s = .next s) ∧
        (s.seqMayLock = true → s.cal.stepPhase = 0 → Ends .seqLockRetry s fun t => t.cal = { s.cal with stepPhase := 1 } ∧ t.mgt = { s.mgt with seqLockWait := none } ∧
          t.cls = { s.cls with recheck := some rate } ∧ Only [.cal, .mgt, .cls] [.tclRecheckRate, .tclRecheckResult] s t)) ∧
      (∀ p : Fin 72, s.mgt.seqLockWait = some 0 → s.cal.retireDue.head? = some p.val → exec .seqLockRetry s = exec (.laneRetire p) s))

/-! ### Screen test -/

/-- Tests on request. SCR_RUN_CLUSTER, SCR_RUN_LANE_GROUP, SCR_RUN_FAR_TEST, SCR_RUN_SCRATCH and SCR_RUN_SHARED_STORAGE isolate a unit
that can be isolated and test it, or let it wait for its power; a unit that cannot, or whose kind already runs, answers
ACCESS_DENIED. SCR_RUN_FAR_RESPOND sets the instance to respond, SCR_RUN_STANDIN starts a full pass of the stand-in's segments,
and SCR_RUN_ANALOG runs the analogue checks. Where it rests on choices of the model: notes/assumptions/36. -/
def Obligations.TestsOnRequest : Prop :=
  ∀ (r : Requester) (s : State), s.aon.up = true → s.heard r = true →
    (∀ k : Fin 8, s.canIsolate (.cluster k) = true → s.kindBusy (.cluster k) = false → s.scr.running = [] →
      (∀ x, (paces (.cluster k)).find? (fun x => x.2 ≤ s.capLeft) = some x →
        (s.powerFits x.2 = true → (∀ w ∈ s.arr.work, w.1 / 17 ≠ k.val) → Ends (.scrRunCluster r k) s fun t =>
          t.scr = { s.scr with running := [⟨.cluster k, x.2, x.1, true⟩] } ∧ (∀ c, c < 136 → t.entry .arrCellState c = if c / 17 = k.val then 3 else s.entry .arrCellState c) ∧
          t.arr = { s.arr with gated := setBit s.arr.gated k false } ∧ t.outbox = s.outbox ++ [.reply 0 0] ∧ Only [.scr, .arr, .outbox] [.arrCellState, .scrState] s t) ∧
        (s.powerFits x.2 = false → Ends (.scrRunCluster r k) s fun t => t.scr = { s.scr with waiting := s.scr.waiting ++ [.cluster k] } ∧ t.outbox = s.outbox ++ [.reply 0 0] ∧ Only [.scr, .outbox] [] s t))) ∧
    (∀ k : Fin 8, s.canIsolate (.cluster k) = false ∨ s.kindBusy (.cluster k) = true → exec (.scrRunCluster r k) s = .next { s with outbox := s.outbox ++ [.reply stDenied 0] }) ∧
    (∀ k : Fin 8, ∀ x ∈ [(Instr.scrRunLaneGroup r k, TestUnit.laneGroup k), (.scrRunFarTest r k, .farTest k), (.scrRunScratch r, .scratch), (.scrRunSharedStorage r, .storage)],
      (s.canIsolate x.2 = true → s.kindBusy x.2 = false → s.scr.running = [] → testExtra x.2 ≤ s.capLeft →
        (s.powerFits (testExtra x.2) = true → Ends x.1 s fun t =>
          t.scr = { s.scr with running := [⟨x.2, testExtra x.2, 0, true⟩] } ∧ t.outbox = s.outbox ++ [.reply 0 0] ∧ Only [.scr, .outbox] [.scrState] s t) ∧
        (s.powerFits (testExtra x.2) = false → Ends x.1 s fun t => t.scr = { s.scr with waiting := s.scr.waiting ++ [x.2] } ∧ t.outbox = s.outbox ++ [.reply 0 0] ∧ Only [.scr, .outbox] [] s t)) ∧
      (s.canIsolate x.2 = false ∨ s.kindBusy x.2 = true → exec x.1 s = .next { s with outbox := s.outbox ++ [.reply stDenied 0] })) ∧
    (∀ k : Fin 8, (s.farMay = true → s.kindBusy (.farTest 0) = false → s.scr.farRespond = none → exec (.scrRunFarRespond r k) s = .next
        { s with scr := { s.scr with farRespond := some k.val }, outbox := s.outbox ++ [.reply 0 0] }) ∧
      (s.farMay = false → exec (.scrRunFarRespond r k) s = .next { s with outbox := s.outbox ++ [.reply stDenied 0] })) ∧
    exec (.scrRunFarRespond r 0xFF) s = .next { s with scr := { s.scr with farRespond := none }, outbox := s.outbox ++ [.reply 0 0] } ∧
    (s.engState s.other = 2 → s.eng.segTest = none → s.eng.retest = none → Ends (.scrRunStandin r) s fun t =>
      t.eng = { s.eng with segTest := some 0, nextSeg := 0, passRun := true } ∧ t.health s.other 31 24 = 0 ∧ t.outbox = s.outbox ++ [.reply 0 0] ∧ Only [.eng, .outbox] [.redHealth] s t) ∧
    (s.engState s.other ≠ 2 → exec (.scrRunStandin r) s = .next { s with outbox := s.outbox ++ [.reply stDenied 0] }) ∧
    (s.kindBusy (.analog 0) = false → s.scr.running = [] → s.powerFits 0 = true → Ends (.scrRunAnalog r) s fun t =>
      t.scr = { s.scr with running := (((List.range 14).map fun c => TestUnit.analog (Fin.ofNat 14 c)).filter s.canIsolate).map fun u => ⟨u, 0, 0, true⟩ } ∧
      t.outbox = s.outbox ++ [.reply 0 0] ∧ Only [.scr, .outbox] [.scrState] s t) ∧
    (s.kindBusy (.analog 0) = true → exec (.scrRunAnalog r) s = .next { s with outbox := s.outbox ++ [.reply stDenied 0] })

/-- Tests in service and their ends. FIELD_TEST_TURN tests the unit whose turn it is, or records SKIPPED and raises an event.
TEST_DONE records the result, with the failing part of the unit out of use and an event; scan shift that is stopped ends nothing.
POWER_ESTIMATE stops scan shift while the draw and the tests' extras pass the family's largest. SENSOR_REFERENCE_CHECK keeps the
deviation, and a sensor beyond the limit is used no more. Where it rests on choices of the model: notes/assumptions/36. -/
def Obligations.TestsInService : Prop :=
  ∀ s : State, s.aon.up = true →
    (s.seqRuns = true → s.obj .scrFieldEn = 1 →
      (∀ u : TestUnit, s.linkActive = true → s.inRotation u = true →
        (s.canIsolate u = true → s.kindBusy u = false → s.scr.running = [] → testKind u ≠ 0 → testExtra u ≤ s.capLeft → s.powerFits (testExtra u) = true → Ends (.fieldTestTurn u true) s fun t =>
          t.scr = { s.scr with running := [⟨u, testExtra u, 0, true⟩] } ∧ Only [.scr] [.scrState] s t) ∧
        (s.canIsolate u = false ∨ s.kindBusy u = true → exec (.fieldTestTurn u true) s = .next s) ∧
        (∀ e, resultEntry u = some e → s.obj .scrSkips + 1 < 2 ^ 32 → Ends (.fieldTestTurn u false) s fun t =>
          field (t.entry .scrResults e) 39 32 = resSkipped ∧ t.resultMap e = s.resultMap e ∧ (∀ x, x < 19 → x ≠ e → t.entry .scrResults x = s.entry .scrResults x) ∧ t.obj .scrSkips = s.obj .scrSkips + 1 ∧
          (s.eventRoom = true → LastEvent t 0x86 2 e) ∧ Only [.mgt, .outbox] [.scrResults, .scrSkips, .mgtEvtMode, .mgtEvtDropped] s t)) ∧
      (∀ (g : Fin 8) (d : Int), -32768 ≤ d → d < 32768 →
        (-24 ≤ d → d ≤ 24 → Ends (.sensorReferenceCheck g d) s fun t => t.entry .scrAnalog (6 + g) = ofSigned 16 d + 2 ^ 16 + 2 ^ 17 ∧ Only [] [.scrAnalog] s t) ∧
        (d < -24 ∨ 24 < d → Ends (.sensorReferenceCheck g d) s fun t => t.entry .scrAnalog (6 + g) = ofSigned 16 d + 2 ^ 17 ∧ t.cal = { s.cal with sensorBad := setBit s.cal.sensorBad g true } ∧
          (s.eventRoom = true → LastEvent t 0x86 2 0xFF) ∧ Only [.cal, .mgt, .outbox] [.scrAnalog, .mgtEvtMode, .mgtEvtDropped] s t))) ∧
    (s.scr.running = [] → s.scr.waiting = [] → s.scr.bootQueue = [] → (∀ mW : Nat, Ends (.powerEstimate mW) s fun t =>
        t.scr = { s.scr with estimate := mW, halted := decide (s.maxPower < mW + s.extras) } ∧ Only [.scr] [.scrState] s t) ∧
      ∀ (u : TestUnit) (map : Nat), exec (.testDone u map []) s = .next s) ∧
    (s.scr.halted = true → ∀ (u : TestUnit) (map : Nat), exec (.testDone u map []) s = .next s) ∧
    (s.scr.halted = false → s.scr.waiting = [] → ∀ x ∈ s.scr.running, s.scr.running = [x] → x.on = true → ∀ map, map < 2 ^ 17 →
      (∀ k, x.test = .cluster k → s.arr.descs = [] → Ends (.testDone x.test map []) s fun t =>
        t.scr.running = [] ∧ t.resultMap k = map ∧ field (t.entry .scrResults k) 39 32 = (if map = 0 then resPassed else resFailed) ∧ field (t.entry .scrResults k) 127 64 = s.aon.rclk % 2 ^ 64 ∧
        (∀ i, i < 16 → (map = 0 → t.entry .arrCellState (17 * k + i) = 0) ∧ (map.testBit i = true → t.entry .arrCellState (17 * k + i) = 2)) ∧ (∀ c, c < 136 → c / 17 ≠ k.val → t.entry .arrCellState c = s.entry .arrCellState c) ∧
        (s.eventRoom = true → map ≠ 0 → LastEvent t 0x86 2 k) ∧ Only [.scr, .mgt, .outbox] [.scrResults, .scrState, .arrCellState, .mgtEvtMode, .mgtEvtDropped] s t) ∧
      (∀ v, x.test = .scratchUnit v → Ends (.testDone x.test map []) s fun t =>
        t.scr.running = [] ∧ t.resultMap 16 = ofBool (map != 0) ∧ (∀ i, i < 128 → t.scratchBad.testBit i = (s.scratchBad.testBit i || (decide (i = v.val) && map != 0))) ∧
        Only [.scr, .mgt, .outbox] [.scrResults, .scrState, .scrScratchBad, .mgtEvtMode, .mgtEvtDropped] s t) ∧
      (x.test = .secureStore → map ≠ 0 → Ends (.testDone x.test map []) s fun t =>
        t.stk = { s.stk with selfTestFailed := true } ∧ t.noKeys = true ∧ t.obj .stkDigest = 0 ∧ t.obj .stkDigestState = 0 ∧ t.resultMap 18 = 1 ∧ (t.obj .scrFailed).testBit 18 = true ∧ t.scr.running = [] ∧
        Only [.scr, .stk, .mgt, .outbox] [.scrResults, .scrState, .scrFailed, .stkDigest, .stkDigestState, .mgtEvtMode, .mgtEvtDropped] s t))

/-! ### Images and the scene commit -/

/-- Loads. A secure PWR_FW_LOAD and FW_ONLINE_UPDATE take the staged image when every check passes, and otherwise show the code of the
first failing one. A secure MGT_SCRIPT_LOAD and MGT_SCENE_LOAD replace what is stored by a staged image that passes, and otherwise
only show the check and the entry. A requester that is not secure changes nothing. Where it rests on choices of the model:
notes/assumptions/38. -/
def Obligations.ImagesAreLoaded : Prop :=
  ∀ (r : Requester) (s : State), s.aon.up = true → s.heard r = true →
    (isSecure r = true →
      (s.fwCode 1 = 0 → s.obj .stkDigestGenNow + 1 < 2 ^ 32 → Ends (.pwrFwLoad r) s fun t =>
        t.pwr = { s.pwr with fwImage := s.tableSlice .pwrFwImage 0 (valAt (s.tableSlice .pwrFwImage 0 20) 12 4) } ∧ t.obj .oprUcodeVer = valAt (s.tableSlice .pwrFwImage 0 20) 10 2 ∧
        t.fld .pwrFwResult 7 0 = 0 ∧ t.fld .pwrFwResult 8 8 = 1 ∧ t.obj .stkDigestGenNow = s.obj .stkDigestGenNow + 1 ∧ t.outbox = s.outbox ++ [.reply 0 0] ∧
        Only [.pwr, .outbox] [.oprUcodeVer, .pwrFwResult, .pwrBringupState, .stkDigestGenNow, .stkDigestState] s t) ∧
      (s.fwCode 1 ≠ 0 → Ends (.pwrFwLoad r) s fun t => t.fld .pwrFwResult 7 0 = s.fwCode 1 ∧ t.fld .pwrFwResult 31 8 = s.fld .pwrFwResult 31 8 ∧ t.outbox = s.outbox ++ [.reply 0 0] ∧
        Only [.outbox] [.pwrFwResult, .pwrBringupState] s t) ∧
      (s.fwCode 2 = 0 → s.obj .stkDigestGenNow + 1 < 2 ^ 32 → s.readyDom 19 = true → s.pwr.mclkStop = false → s.cal.planDue = false → Ends (.fwOnlineUpdate r) s fun t =>
        t.pwr = { s.pwr with fwImage := s.tableSlice .pwrFwImage 0 (valAt (s.tableSlice .pwrFwImage 0 20) 12 4) } ∧ t.seqRuns = true ∧ t.cal.recal = none ∧ t.cal.scan = none ∧ t.cal.stepRate = none ∧
        t.fld .pwrFwResult 7 0 = 0 ∧ t.obj .oprUcodeVer = valAt (s.tableSlice .pwrFwImage 0 20) 10 2 ∧ t.outbox = s.outbox ++ [.reply 0 0] ∧
        Only [.pwr, .cal, .mgt, .outbox] [.oprUcodeVer, .pwrFwResult, .stkDigestGenNow, .stkDigestState, .calSeqState, .ageStepState, .ageMonitorState] s t) ∧
      (s.fwCode 2 ≠ 0 → Ends (.fwOnlineUpdate r) s fun t => t.fld .pwrFwResult 7 0 = s.fwCode 2 ∧ t.fld .pwrFwResult 31 8 = s.fld .pwrFwResult 31 8 ∧ t.outbox = s.outbox ++ [.reply 0 0] ∧
        Only [.outbox] [.pwrFwResult] s t) ∧
      (s.loadCheck none r = (0, 0) → s.obj .stkDigestGenNow + 1 < 2 ^ 32 → Ends (.mgtScriptLoad r) s fun t =>
        t.mgt = { s.mgt with script := s.stagedImage } ∧ t.obj .mgtLoadResult = 0 ∧ t.fld .mgtSceneStored 8 8 = 1 ∧ t.fld .mgtSceneStored 7 0 = s.fld .mgtSceneStored 7 0 ∧
        t.obj .stkDigestGenNow = s.obj .stkDigestGenNow + 1 ∧ t.outbox = s.outbox ++ [.reply 0 0] ∧ Only [.mgt, .outbox] [.mgtLoadResult, .mgtSceneStored, .stkDigestGenNow, .stkDigestState] s t) ∧
      ((s.loadCheck none r).1 ≠ 0 → Ends (.mgtScriptLoad r) s fun t => t.fld .mgtLoadResult 7 0 = (s.loadCheck none r).1 ∧ t.outbox = s.outbox ++ [.reply 0 0] ∧ Only [.outbox] [.mgtLoadResult] s t) ∧
      (∀ n, n < 8 →
        (s.loadCheck (some n) r = (0, 0) → Ends (.mgtSceneLoad r n) s fun t =>
          t.mgt = { s.mgt with scenes := s.mgt.scenes.set n s.stagedImage } ∧ t.obj .mgtLoadResult = 0 ∧ t.fld .mgtSceneStored n n = 1 ∧ t.outbox = s.outbox ++ [.reply 0 0] ∧
          Only [.mgt, .outbox] [.mgtLoadResult, .mgtSceneStored] s t) ∧
        ((s.loadCheck (some n) r).1 ≠ 0 → Ends (.mgtSceneLoad r n) s fun t => t.fld .mgtLoadResult 7 0 = (s.loadCheck (some n) r).1 ∧ t.fld .mgtLoadResult 23 16 = n ∧ t.outbox = s.outbox ++ [.reply 0 0] ∧
          Only [.outbox] [.mgtLoadResult] s t)) ∧
      (∀ n, 8 ≤ n → exec (.mgtSceneLoad r n) s = .next { s with outbox := s.outbox ++ [.reply stDenied 0] })) ∧
    (isSecure r = false → ∀ n : Nat, ∀ c ∈ [Instr.pwrFwLoad r, .fwOnlineUpdate r, .mgtScriptLoad r, .mgtSceneLoad r n, .mgtSceneCommit r n],
      exec c s = .next { s with outbox := s.outbox ++ [.reply stDenied 0] })

/-- The commit. A secure MGT_SCENE_COMMIT whose local checks pass asks every instance on a flow's path and then runs; a refused one
shows its check, counts, and raises an event. COMMIT_DONE of a commit without flows gives every changed object its value and makes
the mask active, or ends it refused. A commit that is refused changes no configuration. Where it rests on choices of the model:
notes/assumptions/39. -/
def Obligations.SceneCommits : Prop :=
  ∀ s : State, s.aon.up = true → s.obj .mgtCommitRefusals + 1 < 2 ^ 32 → s.obj .mgtCommits + 1 < 2 ^ 32 → s.obj .stkDigestGenNow + 1 < 2 ^ 32 →
    (∀ (r : Requester) (m : Nat), m < 256 → s.heard r = true → isSecure r = true →
      (s.commitChecks m r = none → Ends (.mgtSceneCommit r m) s fun t =>
        t.mgt = { s.mgt with commit := some ⟨m⟩ } ∧ t.cls = { s.cls with walk := some ⟨(s.withCandidate m).flowsUsed, false, false⟩ } ∧ t.obj .mgtSceneCommit = m ∧ t.obj .mgtCommitResult = 2 ^ 24 ∧
        t.outbox = s.outbox ++ ((s.withCandidate m).flowsUsed.map fun i => [Out.ask ((s.withCandidate m).queryOf i false), Out.ask ((s.withCandidate m).queryOf i true)]).flatten ++ [.reply 0 0] ∧
        Only [.mgt, .cls, .outbox] [.mgtSceneCommit, .mgtCommitResult] s t) ∧
      (∀ f, s.commitChecks m r = some f → Ends (.mgtSceneCommit r m) s fun t =>
        t.fld .mgtCommitResult 23 0 = f.result % 2 ^ 24 ∧ t.fld .mgtCommitResult 24 24 = s.fld .mgtCommitResult 24 24 ∧ t.obj .mgtCommitRefusals = s.obj .mgtCommitRefusals + 1 ∧
        t.mgt.commit = s.mgt.commit ∧ t.mgt.scenes = s.mgt.scenes ∧ (s.eventRoom = true → LastEvent t 0x05 0 (f.code % 256)) ∧ t.outbox.getLast? = some (.reply 0 0) ∧
        Only [.mgt, .outbox] [.mgtCommitResult, .mgtCommitRefusals, .arrCheckResult, .mgtEvtMode, .mgtEvtDropped] s t)) ∧
    (∀ c, s.mgt.commit = some c → c.mask < 256 →
      (s.imageChecks c.mask = none → (s.withCandidate c.mask).flowsUsed = [] → (∀ i, i < 256 → s.entry .tclFlowState i = 0 ∧ s.entry .tclFlowBound i = 0) →
        (∀ w ∈ s.changes (s.withCandidate c.mask) (s.named c.mask), s.changes (s.withCandidate c.mask) (s.named c.mask) = [w] → Ends (.commitDone []) s fun t =>
          t.entry w.obj w.entry = w.val ∧ t.obj .mgtSceneActive = c.mask ∧ t.obj .mgtCommits = s.obj .mgtCommits + 1 ∧ t.mgt.commit = none ∧ t.cls.walk = none ∧ t.obj .mgtSceneCommit = 0 ∧
          t.obj .mgtCommitResult = 0 ∧ t.obj .tclAdmitResult = 0 ∧ t.obj .stkDigestGenNow = s.obj .stkDigestGenNow + 1) ∧
        (s.changes (s.withCandidate c.mask) (s.named c.mask) = [] → Ends (.commitDone []) s fun t =>
          t.obj .mgtSceneActive = c.mask ∧ t.obj .mgtCommits = s.obj .mgtCommits + 1 ∧ t.mgt = { s.mgt with commit := none } ∧ t.cls.walk = none ∧ t.cls.register = s.cls.register ∧
          t.obj .mgtCommitResult = 0 ∧ Only [.mgt, .cls] [.mgtSceneActive, .mgtSceneCommit, .mgtCommits, .mgtCommitResult, .tclAdmitResult, .stkDigestGenNow, .stkDigestState] s t)) ∧
      (∀ f, s.imageChecks c.mask = some f → f.code ≠ 8 → Ends (.commitDone []) s fun t =>
        t.mgt.commit = none ∧ t.cls.walk = none ∧ t.obj .mgtSceneActive = s.obj .mgtSceneActive ∧ t.fld .mgtCommitResult 23 0 = f.result % 2 ^ 24 ∧ t.fld .mgtCommitResult 24 24 = 0 ∧
        t.obj .mgtCommitRefusals = s.obj .mgtCommitRefusals + 1 ∧ (s.eventRoom = true → LastEvent t 0x05 0 (f.code % 256)) ∧
        Only [.mgt, .cls, .outbox] [.mgtSceneCommit, .mgtCommitResult, .mgtCommitRefusals, .mgtEvtMode, .mgtEvtDropped] s t)) ∧
    (s.mgt.commit = none → s.cls.walk = none → ∀ l : List HopAnswer, exec (.commitDone l) s = .next s)

/-! ### Event records -/

/-- The event gateway writes its oldest record into its slot of the dailies ring with EVENT_RECORD_WRITE, an OVERFLOW record first
where records were dropped; an instance in in-band mode writes into the fallback area. EVENT_WRITE_DONE with OK advances PIDX, and
a failure is counted and written again at EVENT_WRITE_RETRY. PSTATE_WRITE writes the producer state. A record on its way by ring.
EVENT_RING_TIMEOUT sends it once more, and after the second time enters in-band mode; a trial of the ring just ends.
EVENT_RING_RETRY in in-band mode tries the ring with the next record. Where it rests on choices of the model:
notes/assumptions/47. -/
def Obligations.EventDelivery : Prop :=
  (∀ s : State, s.aon.up = true → s.fa ≠ 0xFFF → s.fenced = false →
      (s.pk.own = [] → s.pk.ownWait = [] → s.mgt.recWriting = false → s.mgt.evtTries = 0 → ∀ port, port < 64 →
        (s.evtGateway = true → s.ringRoom = true → s.obj .mgtEvtDropped = 0 → ∀ r rest, s.mgt.events = r :: rest → s.recordsBy (s.obj .mgtEvtFa) s.slotSector port →
          (s.mgt.recRetry = false → Ends .eventRecordWrite s fun t =>
            OwnWrite s t (.eventWrite (s.obj .mgtEvtPidx)) (s.obj .mgtEvtFa) s.slotSector port (slice (s.recordSector s.nextSlot r) 0 64) ∧
            t.mgt = { s.mgt with recWriting := true, recRetry := false } ∧ t.obj .mgtEvtPidx = s.obj .mgtEvtPidx ∧ Only [.mgt, .pk, .rl] [.tclPortRelay] s t) ∧
          (s.mgt.recRetry = true → exec .eventRecordWrite s = .next s ∧ Ends .eventWriteRetry s fun t =>
            OwnWrite s t (.eventWrite (s.obj .mgtEvtPidx)) (s.obj .mgtEvtFa) s.slotSector port (slice (s.recordSector s.nextSlot r) 0 64) ∧
            t.mgt = { s.mgt with recWriting := true, recRetry := false } ∧ Only [.mgt, .pk, .rl] [.tclPortRelay] s t)) ∧
        (s.evtGateway = false → s.evtInBand = true → s.mgt.evtProbe = false → s.mgt.recRetry = false → s.obj .mgtEvtFbFa ≠ 0xFFF → ∀ r rest, s.mgt.events = r :: rest →
          s.recordsBy (s.obj .mgtEvtFbFa) ((s.obj .mgtEvtFbBase + r.seq % 16) % 2 ^ 40) port → Ends .eventRecordWrite s fun t =>
            OwnWrite s t .eventInBand (s.obj .mgtEvtFbFa) ((s.obj .mgtEvtFbBase + r.seq % 16) % 2 ^ 40) port (slice r.bytes 0 64) ∧ t.mgt = { s.mgt with recWriting := true } ∧ Only [.mgt, .pk, .rl] [.tclPortRelay] s t)) ∧
      (s.evtGateway = true → s.mgt.recWriting = false → s.mgt.evtTries = 0 → s.mgt.recRetry = false → s.ringRoom = true → s.obj .mgtEvtDropped ≠ 0 → Ends .eventRecordWrite s fun t =>
        t.obj .mgtEvtDropped = 0 ∧ t.mgt.recWriting = true ∧ (∃ e ∈ t.mgt.events.head?, e.type = 0x01 ∧ valAt e.payload 0 4 = s.obj .mgtEvtDropped) ∧ t.mgt.events.drop 1 = s.mgt.events) ∧
      (∀ d ∈ s.pk.done, s.pk.done = [d] → d.use = .eventWrite (s.obj .mgtEvtPidx) →
        (d.status = 0 → s.obj .mgtEvtPidx + 1 < 2 ^ 32 → Ends (.eventWriteDone 0) s fun t =>
          t.obj .mgtEvtPidx = s.obj .mgtEvtPidx + 1 ∧ t.mgt = { s.mgt with events := s.mgt.events.drop 1, recWriting := false, pairOld := s.mgt.events.headD EventRec.null, pstateDue := true } ∧
          t.pk = { s.pk with done := [] } ∧ Only [.mgt, .pk] [.mgtEvtPidx] s t) ∧
        (d.status ≠ 0 → s.obj .mgtEvtWriteErrs + 1 < 2 ^ 32 → Ends (.eventWriteDone d.status) s fun t =>
          t.obj .mgtEvtWriteErrs = s.obj .mgtEvtWriteErrs + 1 ∧ t.mgt = { s.mgt with recWriting := false, recRetry := true } ∧ t.pk = { s.pk with done := [] } ∧ Only [.mgt, .pk] [.mgtEvtWriteErrs] s t)) ∧
      (∀ st : Nat, s.pk.done = [] → exec (.eventWriteDone st) s = .next s) ∧
      (s.evtGateway = true → s.mgt.pstateDue = true → s.mgt.pstateBusy = false → s.pk.own = [] → s.pk.ownWait = [] → ∀ port, port < 64 → s.recordsBy (s.obj .mgtEvtFa) (s.obj .mgtEvtPstate) port → Ends .pstateWrite s fun t =>
          OwnWrite s t .pstateWrite (s.obj .mgtEvtFa) (s.obj .mgtEvtPstate) port (slice (toBytes 4 (s.obj .mgtEvtPidx) ++ toBytes 4 (s.obj .mgtEvtDropped) ++ toBytes 8 s.aon.rclk ++ zeros 48) 0 64) ∧
          t.mgt = { s.mgt with pstateDue := false, pstateBusy := true } ∧ Only [.mgt, .pk, .rl] [.tclPortRelay] s t) ∧
      (s.mgt.pstateDue = false → exec .pstateWrite s = .next s) ∧ (s.mgt.recRetry = false → exec .eventWriteRetry s = .next s)) ∧
  (∀ s : State, s.aon.up = true →
      (s.mgt.evtTries = 0 → exec .eventRingTimeout s = .next s) ∧
      (s.mgt.evtTries ≠ 0 → s.mgt.evtProbe = true → exec .eventRingTimeout s = .next { s with mgt := { s.mgt with evtTries := 0, evtProbe := false } }) ∧
      (s.mgt.evtTries = 2 → s.mgt.evtProbe = false → Ends .eventRingTimeout s fun t =>
        t.fld .mgtEvtMode 2 0 = 2 ∧ t.fld .mgtEvtMode 15 8 = s.fld .mgtEvtMode 15 8 ∧ t.mgt = { s.mgt with evtTries := 0 } ∧ Only [.mgt] [.mgtEvtMode] s t) ∧
      (∀ r rest, s.mgt.events = r :: rest → s.entry .mgtEvtPath 0 = 1 → s.entry .mgtEvtPath 1 < s.ringLen → s.entry .mgtEvtPath 1 < 64 →
        (s.mgt.evtTries = 1 → s.mgt.evtProbe = false → Ends .eventRingTimeout s fun t =>
          t.mgt = { s.mgt with evtTries := 2 } ∧ t.outbox = s.outbox ++ [.ring (s.entry .mgtEvtPath 1)
            (ringMsg 5 0 1 1 0 (s.ringPlace :: (List.range 11).map fun i => b8 (s.entry .mgtEvtPath (2 + i))) s.mgt.ringTagEvt 0 0 32 0 r.bytes)] ∧ Only [.mgt, .outbox] [] s t) ∧
        (s.mgt.evtTries = 0 → s.evtGateway = false → s.fld .mgtEvtMode 1 1 = 1 → s.mgt.recWriting = false → Ends .eventRingRetry s fun t =>
          t.mgt = { s.mgt with evtProbe := true, evtTries := 1, ringTagEvt := (s.mgt.ringTagEvt + 1) % 65536 } ∧ t.outbox = s.outbox ++ [.ring (s.entry .mgtEvtPath 1)
            (ringMsg 5 0 1 1 0 (s.ringPlace :: (List.range 11).map fun i => b8 (s.entry .mgtEvtPath (2 + i))) ((s.mgt.ringTagEvt + 1) % 65536) 0 0 32 0 r.bytes)] ∧
          t.obj .mgtEvtMode = s.obj .mgtEvtMode ∧ Only [.mgt, .outbox] [.mgtEvtMode] s t)) ∧
      (s.fld .mgtEvtMode 1 1 = 0 → exec .eventRingRetry s = .next s))

/-- A secure PWR_DOMAIN_CTRL_WRITE turns the domains off that the value drops and those on that it adds and that may have power, and
is refused where it would turn off what is in use; PWR_CYCLE turns domains off and on again. DOMAIN_READY of a domain in power
makes it ready: a cluster gets its cells, an engine that waits is tested, a sequencer runs. Where it rests on choices of the
model: notes/assumptions/41. -/
def Obligations.PowerDomains : Prop :=
  ∀ s : State, s.aon.up = true →
    (∀ r : Requester, s.heard r = true →
      (isSecure r = true → ∀ v : Nat, v < 2 ^ 20 →
        (s.protects (s.obj .pwrDomainCtrl - (s.obj .pwrDomainCtrl &&& v)) = false → Ends (.pwrDomainCtrlWrite r v) s fun t =>
          t.obj .pwrDomainCtrl = v ∧ (∀ d, d < 20 → (s.obj .pwrDomainCtrl).testBit d = true → v.testBit d = false → t.poweredDom d = false ∧ t.readyDom d = false) ∧
          (∀ d, d < 20 → (s.obj .pwrDomainCtrl).testBit d = v.testBit d → t.poweredDom d = s.poweredDom d) ∧
          (∀ d, d < 20 → (s.obj .pwrDomainCtrl).testBit d = false → v.testBit d = true → s.poweredDom d = false → 2 ≤ t.bringupStep → t.mayPower d = true → t.poweredDom d = true ∧ t.readyDom d = false) ∧
          t.outbox.getLast? = some (.reply 0 0) ∧ (v = s.obj .pwrDomainCtrl → Only [.outbox] [] s t)) ∧
        (s.protects (s.obj .pwrDomainCtrl - (s.obj .pwrDomainCtrl &&& v)) = true → exec (.pwrDomainCtrlWrite r v) s = .next { s with outbox := s.outbox ++ [.reply stDenied 0] })) ∧
      (isSecure r = false → ∀ v : Nat, exec (.pwrDomainCtrlWrite r v) s = .next { s with outbox := s.outbox ++ [.reply stDenied 0] }) ∧
      (∀ v : Nat, v < 2 ^ 20 →
        (s.protects v = false → 2 ≤ s.bringupStep → Ends (.pwrCycle r v) s fun t =>
          (∀ d, d < 20 → v.testBit d = true → t.readyDom d = false ∧ (t.mayPower d = true → t.poweredDom d = true)) ∧ (∀ d, d < 20 → v.testBit d = false → t.poweredDom d = s.poweredDom d ∧ t.readyDom d = s.readyDom d) ∧
          t.outbox.getLast? = some (.reply 0 0)) ∧
        (s.protects v = true → exec (.pwrCycle r v) s = .next { s with outbox := s.outbox ++ [.reply stDenied 0] }))) ∧
    (∀ d : Fin 20, s.poweredDom d = true → s.readyDom d = false →
      (2 ≤ d.val → d.val ≤ 9 → exec (.domainReady d) s = .next { s with pwr := { s.pwr with ready := setBit s.pwr.ready d true } }) ∧
      (10 ≤ d.val → d.val ≤ 17 → (∀ i, i < 17 → s.entry .arrCellState (17 * (d.val - 10) + i) ≠ 2) → Ends (.domainReady d) s fun t =>
        t.pwr = { s.pwr with ready := setBit s.pwr.ready d true } ∧ (∀ c, c < 136 → t.entry .arrCellState c = if c / 17 = d.val - 10 then (if c % 17 = 16 then 1 else 0) else s.entry .arrCellState c) ∧
        Only [.pwr] [.arrCellState] s t) ∧
      (d.val = 19 → s.pwr.mclkStop = false → s.cal.planDue = false → Ends (.domainReady d) s fun t =>
        t.pwr = { s.pwr with ready := setBit s.pwr.ready d true } ∧ t.cal = { s.cal with seqDown := false } ∧ t.fld .calSeqState 3 3 = 0 ∧ Only [.pwr, .cal] [.calSeqState] s t) ∧
      (d.val ≤ 1 → 4 ≤ s.bringupStep → s.eng.retest = none → s.engState d = 0 → Ends (.domainReady d) s fun t =>
        t.pwr = { s.pwr with ready := setBit s.pwr.ready d true } ∧ t.eng = { s.eng with retest := some d.val } ∧ t.engState d = 4 ∧ Only [.pwr, .eng] [.redEngState] s t)) ∧
    (∀ d : Fin 20, s.poweredDom d = false → exec (.domainReady d) s = .next s)

/-- BRINGUP_STEP ends the step that bring-up stands at when its condition holds, notes the time, and goes on with the next; step 1
samples the ring position and starts the domains, step 2 ends with an image and starts screen test, and step 3 ends with it. A
secure PWR_RESET, and RESET_SETTLE_TIMEOUT where the link core is held up, reset every domain but the AON domain: keys, active
tables, script and scenes stay. Where it rests on choices of the model: notes/assumptions/40, 42. -/
def Obligations.BringupAndReset : Prop :=
  ∀ s : State, s.aon.up = true →
    (∀ n : Fin 11, s.bringupStep = n.val → s.fld .pwrBringupState 15 8 ≠ 4 → s.stepEnds n = true →
      (4 ≤ n.val → n.val ≤ 9 → Ends (.bringupStep n) s fun t =>
        t.obj .pwrBringupState = n.val + 1 ∧ t.entry .pwrBringupTime (n.val - 1) = s.aon.rclk % 2 ^ 64 ∧ (∀ e, e < 10 → e ≠ n.val - 1 → t.entry .pwrBringupTime e = s.entry .pwrBringupTime e) ∧
        Only [] [.pwrBringupState, .pwrBringupTime] s t) ∧
      (n.val = 1 → Ends (.bringupStep n) s fun t => t.bringupStep = 2 ∧ t.entry .pwrBringupTime 0 = s.aon.rclk % 2 ^ 64 ∧ t.fld .mgtRingState 16 16 = 1 ∧
        (∀ d, d < 20 → t.mayPower d = true → t.poweredDom d = true) ∧ t.mgt.script = s.mgt.script ∧ t.stk = s.stk) ∧
      (n.val = 2 → Ends (.bringupStep n) s fun t => t.obj .pwrBringupState = 3 ∧ t.entry .pwrBringupTime 1 = s.aon.rclk % 2 ^ 64 ∧ t.obj .scrFailed = 0 ∧ t.scr.running = [] ∧ TestUnit.secureStore ∈ t.scr.bootQueue ∧
        (∀ c : Fin 14, TestUnit.analog c ∈ t.scr.bootQueue) ∧ t.stk.slots = s.stk.slots) ∧
      (n.val = 3 → s.engineLeads = true → s.obj .pwrAutoTrain ≠ 1 → Ends (.bringupStep n) s fun t => t.obj .pwrBringupState = 4 ∧ t.entry .pwrBringupTime 2 = s.aon.rclk % 2 ^ 64 ∧
        Only [] [.pwrBringupState, .pwrBringupTime] s t)) ∧
    (∀ n : Fin 11, s.bringupStep ≠ n.val → exec (.bringupStep n) s = .next s) ∧
    (∀ r : Requester, s.heard r = true → s.obj .pwrReset = 0 → s.obj .scrZeroise = 0 →
      (isSecure r = true → s.linkCore = true → s.fld .pwrClkState 1 0 ≠ 0 → Ends (.pwrReset r) s fun t =>
        t.pwr = { s.pwr with resetStep := 1 } ∧ t.obj .pwrReset = 1 ∧ t.outbox = s.outbox ++ [.reply 0 0] ∧ Only [.pwr, .outbox] [.pwrReset] s t) ∧
      (isSecure r = true → s.fld .pwrClkState 1 0 = 0 → s.obj .pwrResetCount + 1 < 2 ^ 32 → Ends (.pwrReset r) s fun t =>
        t.bringupStep = 2 ∧ t.obj .pwrReset = 0 ∧ t.linkUp = false ∧ t.arr.descs = [] ∧ t.pk.own = [] ∧ t.tx.queue = [] ∧ t.eng.store = [] ∧ t.stk.slots = s.stk.slots ∧ t.stk.parts = s.stk.parts ∧
        t.stk.access = s.stk.access ∧ t.mgt.script = s.mgt.script ∧ t.mgt.scenes = s.mgt.scenes ∧ t.obj .pwrResetCount = s.obj .pwrResetCount + 1 ∧ t.obj .mgtSceneActive = 0 ∧ t.outbox.getLast? = some (.reply 0 0)) ∧
      (isSecure r = false → exec (.pwrReset r) s = .next { s with outbox := s.outbox ++ [.reply stDenied 0] })) ∧
    (s.pwr.resetStep = 1 → s.obj .scrZeroise = 0 → s.obj .pwrResetCount + 1 < 2 ^ 32 → Ends .resetSettleTimeout s fun t =>
      t.bringupStep = 2 ∧ t.pwr.resetStep = 0 ∧ t.arr.descs = [] ∧ t.tx.queue = [] ∧ t.stk.slots = s.stk.slots ∧ t.mgt.script = s.mgt.script ∧ t.obj .pwrResetCount = s.obj .pwrResetCount + 1) ∧
    (s.pwr.resetStep = 0 → exec .resetSettleTimeout s = .next s)

/-! ### Rules of the whole block -/

/-- The dictionary finds every object at its own index and sub-index. Sub-index 0 of an index that holds objects reads as one byte,
the highest sub-index present there, and cannot be written. -/
def Obligations.ObjectNumbersAndSubIndexZero : Prop :=
  (∀ o : Obj, objAt o.row.index o.row.sub = some o ∧ 1 ≤ o.row.sub ∧ o.row.sub < 256) ∧
  (∀ (sec : Bool) (s : State), s.aon.up = true → s.pwr.hclkStop = false → s.mgt.dxOffset = 0 → ∀ o : Obj, s.mgt.dxSel = o.row.index * 2 ^ 16 →
    ∃ h, (∀ p : Obj, p.row.index = o.row.index → p.row.sub ≤ h) ∧ (∃ p : Obj, p.row.index = o.row.index ∧ p.row.sub = h) ∧
      (Ends (.dxDataRead sec) s fun t => t.outbox = s.outbox ++ [.reply 0 h] ∧ t.mgt = { s.mgt with dxOffset := 4 } ∧ Only [.mgt, .outbox] [] s t) ∧
      ∀ v : Nat, Ends (.dxDataWrite sec v) s fun t => t.outbox = s.outbox ++ [.reply 3 0] ∧ t.mgt = { s.mgt with dxOffset := 4 } ∧ Only [.mgt, .outbox] [] s t)

/-- The zeroisation record, once it is there, stays through every command but AON power-up, and through every tick. While it is there
EXTEST, WS_INTEST and WS_SCAN are in force and the key unit answers each key command with RESULT 6. SCR_ZEROISE starts the march
of the key-slot memory, and ZEROISE_DONE writes no record before it has ended. AON power-up ends the record. -/
def Obligations.ZeroisationRecordLasts : Prop :=
  (∀ (c : Instr) (s t : State), s.zeroRecord = true → (∀ strap, c ≠ .aonPowerUp strap) → exec c s = .next t → t.zeroRecord = true) ∧
  (∀ s t : State, s.zeroRecord = true → s.pending = [] → step s = .next t → t.zeroRecord = true) ∧
  (∀ (strap : Bool) (s : State), Ends (.aonPowerUp strap) s fun t => t.zeroRecord = false) ∧
  (∀ s : State, s.aon.up = true →
    (s.zeroRecord = true →
      (Ends .extest s fun t => t.pwr.tap = 3) ∧ (Ends .wsIntest s fun t => t.pwr.wrapper = 2) ∧ (Ends .wsScan s fun t => t.pwr.wrapper = 3) ∧
      (s.obj .stkKeyRefused + 1 < 2 ^ 32 → s.mgt.mailboxes.length = 6 → (s.mbx 4).inFull = false → ∀ body : List Byte,
        ∀ x ∈ [((1 : Byte), 79, Instr.keyLoad body), (2, 7, .keySelect body), (3, 7, .keyClear body)], body.length = x.2.1 → s.mgt.taken = [⟨4, false, x.1 :: body⟩] → Ends x.2.2 s fun t =>
          t.stk = s.stk ∧ t.obj .stkKeyRefused = s.obj .stkKeyRefused + 1 ∧ (t.mbx 4).inFull = true ∧ slice (t.mbx 4).inn 0 2 = [x.1 + 0x80, 6] ∧ Only [.mgt] [.stkKeyRefused] s t)) ∧
    (∀ r, s.heard r = true → isSecure r = true → s.obj .scrZeroise = 0 → Ends (.scrZeroise r) s fun t => t.scr.running = [⟨.secureStore, 0, 0, true⟩] ∧ t.zeroRecord = s.zeroRecord) ∧
    (s.obj .scrZeroise = 1 → (∃ x ∈ s.scr.running, x.test = .secureStore) → exec .zeroiseDone s = .next s))
end

