-- ==== Sys2Proof/Laws/State.lean ====
section
/-! SUPPORT. What the shared operations leave alone: one lemma per field of State and operation, for simp. -/

set_option Elab.async false

namespace Sys2Proof.Machine

/-! ### out -/

@[simp] theorem State.out_pending (s : State) (o : Out) : (s.out o).pending = s.pending := rfl
@[simp] theorem State.out_aon (s : State) (o : Out) : (s.out o).aon = s.aon := rfl
@[simp] theorem State.out_dict (s : State) (o : Out) : (s.out o).dict = s.dict := rfl
@[simp] theorem State.out_sp (s : State) (o : Out) : (s.out o).sp = s.sp := rfl
@[simp] theorem State.out_rl (s : State) (o : Out) : (s.out o).rl = s.rl := rfl
@[simp] theorem State.out_tx (s : State) (o : Out) : (s.out o).tx = s.tx := rfl
@[simp] theorem State.out_rx (s : State) (o : Out) : (s.out o).rx = s.rx := rfl
@[simp] theorem State.out_crossings (s : State) (o : Out) : (s.out o).crossings = s.crossings := rfl
@[simp] theorem State.out_lanes (s : State) (o : Out) : (s.out o).lanes = s.lanes := rfl
@[simp] theorem State.out_trn (s : State) (o : Out) : (s.out o).trn = s.trn := rfl
@[simp] theorem State.out_lat (s : State) (o : Out) : (s.out o).lat = s.lat := rfl
@[simp] theorem State.out_sb (s : State) (o : Out) : (s.out o).sb = s.sb := rfl
@[simp] theorem State.out_pk (s : State) (o : Out) : (s.out o).pk = s.pk := rfl
@[simp] theorem State.out_cls (s : State) (o : Out) : (s.out o).cls = s.cls := rfl
@[simp] theorem State.out_stk (s : State) (o : Out) : (s.out o).stk = s.stk := rfl
@[simp] theorem State.out_arr (s : State) (o : Out) : (s.out o).arr = s.arr := rfl
@[simp] theorem State.out_eng (s : State) (o : Out) : (s.out o).eng = s.eng := rfl
@[simp] theorem State.out_cal (s : State) (o : Out) : (s.out o).cal = s.cal := rfl
@[simp] theorem State.out_scr (s : State) (o : Out) : (s.out o).scr = s.scr := rfl
@[simp] theorem State.out_mgt (s : State) (o : Out) : (s.out o).mgt = s.mgt := rfl
@[simp] theorem State.out_pwr (s : State) (o : Out) : (s.out o).pwr = s.pwr := rfl
@[simp] theorem State.out_free (s : State) (o : Out) : (s.out o).free = s.free := rfl

/-! ### outs -/

@[simp] theorem State.outs_pending (s : State) (l : List Out) : (s.outs l).pending = s.pending := rfl
@[simp] theorem State.outs_aon (s : State) (l : List Out) : (s.outs l).aon = s.aon := rfl
@[simp] theorem State.outs_dict (s : State) (l : List Out) : (s.outs l).dict = s.dict := rfl
@[simp] theorem State.outs_sp (s : State) (l : List Out) : (s.outs l).sp = s.sp := rfl
@[simp] theorem State.outs_rl (s : State) (l : List Out) : (s.outs l).rl = s.rl := rfl
@[simp] theorem State.outs_tx (s : State) (l : List Out) : (s.outs l).tx = s.tx := rfl
@[simp] theorem State.outs_rx (s : State) (l : List Out) : (s.outs l).rx = s.rx := rfl
@[simp] theorem State.outs_crossings (s : State) (l : List Out) : (s.outs l).crossings = s.crossings := rfl
@[simp] theorem State.outs_lanes (s : State) (l : List Out) : (s.outs l).lanes = s.lanes := rfl
@[simp] theorem State.outs_trn (s : State) (l : List Out) : (s.outs l).trn = s.trn := rfl
@[simp] theorem State.outs_lat (s : State) (l : List Out) : (s.outs l).lat = s.lat := rfl
@[simp] theorem State.outs_sb (s : State) (l : List Out) : (s.outs l).sb = s.sb := rfl
@[simp] theorem State.outs_pk (s : State) (l : List Out) : (s.outs l).pk = s.pk := rfl
@[simp] theorem State.outs_cls (s : State) (l : List Out) : (s.outs l).cls = s.cls := rfl
@[simp] theorem State.outs_stk (s : State) (l : List Out) : (s.outs l).stk = s.stk := rfl
@[simp] theorem State.outs_arr (s : State) (l : List Out) : (s.outs l).arr = s.arr := rfl
@[simp] theorem State.outs_eng (s : State) (l : List Out) : (s.outs l).eng = s.eng := rfl
@[simp] theorem State.outs_cal (s : State) (l : List Out) : (s.outs l).cal = s.cal := rfl
@[simp] theorem State.outs_scr (s : State) (l : List Out) : (s.outs l).scr = s.scr := rfl
@[simp] theorem State.outs_mgt (s : State) (l : List Out) : (s.outs l).mgt = s.mgt := rfl
@[simp] theorem State.outs_pwr (s : State) (l : List Out) : (s.outs l).pwr = s.pwr := rfl
@[simp] theorem State.outs_free (s : State) (l : List Out) : (s.outs l).free = s.free := rfl

/-! ### reply -/

@[simp] theorem State.reply_pending (s : State) (st : Nat) : (s.reply st).pending = s.pending := rfl
@[simp] theorem State.reply_aon (s : State) (st : Nat) : (s.reply st).aon = s.aon := rfl
@[simp] theorem State.reply_dict (s : State) (st : Nat) : (s.reply st).dict = s.dict := rfl
@[simp] theorem State.reply_sp (s : State) (st : Nat) : (s.reply st).sp = s.sp := rfl
@[simp] theorem State.reply_rl (s : State) (st : Nat) : (s.reply st).rl = s.rl := rfl
@[simp] theorem State.reply_tx (s : State) (st : Nat) : (s.reply st).tx = s.tx := rfl
@[simp] theorem State.reply_rx (s : State) (st : Nat) : (s.reply st).rx = s.rx := rfl
@[simp] theorem State.reply_crossings (s : State) (st : Nat) : (s.reply st).crossings = s.crossings := rfl
@[simp] theorem State.reply_lanes (s : State) (st : Nat) : (s.reply st).lanes = s.lanes := rfl
@[simp] theorem State.reply_trn (s : State) (st : Nat) : (s.reply st).trn = s.trn := rfl
@[simp] theorem State.reply_lat (s : State) (st : Nat) : (s.reply st).lat = s.lat := rfl
@[simp] theorem State.reply_sb (s : State) (st : Nat) : (s.reply st).sb = s.sb := rfl
@[simp] theorem State.reply_pk (s : State) (st : Nat) : (s.reply st).pk = s.pk := rfl
@[simp] theorem State.reply_cls (s : State) (st : Nat) : (s.reply st).cls = s.cls := rfl
@[simp] theorem State.reply_stk (s : State) (st : Nat) : (s.reply st).stk = s.stk := rfl
@[simp] theorem State.reply_arr (s : State) (st : Nat) : (s.reply st).arr = s.arr := rfl
@[simp] theorem State.reply_eng (s : State) (st : Nat) : (s.reply st).eng = s.eng := rfl
@[simp] theorem State.reply_cal (s : State) (st : Nat) : (s.reply st).cal = s.cal := rfl
@[simp] theorem State.reply_scr (s : State) (st : Nat) : (s.reply st).scr = s.scr := rfl
@[simp] theorem State.reply_mgt (s : State) (st : Nat) : (s.reply st).mgt = s.mgt := rfl
@[simp] theorem State.reply_pwr (s : State) (st : Nat) : (s.reply st).pwr = s.pwr := rfl
@[simp] theorem State.reply_free (s : State) (st : Nat) : (s.reply st).free = s.free := rfl

/-! ### setEntry -/

@[simp] theorem State.setEntry_pending (s : State) (o : Obj) (e v : Nat) : (s.setEntry o e v).pending = s.pending := rfl
@[simp] theorem State.setEntry_aon (s : State) (o : Obj) (e v : Nat) : (s.setEntry o e v).aon = s.aon := rfl
@[simp] theorem State.setEntry_sp (s : State) (o : Obj) (e v : Nat) : (s.setEntry o e v).sp = s.sp := rfl
@[simp] theorem State.setEntry_rl (s : State) (o : Obj) (e v : Nat) : (s.setEntry o e v).rl = s.rl := rfl
@[simp] theorem State.setEntry_tx (s : State) (o : Obj) (e v : Nat) : (s.setEntry o e v).tx = s.tx := rfl
@[simp] theorem State.setEntry_rx (s : State) (o : Obj) (e v : Nat) : (s.setEntry o e v).rx = s.rx := rfl
@[simp] theorem State.setEntry_crossings (s : State) (o : Obj) (e v : Nat) : (s.setEntry o e v).crossings = s.crossings := rfl
@[simp] theorem State.setEntry_lanes (s : State) (o : Obj) (e v : Nat) : (s.setEntry o e v).lanes = s.lanes := rfl
@[simp] theorem State.setEntry_trn (s : State) (o : Obj) (e v : Nat) : (s.setEntry o e v).trn = s.trn := rfl
@[simp] theorem State.setEntry_lat (s : State) (o : Obj) (e v : Nat) : (s.setEntry o e v).lat = s.lat := rfl
@[simp] theorem State.setEntry_sb (s : State) (o : Obj) (e v : Nat) : (s.setEntry o e v).sb = s.sb := rfl
@[simp] theorem State.setEntry_pk (s : State) (o : Obj) (e v : Nat) : (s.setEntry o e v).pk = s.pk := rfl
@[simp] theorem State.setEntry_cls (s : State) (o : Obj) (e v : Nat) : (s.setEntry o e v).cls = s.cls := rfl
@[simp] theorem State.setEntry_stk (s : State) (o : Obj) (e v : Nat) : (s.setEntry o e v).stk = s.stk := rfl
@[simp] theorem State.setEntry_arr (s : State) (o : Obj) (e v : Nat) : (s.setEntry o e v).arr = s.arr := rfl
@[simp] theorem State.setEntry_eng (s : State) (o : Obj) (e v : Nat) : (s.setEntry o e v).eng = s.eng := rfl
@[simp] theorem State.setEntry_cal (s : State) (o : Obj) (e v : Nat) : (s.setEntry o e v).cal = s.cal := rfl
@[simp] theorem State.setEntry_scr (s : State) (o : Obj) (e v : Nat) : (s.setEntry o e v).scr = s.scr := rfl
@[simp] theorem State.setEntry_mgt (s : State) (o : Obj) (e v : Nat) : (s.setEntry o e v).mgt = s.mgt := rfl
@[simp] theorem State.setEntry_pwr (s : State) (o : Obj) (e v : Nat) : (s.setEntry o e v).pwr = s.pwr := rfl
@[simp] theorem State.setEntry_free (s : State) (o : Obj) (e v : Nat) : (s.setEntry o e v).free = s.free := rfl
@[simp] theorem State.setEntry_outbox (s : State) (o : Obj) (e v : Nat) : (s.setEntry o e v).outbox = s.outbox := rfl

/-! ### setObj -/

@[simp] theorem State.setObj_pending (s : State) (o : Obj) (v : Nat) : (s.setObj o v).pending = s.pending := rfl
@[simp] theorem State.setObj_aon (s : State) (o : Obj) (v : Nat) : (s.setObj o v).aon = s.aon := rfl
@[simp] theorem State.setObj_sp (s : State) (o : Obj) (v : Nat) : (s.setObj o v).sp = s.sp := rfl
@[simp] theorem State.setObj_rl (s : State) (o : Obj) (v : Nat) : (s.setObj o v).rl = s.rl := rfl
@[simp] theorem State.setObj_tx (s : State) (o : Obj) (v : Nat) : (s.setObj o v).tx = s.tx := rfl
@[simp] theorem State.setObj_rx (s : State) (o : Obj) (v : Nat) : (s.setObj o v).rx = s.rx := rfl
@[simp] theorem State.setObj_crossings (s : State) (o : Obj) (v : Nat) : (s.setObj o v).crossings = s.crossings := rfl
@[simp] theorem State.setObj_lanes (s : State) (o : Obj) (v : Nat) : (s.setObj o v).lanes = s.lanes := rfl
@[simp] theorem State.setObj_trn (s : State) (o : Obj) (v : Nat) : (s.setObj o v).trn = s.trn := rfl
@[simp] theorem State.setObj_lat (s : State) (o : Obj) (v : Nat) : (s.setObj o v).lat = s.lat := rfl
@[simp] theorem State.setObj_sb (s : State) (o : Obj) (v : Nat) : (s.setObj o v).sb = s.sb := rfl
@[simp] theorem State.setObj_pk (s : State) (o : Obj) (v : Nat) : (s.setObj o v).pk = s.pk := rfl
@[simp] theorem State.setObj_cls (s : State) (o : Obj) (v : Nat) : (s.setObj o v).cls = s.cls := rfl
@[simp] theorem State.setObj_stk (s : State) (o : Obj) (v : Nat) : (s.setObj o v).stk = s.stk := rfl
@[simp] theorem State.setObj_arr (s : State) (o : Obj) (v : Nat) : (s.setObj o v).arr = s.arr := rfl
@[simp] theorem State.setObj_eng (s : State) (o : Obj) (v : Nat) : (s.setObj o v).eng = s.eng := rfl
@[simp] theorem State.setObj_cal (s : State) (o : Obj) (v : Nat) : (s.setObj o v).cal = s.cal := rfl
@[simp] theorem State.setObj_scr (s : State) (o : Obj) (v : Nat) : (s.setObj o v).scr = s.scr := rfl
@[simp] theorem State.setObj_mgt (s : State) (o : Obj) (v : Nat) : (s.setObj o v).mgt = s.mgt := rfl
@[simp] theorem State.setObj_pwr (s : State) (o : Obj) (v : Nat) : (s.setObj o v).pwr = s.pwr := rfl
@[simp] theorem State.setObj_free (s : State) (o : Obj) (v : Nat) : (s.setObj o v).free = s.free := rfl
@[simp] theorem State.setObj_outbox (s : State) (o : Obj) (v : Nat) : (s.setObj o v).outbox = s.outbox := rfl

/-! ### setFld -/

@[simp] theorem State.setFld_pending (s : State) (o : Obj) (hi lo v : Nat) : (s.setFld o hi lo v).pending = s.pending := rfl
@[simp] theorem State.setFld_aon (s : State) (o : Obj) (hi lo v : Nat) : (s.setFld o hi lo v).aon = s.aon := rfl
@[simp] theorem State.setFld_sp (s : State) (o : Obj) (hi lo v : Nat) : (s.setFld o hi lo v).sp = s.sp := rfl
@[simp] theorem State.setFld_rl (s : State) (o : Obj) (hi lo v : Nat) : (s.setFld o hi lo v).rl = s.rl := rfl
@[simp] theorem State.setFld_tx (s : State) (o : Obj) (hi lo v : Nat) : (s.setFld o hi lo v).tx = s.tx := rfl
@[simp] theorem State.setFld_rx (s : State) (o : Obj) (hi lo v : Nat) : (s.setFld o hi lo v).rx = s.rx := rfl
@[simp] theorem State.setFld_crossings (s : State) (o : Obj) (hi lo v : Nat) : (s.setFld o hi lo v).crossings = s.crossings := rfl
@[simp] theorem State.setFld_lanes (s : State) (o : Obj) (hi lo v : Nat) : (s.setFld o hi lo v).lanes = s.lanes := rfl
@[simp] theorem State.setFld_trn (s : State) (o : Obj) (hi lo v : Nat) : (s.setFld o hi lo v).trn = s.trn := rfl
@[simp] theorem State.setFld_lat (s : State) (o : Obj) (hi lo v : Nat) : (s.setFld o hi lo v).lat = s.lat := rfl
@[simp] theorem State.setFld_sb (s : State) (o : Obj) (hi lo v : Nat) : (s.setFld o hi lo v).sb = s.sb := rfl
@[simp] theorem State.setFld_pk (s : State) (o : Obj) (hi lo v : Nat) : (s.setFld o hi lo v).pk = s.pk := rfl
@[simp] theorem State.setFld_cls (s : State) (o : Obj) (hi lo v : Nat) : (s.setFld o hi lo v).cls = s.cls := rfl
@[simp] theorem State.setFld_stk (s : State) (o : Obj) (hi lo v : Nat) : (s.setFld o hi lo v).stk = s.stk := rfl
@[simp] theorem State.setFld_arr (s : State) (o : Obj) (hi lo v : Nat) : (s.setFld o hi lo v).arr = s.arr := rfl
@[simp] theorem State.setFld_eng (s : State) (o : Obj) (hi lo v : Nat) : (s.setFld o hi lo v).eng = s.eng := rfl
@[simp] theorem State.setFld_cal (s : State) (o : Obj) (hi lo v : Nat) : (s.setFld o hi lo v).cal = s.cal := rfl
@[simp] theorem State.setFld_scr (s : State) (o : Obj) (hi lo v : Nat) : (s.setFld o hi lo v).scr = s.scr := rfl
@[simp] theorem State.setFld_mgt (s : State) (o : Obj) (hi lo v : Nat) : (s.setFld o hi lo v).mgt = s.mgt := rfl
@[simp] theorem State.setFld_pwr (s : State) (o : Obj) (hi lo v : Nat) : (s.setFld o hi lo v).pwr = s.pwr := rfl
@[simp] theorem State.setFld_free (s : State) (o : Obj) (hi lo v : Nat) : (s.setFld o hi lo v).free = s.free := rfl
@[simp] theorem State.setFld_outbox (s : State) (o : Obj) (hi lo v : Nat) : (s.setFld o hi lo v).outbox = s.outbox := rfl

/-! ### countAt -/

@[simp] theorem State.countAt_pending (s : State) (o : Obj) (e n : Nat) : (s.countAt o e n).pending = s.pending := by unfold State.countAt; dsimp only; split <;> rfl
@[simp] theorem State.countAt_aon (s : State) (o : Obj) (e n : Nat) : (s.countAt o e n).aon = s.aon := by unfold State.countAt; dsimp only; split <;> rfl
@[simp] theorem State.countAt_sp (s : State) (o : Obj) (e n : Nat) : (s.countAt o e n).sp = s.sp := by unfold State.countAt; dsimp only; split <;> rfl
@[simp] theorem State.countAt_rl (s : State) (o : Obj) (e n : Nat) : (s.countAt o e n).rl = s.rl := by unfold State.countAt; dsimp only; split <;> rfl
@[simp] theorem State.countAt_tx (s : State) (o : Obj) (e n : Nat) : (s.countAt o e n).tx = s.tx := by unfold State.countAt; dsimp only; split <;> rfl
@[simp] theorem State.countAt_rx (s : State) (o : Obj) (e n : Nat) : (s.countAt o e n).rx = s.rx := by unfold State.countAt; dsimp only; split <;> rfl
@[simp] theorem State.countAt_crossings (s : State) (o : Obj) (e n : Nat) : (s.countAt o e n).crossings = s.crossings := by unfold State.countAt; dsimp only; split <;> rfl
@[simp] theorem State.countAt_lanes (s : State) (o : Obj) (e n : Nat) : (s.countAt o e n).lanes = s.lanes := by unfold State.countAt; dsimp only; split <;> rfl
@[simp] theorem State.countAt_trn (s : State) (o : Obj) (e n : Nat) : (s.countAt o e n).trn = s.trn := by unfold State.countAt; dsimp only; split <;> rfl
@[simp] theorem State.countAt_lat (s : State) (o : Obj) (e n : Nat) : (s.countAt o e n).lat = s.lat := by unfold State.countAt; dsimp only; split <;> rfl
@[simp] theorem State.countAt_sb (s : State) (o : Obj) (e n : Nat) : (s.countAt o e n).sb = s.sb := by unfold State.countAt; dsimp only; split <;> rfl
@[simp] theorem State.countAt_pk (s : State) (o : Obj) (e n : Nat) : (s.countAt o e n).pk = s.pk := by unfold State.countAt; dsimp only; split <;> rfl
@[simp] theorem State.countAt_cls (s : State) (o : Obj) (e n : Nat) : (s.countAt o e n).cls = s.cls := by unfold State.countAt; dsimp only; split <;> rfl
@[simp] theorem State.countAt_stk (s : State) (o : Obj) (e n : Nat) : (s.countAt o e n).stk = s.stk := by unfold State.countAt; dsimp only; split <;> rfl
@[simp] theorem State.countAt_arr (s : State) (o : Obj) (e n : Nat) : (s.countAt o e n).arr = s.arr := by unfold State.countAt; dsimp only; split <;> rfl
@[simp] theorem State.countAt_eng (s : State) (o : Obj) (e n : Nat) : (s.countAt o e n).eng = s.eng := by unfold State.countAt; dsimp only; split <;> rfl
@[simp] theorem State.countAt_cal (s : State) (o : Obj) (e n : Nat) : (s.countAt o e n).cal = s.cal := by unfold State.countAt; dsimp only; split <;> rfl
@[simp] theorem State.countAt_scr (s : State) (o : Obj) (e n : Nat) : (s.countAt o e n).scr = s.scr := by unfold State.countAt; dsimp only; split <;> rfl
@[simp] theorem State.countAt_mgt (s : State) (o : Obj) (e n : Nat) : (s.countAt o e n).mgt = s.mgt := by unfold State.countAt; dsimp only; split <;> rfl
@[simp] theorem State.countAt_pwr (s : State) (o : Obj) (e n : Nat) : (s.countAt o e n).pwr = s.pwr := by unfold State.countAt; dsimp only; split <;> rfl
@[simp] theorem State.countAt_free (s : State) (o : Obj) (e n : Nat) : (s.countAt o e n).free = s.free := by unfold State.countAt; dsimp only; split <;> rfl
@[simp] theorem State.countAt_outbox (s : State) (o : Obj) (e n : Nat) : (s.countAt o e n).outbox = s.outbox := by unfold State.countAt; dsimp only; split <;> rfl

/-! ### count -/

@[simp] theorem State.count_pending (s : State) (o : Obj) (n : Nat) : (s.count o n).pending = s.pending := by simp [State.count]
@[simp] theorem State.count_aon (s : State) (o : Obj) (n : Nat) : (s.count o n).aon = s.aon := by simp [State.count]
@[simp] theorem State.count_sp (s : State) (o : Obj) (n : Nat) : (s.count o n).sp = s.sp := by simp [State.count]
@[simp] theorem State.count_rl (s : State) (o : Obj) (n : Nat) : (s.count o n).rl = s.rl := by simp [State.count]
@[simp] theorem State.count_tx (s : State) (o : Obj) (n : Nat) : (s.count o n).tx = s.tx := by simp [State.count]
@[simp] theorem State.count_rx (s : State) (o : Obj) (n : Nat) : (s.count o n).rx = s.rx := by simp [State.count]
@[simp] theorem State.count_crossings (s : State) (o : Obj) (n : Nat) : (s.count o n).crossings = s.crossings := by simp [State.count]
@[simp] theorem State.count_lanes (s : State) (o : Obj) (n : Nat) : (s.count o n).lanes = s.lanes := by simp [State.count]
@[simp] theorem State.count_trn (s : State) (o : Obj) (n : Nat) : (s.count o n).trn = s.trn := by simp [State.count]
@[simp] theorem State.count_lat (s : State) (o : Obj) (n : Nat) : (s.count o n).lat = s.lat := by simp [State.count]
@[simp] theorem State.count_sb (s : State) (o : Obj) (n : Nat) : (s.count o n).sb = s.sb := by simp [State.count]
@[simp] theorem State.count_pk (s : State) (o : Obj) (n : Nat) : (s.count o n).pk = s.pk := by simp [State.count]
@[simp] theorem State.count_cls (s : State) (o : Obj) (n : Nat) : (s.count o n).cls = s.cls := by simp [State.count]
@[simp] theorem State.count_stk (s : State) (o : Obj) (n : Nat) : (s.count o n).stk = s.stk := by simp [State.count]
@[simp] theorem State.count_arr (s : State) (o : Obj) (n : Nat) : (s.count o n).arr = s.arr := by simp [State.count]
@[simp] theorem State.count_eng (s : State) (o : Obj) (n : Nat) : (s.count o n).eng = s.eng := by simp [State.count]
@[simp] theorem State.count_cal (s : State) (o : Obj) (n : Nat) : (s.count o n).cal = s.cal := by simp [State.count]
@[simp] theorem State.count_scr (s : State) (o : Obj) (n : Nat) : (s.count o n).scr = s.scr := by simp [State.count]
@[simp] theorem State.count_mgt (s : State) (o : Obj) (n : Nat) : (s.count o n).mgt = s.mgt := by simp [State.count]
@[simp] theorem State.count_pwr (s : State) (o : Obj) (n : Nat) : (s.count o n).pwr = s.pwr := by simp [State.count]
@[simp] theorem State.count_free (s : State) (o : Obj) (n : Nat) : (s.count o n).free = s.free := by simp [State.count]
@[simp] theorem State.count_outbox (s : State) (o : Obj) (n : Nat) : (s.count o n).outbox = s.outbox := by simp [State.count]

/-! ### countWrap -/

@[simp] theorem State.countWrap_pending (s : State) (o : Obj) (e n : Nat) : (s.countWrap o e n).pending = s.pending := rfl
@[simp] theorem State.countWrap_aon (s : State) (o : Obj) (e n : Nat) : (s.countWrap o e n).aon = s.aon := rfl
@[simp] theorem State.countWrap_sp (s : State) (o : Obj) (e n : Nat) : (s.countWrap o e n).sp = s.sp := rfl
@[simp] theorem State.countWrap_rl (s : State) (o : Obj) (e n : Nat) : (s.countWrap o e n).rl = s.rl := rfl
@[simp] theorem State.countWrap_tx (s : State) (o : Obj) (e n : Nat) : (s.countWrap o e n).tx = s.tx := rfl
@[simp] theorem State.countWrap_rx (s : State) (o : Obj) (e n : Nat) : (s.countWrap o e n).rx = s.rx := rfl
@[simp] theorem State.countWrap_crossings (s : State) (o : Obj) (e n : Nat) : (s.countWrap o e n).crossings = s.crossings := rfl
@[simp] theorem State.countWrap_lanes (s : State) (o : Obj) (e n : Nat) : (s.countWrap o e n).lanes = s.lanes := rfl
@[simp] theorem State.countWrap_trn (s : State) (o : Obj) (e n : Nat) : (s.countWrap o e n).trn = s.trn := rfl
@[simp] theorem State.countWrap_lat (s : State) (o : Obj) (e n : Nat) : (s.countWrap o e n).lat = s.lat := rfl
@[simp] theorem State.countWrap_sb (s : State) (o : Obj) (e n : Nat) : (s.countWrap o e n).sb = s.sb := rfl
@[simp] theorem State.countWrap_pk (s : State) (o : Obj) (e n : Nat) : (s.countWrap o e n).pk = s.pk := rfl
@[simp] theorem State.countWrap_cls (s : State) (o : Obj) (e n : Nat) : (s.countWrap o e n).cls = s.cls := rfl
@[simp] theorem State.countWrap_stk (s : State) (o : Obj) (e n : Nat) : (s.countWrap o e n).stk = s.stk := rfl
@[simp] theorem State.countWrap_arr (s : State) (o : Obj) (e n : Nat) : (s.countWrap o e n).arr = s.arr := rfl
@[simp] theorem State.countWrap_eng (s : State) (o : Obj) (e n : Nat) : (s.countWrap o e n).eng = s.eng := rfl
@[simp] theorem State.countWrap_cal (s : State) (o : Obj) (e n : Nat) : (s.countWrap o e n).cal = s.cal := rfl
@[simp] theorem State.countWrap_scr (s : State) (o : Obj) (e n : Nat) : (s.countWrap o e n).scr = s.scr := rfl
@[simp] theorem State.countWrap_mgt (s : State) (o : Obj) (e n : Nat) : (s.countWrap o e n).mgt = s.mgt := rfl
@[simp] theorem State.countWrap_pwr (s : State) (o : Obj) (e n : Nat) : (s.countWrap o e n).pwr = s.pwr := rfl
@[simp] theorem State.countWrap_free (s : State) (o : Obj) (e n : Nat) : (s.countWrap o e n).free = s.free := rfl
@[simp] theorem State.countWrap_outbox (s : State) (o : Obj) (e n : Nat) : (s.countWrap o e n).outbox = s.outbox := rfl

/-! ### clearObj -/

@[simp] theorem State.clearObj_pending (s : State) (o : Obj) : (s.clearObj o).pending = s.pending := rfl
@[simp] theorem State.clearObj_aon (s : State) (o : Obj) : (s.clearObj o).aon = s.aon := rfl
@[simp] theorem State.clearObj_sp (s : State) (o : Obj) : (s.clearObj o).sp = s.sp := rfl
@[simp] theorem State.clearObj_rl (s : State) (o : Obj) : (s.clearObj o).rl = s.rl := rfl
@[simp] theorem State.clearObj_tx (s : State) (o : Obj) : (s.clearObj o).tx = s.tx := rfl
@[simp] theorem State.clearObj_rx (s : State) (o : Obj) : (s.clearObj o).rx = s.rx := rfl
@[simp] theorem State.clearObj_crossings (s : State) (o : Obj) : (s.clearObj o).crossings = s.crossings := rfl
@[simp] theorem State.clearObj_lanes (s : State) (o : Obj) : (s.clearObj o).lanes = s.lanes := rfl
@[simp] theorem State.clearObj_trn (s : State) (o : Obj) : (s.clearObj o).trn = s.trn := rfl
@[simp] theorem State.clearObj_lat (s : State) (o : Obj) : (s.clearObj o).lat = s.lat := rfl
@[simp] theorem State.clearObj_sb (s : State) (o : Obj) : (s.clearObj o).sb = s.sb := rfl
@[simp] theorem State.clearObj_pk (s : State) (o : Obj) : (s.clearObj o).pk = s.pk := rfl
@[simp] theorem State.clearObj_cls (s : State) (o : Obj) : (s.clearObj o).cls = s.cls := rfl
@[simp] theorem State.clearObj_stk (s : State) (o : Obj) : (s.clearObj o).stk = s.stk := rfl
@[simp] theorem State.clearObj_arr (s : State) (o : Obj) : (s.clearObj o).arr = s.arr := rfl
@[simp] theorem State.clearObj_eng (s : State) (o : Obj) : (s.clearObj o).eng = s.eng := rfl
@[simp] theorem State.clearObj_cal (s : State) (o : Obj) : (s.clearObj o).cal = s.cal := rfl
@[simp] theorem State.clearObj_scr (s : State) (o : Obj) : (s.clearObj o).scr = s.scr := rfl
@[simp] theorem State.clearObj_mgt (s : State) (o : Obj) : (s.clearObj o).mgt = s.mgt := rfl
@[simp] theorem State.clearObj_pwr (s : State) (o : Obj) : (s.clearObj o).pwr = s.pwr := rfl
@[simp] theorem State.clearObj_free (s : State) (o : Obj) : (s.clearObj o).free = s.free := rfl
@[simp] theorem State.clearObj_outbox (s : State) (o : Obj) : (s.clearObj o).outbox = s.outbox := rfl

/-! ### setLanes72 -/

@[simp] theorem State.setLanes72_pending (s : State) (o : Obj) (m : Nat) : (s.setLanes72 o m).pending = s.pending := rfl
@[simp] theorem State.setLanes72_aon (s : State) (o : Obj) (m : Nat) : (s.setLanes72 o m).aon = s.aon := rfl
@[simp] theorem State.setLanes72_sp (s : State) (o : Obj) (m : Nat) : (s.setLanes72 o m).sp = s.sp := rfl
@[simp] theorem State.setLanes72_rl (s : State) (o : Obj) (m : Nat) : (s.setLanes72 o m).rl = s.rl := rfl
@[simp] theorem State.setLanes72_tx (s : State) (o : Obj) (m : Nat) : (s.setLanes72 o m).tx = s.tx := rfl
@[simp] theorem State.setLanes72_rx (s : State) (o : Obj) (m : Nat) : (s.setLanes72 o m).rx = s.rx := rfl
@[simp] theorem State.setLanes72_crossings (s : State) (o : Obj) (m : Nat) : (s.setLanes72 o m).crossings = s.crossings := rfl
@[simp] theorem State.setLanes72_lanes (s : State) (o : Obj) (m : Nat) : (s.setLanes72 o m).lanes = s.lanes := rfl
@[simp] theorem State.setLanes72_trn (s : State) (o : Obj) (m : Nat) : (s.setLanes72 o m).trn = s.trn := rfl
@[simp] theorem State.setLanes72_lat (s : State) (o : Obj) (m : Nat) : (s.setLanes72 o m).lat = s.lat := rfl
@[simp] theorem State.setLanes72_sb (s : State) (o : Obj) (m : Nat) : (s.setLanes72 o m).sb = s.sb := rfl
@[simp] theorem State.setLanes72_pk (s : State) (o : Obj) (m : Nat) : (s.setLanes72 o m).pk = s.pk := rfl
@[simp] theorem State.setLanes72_cls (s : State) (o : Obj) (m : Nat) : (s.setLanes72 o m).cls = s.cls := rfl
@[simp] theorem State.setLanes72_stk (s : State) (o : Obj) (m : Nat) : (s.setLanes72 o m).stk = s.stk := rfl
@[simp] theorem State.setLanes72_arr (s : State) (o : Obj) (m : Nat) : (s.setLanes72 o m).arr = s.arr := rfl
@[simp] theorem State.setLanes72_eng (s : State) (o : Obj) (m : Nat) : (s.setLanes72 o m).eng = s.eng := rfl
@[simp] theorem State.setLanes72_cal (s : State) (o : Obj) (m : Nat) : (s.setLanes72 o m).cal = s.cal := rfl
@[simp] theorem State.setLanes72_scr (s : State) (o : Obj) (m : Nat) : (s.setLanes72 o m).scr = s.scr := rfl
@[simp] theorem State.setLanes72_mgt (s : State) (o : Obj) (m : Nat) : (s.setLanes72 o m).mgt = s.mgt := rfl
@[simp] theorem State.setLanes72_pwr (s : State) (o : Obj) (m : Nat) : (s.setLanes72 o m).pwr = s.pwr := rfl
@[simp] theorem State.setLanes72_free (s : State) (o : Obj) (m : Nat) : (s.setLanes72 o m).free = s.free := rfl
@[simp] theorem State.setLanes72_outbox (s : State) (o : Obj) (m : Nat) : (s.setLanes72 o m).outbox = s.outbox := rfl

/-! ### switchDom -/

@[simp] theorem State.switchDom_pending (s : State) (d : Nat) (on : Bool) : (s.switchDom d on).pending = s.pending := rfl
@[simp] theorem State.switchDom_aon (s : State) (d : Nat) (on : Bool) : (s.switchDom d on).aon = s.aon := rfl
@[simp] theorem State.switchDom_dict (s : State) (d : Nat) (on : Bool) : (s.switchDom d on).dict = s.dict := rfl
@[simp] theorem State.switchDom_sp (s : State) (d : Nat) (on : Bool) : (s.switchDom d on).sp = s.sp := rfl
@[simp] theorem State.switchDom_rl (s : State) (d : Nat) (on : Bool) : (s.switchDom d on).rl = s.rl := rfl
@[simp] theorem State.switchDom_tx (s : State) (d : Nat) (on : Bool) : (s.switchDom d on).tx = s.tx := rfl
@[simp] theorem State.switchDom_rx (s : State) (d : Nat) (on : Bool) : (s.switchDom d on).rx = s.rx := rfl
@[simp] theorem State.switchDom_crossings (s : State) (d : Nat) (on : Bool) : (s.switchDom d on).crossings = s.crossings := rfl
@[simp] theorem State.switchDom_lanes (s : State) (d : Nat) (on : Bool) : (s.switchDom d on).lanes = s.lanes := rfl
@[simp] theorem State.switchDom_trn (s : State) (d : Nat) (on : Bool) : (s.switchDom d on).trn = s.trn := rfl
@[simp] theorem State.switchDom_lat (s : State) (d : Nat) (on : Bool) : (s.switchDom d on).lat = s.lat := rfl
@[simp] theorem State.switchDom_sb (s : State) (d : Nat) (on : Bool) : (s.switchDom d on).sb = s.sb := rfl
@[simp] theorem State.switchDom_pk (s : State) (d : Nat) (on : Bool) : (s.switchDom d on).pk = s.pk := rfl
@[simp] theorem State.switchDom_cls (s : State) (d : Nat) (on : Bool) : (s.switchDom d on).cls = s.cls := rfl
@[simp] theorem State.switchDom_stk (s : State) (d : Nat) (on : Bool) : (s.switchDom d on).stk = s.stk := rfl
@[simp] theorem State.switchDom_arr (s : State) (d : Nat) (on : Bool) : (s.switchDom d on).arr = s.arr := rfl
@[simp] theorem State.switchDom_eng (s : State) (d : Nat) (on : Bool) : (s.switchDom d on).eng = s.eng := rfl
@[simp] theorem State.switchDom_cal (s : State) (d : Nat) (on : Bool) : (s.switchDom d on).cal = s.cal := rfl
@[simp] theorem State.switchDom_scr (s : State) (d : Nat) (on : Bool) : (s.switchDom d on).scr = s.scr := rfl
@[simp] theorem State.switchDom_mgt (s : State) (d : Nat) (on : Bool) : (s.switchDom d on).mgt = s.mgt := rfl
@[simp] theorem State.switchDom_free (s : State) (d : Nat) (on : Bool) : (s.switchDom d on).free = s.free := rfl
@[simp] theorem State.switchDom_outbox (s : State) (d : Nat) (on : Bool) : (s.switchDom d on).outbox = s.outbox := rfl

/-! ### digestChange -/

@[simp] theorem State.digestChange_pending (s : State) : (s.digestChange).pending = s.pending := by simp [State.digestChange]
@[simp] theorem State.digestChange_aon (s : State) : (s.digestChange).aon = s.aon := by simp [State.digestChange]
@[simp] theorem State.digestChange_sp (s : State) : (s.digestChange).sp = s.sp := by simp [State.digestChange]
@[simp] theorem State.digestChange_rl (s : State) : (s.digestChange).rl = s.rl := by simp [State.digestChange]
@[simp] theorem State.digestChange_tx (s : State) : (s.digestChange).tx = s.tx := by simp [State.digestChange]
@[simp] theorem State.digestChange_rx (s : State) : (s.digestChange).rx = s.rx := by simp [State.digestChange]
@[simp] theorem State.digestChange_crossings (s : State) : (s.digestChange).crossings = s.crossings := by simp [State.digestChange]
@[simp] theorem State.digestChange_lanes (s : State) : (s.digestChange).lanes = s.lanes := by simp [State.digestChange]
@[simp] theorem State.digestChange_trn (s : State) : (s.digestChange).trn = s.trn := by simp [State.digestChange]
@[simp] theorem State.digestChange_lat (s : State) : (s.digestChange).lat = s.lat := by simp [State.digestChange]
@[simp] theorem State.digestChange_sb (s : State) : (s.digestChange).sb = s.sb := by simp [State.digestChange]
@[simp] theorem State.digestChange_pk (s : State) : (s.digestChange).pk = s.pk := by simp [State.digestChange]
@[simp] theorem State.digestChange_cls (s : State) : (s.digestChange).cls = s.cls := by simp [State.digestChange]
@[simp] theorem State.digestChange_stk (s : State) : (s.digestChange).stk = s.stk := by simp [State.digestChange]
@[simp] theorem State.digestChange_arr (s : State) : (s.digestChange).arr = s.arr := by simp [State.digestChange]
@[simp] theorem State.digestChange_eng (s : State) : (s.digestChange).eng = s.eng := by simp [State.digestChange]
@[simp] theorem State.digestChange_cal (s : State) : (s.digestChange).cal = s.cal := by simp [State.digestChange]
@[simp] theorem State.digestChange_scr (s : State) : (s.digestChange).scr = s.scr := by simp [State.digestChange]
@[simp] theorem State.digestChange_mgt (s : State) : (s.digestChange).mgt = s.mgt := by simp [State.digestChange]
@[simp] theorem State.digestChange_pwr (s : State) : (s.digestChange).pwr = s.pwr := by simp [State.digestChange]
@[simp] theorem State.digestChange_free (s : State) : (s.digestChange).free = s.free := by simp [State.digestChange]
@[simp] theorem State.digestChange_outbox (s : State) : (s.digestChange).outbox = s.outbox := by simp [State.digestChange]

/-! ### faultRecord -/

@[simp] theorem State.faultRecord_pending (s : State) (i j c d : Nat) : (s.faultRecord i j c d).pending = s.pending := by simp [State.faultRecord]
@[simp] theorem State.faultRecord_aon (s : State) (i j c d : Nat) : (s.faultRecord i j c d).aon = s.aon := by simp [State.faultRecord]
@[simp] theorem State.faultRecord_sp (s : State) (i j c d : Nat) : (s.faultRecord i j c d).sp = s.sp := by simp [State.faultRecord]
@[simp] theorem State.faultRecord_rl (s : State) (i j c d : Nat) : (s.faultRecord i j c d).rl = s.rl := by simp [State.faultRecord]
@[simp] theorem State.faultRecord_tx (s : State) (i j c d : Nat) : (s.faultRecord i j c d).tx = s.tx := by simp [State.faultRecord]
@[simp] theorem State.faultRecord_rx (s : State) (i j c d : Nat) : (s.faultRecord i j c d).rx = s.rx := by simp [State.faultRecord]
@[simp] theorem State.faultRecord_crossings (s : State) (i j c d : Nat) : (s.faultRecord i j c d).crossings = s.crossings := by simp [State.faultRecord]
@[simp] theorem State.faultRecord_lanes (s : State) (i j c d : Nat) : (s.faultRecord i j c d).lanes = s.lanes := by simp [State.faultRecord]
@[simp] theorem State.faultRecord_trn (s : State) (i j c d : Nat) : (s.faultRecord i j c d).trn = s.trn := by simp [State.faultRecord]
@[simp] theorem State.faultRecord_lat (s : State) (i j c d : Nat) : (s.faultRecord i j c d).lat = s.lat := by simp [State.faultRecord]
@[simp] theorem State.faultRecord_sb (s : State) (i j c d : Nat) : (s.faultRecord i j c d).sb = s.sb := by simp [State.faultRecord]
@[simp] theorem State.faultRecord_pk (s : State) (i j c d : Nat) : (s.faultRecord i j c d).pk = s.pk := by simp [State.faultRecord]
@[simp] theorem State.faultRecord_cls (s : State) (i j c d : Nat) : (s.faultRecord i j c d).cls = s.cls := by simp [State.faultRecord]
@[simp] theorem State.faultRecord_stk (s : State) (i j c d : Nat) : (s.faultRecord i j c d).stk = s.stk := by simp [State.faultRecord]
@[simp] theorem State.faultRecord_arr (s : State) (i j c d : Nat) : (s.faultRecord i j c d).arr = s.arr := by simp [State.faultRecord]
@[simp] theorem State.faultRecord_eng (s : State) (i j c d : Nat) : (s.faultRecord i j c d).eng = s.eng := by simp [State.faultRecord]
@[simp] theorem State.faultRecord_cal (s : State) (i j c d : Nat) : (s.faultRecord i j c d).cal = s.cal := by simp [State.faultRecord]
@[simp] theorem State.faultRecord_scr (s : State) (i j c d : Nat) : (s.faultRecord i j c d).scr = s.scr := by simp [State.faultRecord]
@[simp] theorem State.faultRecord_mgt (s : State) (i j c d : Nat) : (s.faultRecord i j c d).mgt = s.mgt := by simp [State.faultRecord]
@[simp] theorem State.faultRecord_pwr (s : State) (i j c d : Nat) : (s.faultRecord i j c d).pwr = s.pwr := by simp [State.faultRecord]
@[simp] theorem State.faultRecord_free (s : State) (i j c d : Nat) : (s.faultRecord i j c d).free = s.free := by simp [State.faultRecord]
@[simp] theorem State.faultRecord_outbox (s : State) (i j c d : Nat) : (s.faultRecord i j c d).outbox = s.outbox := by simp [State.faultRecord]

/-! ### emitHop -/

@[simp] theorem State.emitHop_pending (s : State) (m : List Byte) : (s.emitHop m).pending = s.pending := by simp [State.emitHop]
@[simp] theorem State.emitHop_aon (s : State) (m : List Byte) : (s.emitHop m).aon = s.aon := by simp [State.emitHop]
@[simp] theorem State.emitHop_dict (s : State) (m : List Byte) : (s.emitHop m).dict = s.dict := by simp [State.emitHop]
@[simp] theorem State.emitHop_sp (s : State) (m : List Byte) : (s.emitHop m).sp = s.sp := by simp [State.emitHop]
@[simp] theorem State.emitHop_rl (s : State) (m : List Byte) : (s.emitHop m).rl = s.rl := by simp [State.emitHop]
@[simp] theorem State.emitHop_tx (s : State) (m : List Byte) : (s.emitHop m).tx = s.tx := by simp [State.emitHop]
@[simp] theorem State.emitHop_rx (s : State) (m : List Byte) : (s.emitHop m).rx = s.rx := by simp [State.emitHop]
@[simp] theorem State.emitHop_crossings (s : State) (m : List Byte) : (s.emitHop m).crossings = s.crossings := by simp [State.emitHop]
@[simp] theorem State.emitHop_lanes (s : State) (m : List Byte) : (s.emitHop m).lanes = s.lanes := by simp [State.emitHop]
@[simp] theorem State.emitHop_trn (s : State) (m : List Byte) : (s.emitHop m).trn = s.trn := by simp [State.emitHop]
@[simp] theorem State.emitHop_lat (s : State) (m : List Byte) : (s.emitHop m).lat = s.lat := by simp [State.emitHop]
@[simp] theorem State.emitHop_sb (s : State) (m : List Byte) : (s.emitHop m).sb = s.sb := by simp [State.emitHop]
@[simp] theorem State.emitHop_pk (s : State) (m : List Byte) : (s.emitHop m).pk = s.pk := by simp [State.emitHop]
@[simp] theorem State.emitHop_cls (s : State) (m : List Byte) : (s.emitHop m).cls = s.cls := by simp [State.emitHop]
@[simp] theorem State.emitHop_stk (s : State) (m : List Byte) : (s.emitHop m).stk = s.stk := by simp [State.emitHop]
@[simp] theorem State.emitHop_arr (s : State) (m : List Byte) : (s.emitHop m).arr = s.arr := by simp [State.emitHop]
@[simp] theorem State.emitHop_eng (s : State) (m : List Byte) : (s.emitHop m).eng = s.eng := by simp [State.emitHop]
@[simp] theorem State.emitHop_cal (s : State) (m : List Byte) : (s.emitHop m).cal = s.cal := by simp [State.emitHop]
@[simp] theorem State.emitHop_scr (s : State) (m : List Byte) : (s.emitHop m).scr = s.scr := by simp [State.emitHop]
@[simp] theorem State.emitHop_mgt (s : State) (m : List Byte) : (s.emitHop m).mgt = s.mgt := by simp [State.emitHop]
@[simp] theorem State.emitHop_pwr (s : State) (m : List Byte) : (s.emitHop m).pwr = s.pwr := by simp [State.emitHop]
@[simp] theorem State.emitHop_free (s : State) (m : List Byte) : (s.emitHop m).free = s.free := by simp [State.emitHop]

/-! ### sendRecord -/

@[simp] theorem State.sendRecord_pending (s : State) (n : Nat) : (s.sendRecord n).pending = s.pending := by
  unfold State.sendRecord
  split
  · rfl
  · dsimp only
    split <;> simp
@[simp] theorem State.sendRecord_aon (s : State) (n : Nat) : (s.sendRecord n).aon = s.aon := by
  unfold State.sendRecord
  split
  · rfl
  · dsimp only
    split <;> simp
@[simp] theorem State.sendRecord_dict (s : State) (n : Nat) : (s.sendRecord n).dict = s.dict := by
  unfold State.sendRecord
  split
  · rfl
  · dsimp only
    split <;> simp
@[simp] theorem State.sendRecord_sp (s : State) (n : Nat) : (s.sendRecord n).sp = s.sp := by
  unfold State.sendRecord
  split
  · rfl
  · dsimp only
    split <;> simp
@[simp] theorem State.sendRecord_rl (s : State) (n : Nat) : (s.sendRecord n).rl = s.rl := by
  unfold State.sendRecord
  split
  · rfl
  · dsimp only
    split <;> simp
@[simp] theorem State.sendRecord_tx (s : State) (n : Nat) : (s.sendRecord n).tx = s.tx := by
  unfold State.sendRecord
  split
  · rfl
  · dsimp only
    split <;> simp
@[simp] theorem State.sendRecord_rx (s : State) (n : Nat) : (s.sendRecord n).rx = s.rx := by
  unfold State.sendRecord
  split
  · rfl
  · dsimp only
    split <;> simp
@[simp] theorem State.sendRecord_crossings (s : State) (n : Nat) : (s.sendRecord n).crossings = s.crossings := by
  unfold State.sendRecord
  split
  · rfl
  · dsimp only
    split <;> simp
@[simp] theorem State.sendRecord_lanes (s : State) (n : Nat) : (s.sendRecord n).lanes = s.lanes := by
  unfold State.sendRecord
  split
  · rfl
  · dsimp only
    split <;> simp
@[simp] theorem State.sendRecord_trn (s : State) (n : Nat) : (s.sendRecord n).trn = s.trn := by
  unfold State.sendRecord
  split
  · rfl
  · dsimp only
    split <;> simp
@[simp] theorem State.sendRecord_lat (s : State) (n : Nat) : (s.sendRecord n).lat = s.lat := by
  unfold State.sendRecord
  split
  · rfl
  · dsimp only
    split <;> simp
@[simp] theorem State.sendRecord_sb (s : State) (n : Nat) : (s.sendRecord n).sb = s.sb := by
  unfold State.sendRecord
  split
  · rfl
  · dsimp only
    split <;> simp
@[simp] theorem State.sendRecord_pk (s : State) (n : Nat) : (s.sendRecord n).pk = s.pk := by
  unfold State.sendRecord
  split
  · rfl
  · dsimp only
    split <;> simp
@[simp] theorem State.sendRecord_cls (s : State) (n : Nat) : (s.sendRecord n).cls = s.cls := by
  unfold State.sendRecord
  split
  · rfl
  · dsimp only
    split <;> simp
@[simp] theorem State.sendRecord_stk (s : State) (n : Nat) : (s.sendRecord n).stk = s.stk := by
  unfold State.sendRecord
  split
  · rfl
  · dsimp only
    split <;> simp
@[simp] theorem State.sendRecord_arr (s : State) (n : Nat) : (s.sendRecord n).arr = s.arr := by
  unfold State.sendRecord
  split
  · rfl
  · dsimp only
    split <;> simp
@[simp] theorem State.sendRecord_eng (s : State) (n : Nat) : (s.sendRecord n).eng = s.eng := by
  unfold State.sendRecord
  split
  · rfl
  · dsimp only
    split <;> simp
@[simp] theorem State.sendRecord_cal (s : State) (n : Nat) : (s.sendRecord n).cal = s.cal := by
  unfold State.sendRecord
  split
  · rfl
  · dsimp only
    split <;> simp
@[simp] theorem State.sendRecord_scr (s : State) (n : Nat) : (s.sendRecord n).scr = s.scr := by
  unfold State.sendRecord
  split
  · rfl
  · dsimp only
    split <;> simp
@[simp] theorem State.sendRecord_pwr (s : State) (n : Nat) : (s.sendRecord n).pwr = s.pwr := by
  unfold State.sendRecord
  split
  · rfl
  · dsimp only
    split <;> simp
@[simp] theorem State.sendRecord_free (s : State) (n : Nat) : (s.sendRecord n).free = s.free := by
  unfold State.sendRecord
  split
  · rfl
  · dsimp only
    split <;> simp

/-! ### nextRecord -/

@[simp] theorem State.nextRecord_pending (s : State) : (s.nextRecord).pending = s.pending := by
  unfold State.nextRecord
  dsimp only
  repeat' split
  all_goals simp
@[simp] theorem State.nextRecord_aon (s : State) : (s.nextRecord).aon = s.aon := by
  unfold State.nextRecord
  dsimp only
  repeat' split
  all_goals simp
@[simp] theorem State.nextRecord_sp (s : State) : (s.nextRecord).sp = s.sp := by
  unfold State.nextRecord
  dsimp only
  repeat' split
  all_goals simp
@[simp] theorem State.nextRecord_rl (s : State) : (s.nextRecord).rl = s.rl := by
  unfold State.nextRecord
  dsimp only
  repeat' split
  all_goals simp
@[simp] theorem State.nextRecord_tx (s : State) : (s.nextRecord).tx = s.tx := by
  unfold State.nextRecord
  dsimp only
  repeat' split
  all_goals simp
@[simp] theorem State.nextRecord_rx (s : State) : (s.nextRecord).rx = s.rx := by
  unfold State.nextRecord
  dsimp only
  repeat' split
  all_goals simp
@[simp] theorem State.nextRecord_crossings (s : State) : (s.nextRecord).crossings = s.crossings := by
  unfold State.nextRecord
  dsimp only
  repeat' split
  all_goals simp
@[simp] theorem State.nextRecord_lanes (s : State) : (s.nextRecord).lanes = s.lanes := by
  unfold State.nextRecord
  dsimp only
  repeat' split
  all_goals simp
@[simp] theorem State.nextRecord_trn (s : State) : (s.nextRecord).trn = s.trn := by
  unfold State.nextRecord
  dsimp only
  repeat' split
  all_goals simp
@[simp] theorem State.nextRecord_lat (s : State) : (s.nextRecord).lat = s.lat := by
  unfold State.nextRecord
  dsimp only
  repeat' split
  all_goals simp
@[simp] theorem State.nextRecord_sb (s : State) : (s.nextRecord).sb = s.sb := by
  unfold State.nextRecord
  dsimp only
  repeat' split
  all_goals simp
@[simp] theorem State.nextRecord_pk (s : State) : (s.nextRecord).pk = s.pk := by
  unfold State.nextRecord
  dsimp only
  repeat' split
  all_goals simp
@[simp] theorem State.nextRecord_cls (s : State) : (s.nextRecord).cls = s.cls := by
  unfold State.nextRecord
  dsimp only
  repeat' split
  all_goals simp
@[simp] theorem State.nextRecord_stk (s : State) : (s.nextRecord).stk = s.stk := by
  unfold State.nextRecord
  dsimp only
  repeat' split
  all_goals simp
@[simp] theorem State.nextRecord_arr (s : State) : (s.nextRecord).arr = s.arr := by
  unfold State.nextRecord
  dsimp only
  repeat' split
  all_goals simp
@[simp] theorem State.nextRecord_eng (s : State) : (s.nextRecord).eng = s.eng := by
  unfold State.nextRecord
  dsimp only
  repeat' split
  all_goals simp
@[simp] theorem State.nextRecord_cal (s : State) : (s.nextRecord).cal = s.cal := by
  unfold State.nextRecord
  dsimp only
  repeat' split
  all_goals simp
@[simp] theorem State.nextRecord_scr (s : State) : (s.nextRecord).scr = s.scr := by
  unfold State.nextRecord
  dsimp only
  repeat' split
  all_goals simp
@[simp] theorem State.nextRecord_pwr (s : State) : (s.nextRecord).pwr = s.pwr := by
  unfold State.nextRecord
  dsimp only
  repeat' split
  all_goals simp
@[simp] theorem State.nextRecord_free (s : State) : (s.nextRecord).free = s.free := by
  unfold State.nextRecord
  dsimp only
  repeat' split
  all_goals simp

/-! ### queueEvent -/

@[simp] theorem State.queueEvent_pending (s : State) (r : EventRec) : (s.queueEvent r).pending = s.pending := by
  unfold State.queueEvent
  dsimp only
  repeat' split
  all_goals simp
@[simp] theorem State.queueEvent_aon (s : State) (r : EventRec) : (s.queueEvent r).aon = s.aon := by
  unfold State.queueEvent
  dsimp only
  repeat' split
  all_goals simp
@[simp] theorem State.queueEvent_sp (s : State) (r : EventRec) : (s.queueEvent r).sp = s.sp := by
  unfold State.queueEvent
  dsimp only
  repeat' split
  all_goals simp
@[simp] theorem State.queueEvent_rl (s : State) (r : EventRec) : (s.queueEvent r).rl = s.rl := by
  unfold State.queueEvent
  dsimp only
  repeat' split
  all_goals simp
@[simp] theorem State.queueEvent_tx (s : State) (r : EventRec) : (s.queueEvent r).tx = s.tx := by
  unfold State.queueEvent
  dsimp only
  repeat' split
  all_goals simp
@[simp] theorem State.queueEvent_rx (s : State) (r : EventRec) : (s.queueEvent r).rx = s.rx := by
  unfold State.queueEvent
  dsimp only
  repeat' split
  all_goals simp
@[simp] theorem State.queueEvent_crossings (s : State) (r : EventRec) : (s.queueEvent r).crossings = s.crossings := by
  unfold State.queueEvent
  dsimp only
  repeat' split
  all_goals simp
@[simp] theorem State.queueEvent_lanes (s : State) (r : EventRec) : (s.queueEvent r).lanes = s.lanes := by
  unfold State.queueEvent
  dsimp only
  repeat' split
  all_goals simp
@[simp] theorem State.queueEvent_trn (s : State) (r : EventRec) : (s.queueEvent r).trn = s.trn := by
  unfold State.queueEvent
  dsimp only
  repeat' split
  all_goals simp
@[simp] theorem State.queueEvent_lat (s : State) (r : EventRec) : (s.queueEvent r).lat = s.lat := by
  unfold State.queueEvent
  dsimp only
  repeat' split
  all_goals simp
@[simp] theorem State.queueEvent_sb (s : State) (r : EventRec) : (s.queueEvent r).sb = s.sb := by
  unfold State.queueEvent
  dsimp only
  repeat' split
  all_goals simp
@[simp] theorem State.queueEvent_pk (s : State) (r : EventRec) : (s.queueEvent r).pk = s.pk := by
  unfold State.queueEvent
  dsimp only
  repeat' split
  all_goals simp
@[simp] theorem State.queueEvent_cls (s : State) (r : EventRec) : (s.queueEvent r).cls = s.cls := by
  unfold State.queueEvent
  dsimp only
  repeat' split
  all_goals simp
@[simp] theorem State.queueEvent_stk (s : State) (r : EventRec) : (s.queueEvent r).stk = s.stk := by
  unfold State.queueEvent
  dsimp only
  repeat' split
  all_goals simp
@[simp] theorem State.queueEvent_arr (s : State) (r : EventRec) : (s.queueEvent r).arr = s.arr := by
  unfold State.queueEvent
  dsimp only
  repeat' split
  all_goals simp
@[simp] theorem State.queueEvent_eng (s : State) (r : EventRec) : (s.queueEvent r).eng = s.eng := by
  unfold State.queueEvent
  dsimp only
  repeat' split
  all_goals simp
@[simp] theorem State.queueEvent_cal (s : State) (r : EventRec) : (s.queueEvent r).cal = s.cal := by
  unfold State.queueEvent
  dsimp only
  repeat' split
  all_goals simp
@[simp] theorem State.queueEvent_scr (s : State) (r : EventRec) : (s.queueEvent r).scr = s.scr := by
  unfold State.queueEvent
  dsimp only
  repeat' split
  all_goals simp
@[simp] theorem State.queueEvent_pwr (s : State) (r : EventRec) : (s.queueEvent r).pwr = s.pwr := by
  unfold State.queueEvent
  dsimp only
  repeat' split
  all_goals simp
@[simp] theorem State.queueEvent_free (s : State) (r : EventRec) : (s.queueEvent r).free = s.free := by
  unfold State.queueEvent
  dsimp only
  repeat' split
  all_goals simp

/-! ### raise -/

@[simp] theorem State.raise_pending (s : State) (t v : Nat) (o : Option Obj) (p : List Byte) : (s.raise t v o p).pending = s.pending := by simp [State.raise]
@[simp] theorem State.raise_aon (s : State) (t v : Nat) (o : Option Obj) (p : List Byte) : (s.raise t v o p).aon = s.aon := by simp [State.raise]
@[simp] theorem State.raise_sp (s : State) (t v : Nat) (o : Option Obj) (p : List Byte) : (s.raise t v o p).sp = s.sp := by simp [State.raise]
@[simp] theorem State.raise_rl (s : State) (t v : Nat) (o : Option Obj) (p : List Byte) : (s.raise t v o p).rl = s.rl := by simp [State.raise]
@[simp] theorem State.raise_tx (s : State) (t v : Nat) (o : Option Obj) (p : List Byte) : (s.raise t v o p).tx = s.tx := by simp [State.raise]
@[simp] theorem State.raise_rx (s : State) (t v : Nat) (o : Option Obj) (p : List Byte) : (s.raise t v o p).rx = s.rx := by simp [State.raise]
@[simp] theorem State.raise_crossings (s : State) (t v : Nat) (o : Option Obj) (p : List Byte) : (s.raise t v o p).crossings = s.crossings := by simp [State.raise]
@[simp] theorem State.raise_lanes (s : State) (t v : Nat) (o : Option Obj) (p : List Byte) : (s.raise t v o p).lanes = s.lanes := by simp [State.raise]
@[simp] theorem State.raise_trn (s : State) (t v : Nat) (o : Option Obj) (p : List Byte) : (s.raise t v o p).trn = s.trn := by simp [State.raise]
@[simp] theorem State.raise_lat (s : State) (t v : Nat) (o : Option Obj) (p : List Byte) : (s.raise t v o p).lat = s.lat := by simp [State.raise]
@[simp] theorem State.raise_sb (s : State) (t v : Nat) (o : Option Obj) (p : List Byte) : (s.raise t v o p).sb = s.sb := by simp [State.raise]
@[simp] theorem State.raise_pk (s : State) (t v : Nat) (o : Option Obj) (p : List Byte) : (s.raise t v o p).pk = s.pk := by simp [State.raise]
@[simp] theorem State.raise_cls (s : State) (t v : Nat) (o : Option Obj) (p : List Byte) : (s.raise t v o p).cls = s.cls := by simp [State.raise]
@[simp] theorem State.raise_stk (s : State) (t v : Nat) (o : Option Obj) (p : List Byte) : (s.raise t v o p).stk = s.stk := by simp [State.raise]
@[simp] theorem State.raise_arr (s : State) (t v : Nat) (o : Option Obj) (p : List Byte) : (s.raise t v o p).arr = s.arr := by simp [State.raise]
@[simp] theorem State.raise_eng (s : State) (t v : Nat) (o : Option Obj) (p : List Byte) : (s.raise t v o p).eng = s.eng := by simp [State.raise]
@[simp] theorem State.raise_cal (s : State) (t v : Nat) (o : Option Obj) (p : List Byte) : (s.raise t v o p).cal = s.cal := by simp [State.raise]
@[simp] theorem State.raise_scr (s : State) (t v : Nat) (o : Option Obj) (p : List Byte) : (s.raise t v o p).scr = s.scr := by simp [State.raise]
@[simp] theorem State.raise_pwr (s : State) (t v : Nat) (o : Option Obj) (p : List Byte) : (s.raise t v o p).pwr = s.pwr := by simp [State.raise]
@[simp] theorem State.raise_free (s : State) (t v : Nat) (o : Option Obj) (p : List Byte) : (s.raise t v o p).free = s.free := by simp [State.raise]

/-! ### Written fields -/

@[simp] theorem State.out_outbox (s : State) (o : Out) : (s.out o).outbox = s.outbox ++ [o] := rfl
@[simp] theorem State.outs_outbox (s : State) (l : List Out) : (s.outs l).outbox = s.outbox ++ l := rfl
@[simp] theorem State.reply_outbox (s : State) (st : Nat) : (s.reply st).outbox = s.outbox ++ [.reply st 0] := rfl

end Sys2Proof.Machine
end

