-- ==== Sys2Proof/Laws/Dict.lean ====
section
/-! SUPPORT. The object dictionary as a store (15, R383 to R389): a read after a
write of the same entry gives what was written, and a write leaves every other entry alone. -/

set_option Elab.async false

namespace Sys2Proof.Machine

/-! ### Keys -/

theorem Obj.num_lt (o : Obj) : o.num < 1024 := by cases o <;> decide

theorem Obj.num_inj {a b : Obj} (h : a.num = b.num) : a = b := by
  unfold Obj.num at h
  rw [← Obj.ofNat_ctorIdx a, h, Obj.ofNat_ctorIdx]

theorem Obj.key_inj {a b : Obj} {e f : Nat} (h : a.key e = b.key f) : a = b ∧ e = f := by
  unfold Obj.key at h
  have := a.num_lt
  have := b.num_lt
  exact ⟨Obj.num_inj (by omega), by omega⟩

/-! ### Cells -/

theorem cellsPut_find_same {k : Nat} {c : Option ObjCell} {l : List ObjCell} (hp : l.Pairwise (fun a b => a.key < b.key))
    (hc : ∀ x, c = some x → x.key = k) : (cellsPut k c l).find? (fun x => x.key == k) = c := by
  induction l with
  | nil => cases c with
    | none => rfl
    | some x => simp [cellsPut, hc x rfl]
  | cons d rest ih =>
    have hd := List.pairwise_cons.1 hp
    unfold cellsPut
    split
    · rename_i h
      have : (d.key == k) = false := by simp; omega
      simp [this, ih hd.2]
    · have hr : ∀ y ∈ rest, k < y.key := by
        intro y hy; have := hd.1 y hy; omega
      have hn : rest.find? (fun x => x.key == k) = none := by
        rw [List.find?_eq_none]; intro y hy; have := hr y hy; simp; omega
      split
      · cases c with
        | none => simpa using hn
        | some x => simp [hc x rfl]
      · rename_i h1 h2
        cases c with
        | none => simp [h2, hn]
        | some x => simp [hc x rfl]

theorem cellsPut_find_other {k j : Nat} {c : Option ObjCell} {l : List ObjCell} (hc : ∀ x, c = some x → x.key = k) (hj : j ≠ k) :
    (cellsPut k c l).find? (fun x => x.key == j) = l.find? (fun x => x.key == j) := by
  have hcj : ∀ x, c = some x → (x.key == j) = false := by
    intro x hx; have := hc x hx; simp; omega
  induction l with
  | nil => cases c with
    | none => rfl
    | some x => simp [cellsPut, hcj x rfl]
  | cons d rest ih =>
    unfold cellsPut
    split
    · simp [List.find?_cons, ih]
    · split
      · rename_i h1 h2
        have hd : (d.key == j) = false := by simp; omega
        cases c with
        | none => simp [hd]
        | some x => simp [hd, hcj x rfl]
      · cases c with
        | none => simp
        | some x => simp [List.find?_cons, hcj x rfl]

theorem cellOf_key {o : Obj} {e v : Nat} : ∀ x, cellOf o e v = some x → x.key = o.key e := by
  intro x h
  unfold cellOf at h
  split at h
  · cases h
  · cases h; rfl

theorem Dict.find_put_same (d : Dict) (o : Obj) (e v : Nat) : (d.put o e v).find o e = o.fit e v := by
  unfold Dict.find Dict.put
  simp only [cellsPut_find_same d.canon.1 cellOf_key]
  unfold cellOf
  split
  · rename_i x h; split at h
    · cases h
    · cases h; rfl
  · rename_i h; split at h
    · rename_i hv; exact hv.symm
    · cases h

theorem Dict.find_put_other (d : Dict) {o p : Obj} {e f v : Nat} (h : ¬(p = o ∧ f = e)) : (d.put o e v).find p f = d.find p f := by
  unfold Dict.find Dict.put
  have : p.key f ≠ o.key e := fun hk => h (Obj.key_inj hk)
  simp only [cellsPut_find_other cellOf_key this]

/-! ### Entries of State -/

/-- A read after a write of the same entry gives what was written, in the object's width and without its reserved bits; every other
entry reads as before. -/
@[simp] theorem State.entry_setEntry (s : State) (o p : Obj) (e f v : Nat) :
    (s.setEntry o e v).entry p f = if p = o ∧ f = e then o.fit e v else s.entry p f := by
  unfold State.entry State.setEntry
  split
  · rename_i h; obtain ⟨rfl, rfl⟩ := h; exact Dict.find_put_same _ _ _ _
  · rename_i h; exact Dict.find_put_other _ h

@[simp] theorem State.entry_setObj (s : State) (o p : Obj) (f v : Nat) :
    (s.setObj o v).entry p f = if p = o ∧ f = 0 then o.fit 0 v else s.entry p f := State.entry_setEntry s o p 0 f v

@[simp] theorem State.entry_setFld (s : State) (o p : Obj) (hi lo f v : Nat) :
    (s.setFld o hi lo v).entry p f = if p = o ∧ f = 0 then o.fit 0 (setField (s.obj o) hi lo v) else s.entry p f :=
  State.entry_setEntry s o p 0 f _

@[simp] theorem State.obj_setEntry (s : State) (o p : Obj) (e v : Nat) :
    (s.setEntry o e v).obj p = if p = o ∧ 0 = e then o.fit e v else s.obj p := State.entry_setEntry s o p e 0 v

@[simp] theorem State.obj_setObj (s : State) (o p : Obj) (v : Nat) :
    (s.setObj o v).obj p = if p = o then o.fit 0 v else s.obj p := by
  have h := State.entry_setEntry s o p 0 0 v
  simp only [and_true] at h
  exact h

@[simp] theorem State.obj_setFld (s : State) (o p : Obj) (hi lo v : Nat) :
    (s.setFld o hi lo v).obj p = if p = o then o.fit 0 (setField (s.obj o) hi lo v) else s.obj p := State.obj_setObj s o p _

/-- A counter advanced by n, where the sum fits its width. -/
theorem State.obj_count (s : State) (o p : Obj) (n : Nat) (h : s.obj o + n < 2 ^ (8 * o.row.layout.size 0)) :
    (s.count o n).obj p = if p = o then o.fit 0 (s.obj o + n) else s.obj p := by
  unfold State.count State.countAt
  have h' : s.entry o 0 + n < 2 ^ (8 * o.row.layout.size 0) := h
  simp only [h', ↓reduceIte]
  exact State.obj_setObj s o p _

theorem State.entry_countAt_other (s : State) {o p : Obj} {e f n : Nat} (h : p ≠ o) : (s.countAt o e n).entry p f = s.entry p f := by
  unfold State.countAt
  dsimp only
  split <;> simp [h]

theorem State.entry_count_other (s : State) {o p : Obj} {f n : Nat} (h : p ≠ o) : (s.count o n).entry p f = s.entry p f :=
  State.entry_countAt_other s h

theorem State.obj_count_other (s : State) {o p : Obj} {n : Nat} (h : p ≠ o) : (s.count o n).obj p = s.obj p :=
  State.entry_countAt_other s h

/-! ### What leaves no mark on the dictionary -/

theorem State.entry_congr {s t : State} (h : t.dict = s.dict) (o : Obj) (e : Nat) : t.entry o e = s.entry o e := by
  unfold State.entry; rw [h]

@[simp] theorem State.out_entry (s : State) (x : Out) (o : Obj) (e : Nat) : (s.out x).entry o e = s.entry o e := rfl
@[simp] theorem State.outs_entry (s : State) (l : List Out) (o : Obj) (e : Nat) : (s.outs l).entry o e = s.entry o e := rfl
@[simp] theorem State.reply_entry (s : State) (st : Nat) (o : Obj) (e : Nat) : (s.reply st).entry o e = s.entry o e := rfl
@[simp] theorem State.out_obj (s : State) (x : Out) (o : Obj) : (s.out x).obj o = s.obj o := rfl
@[simp] theorem State.outs_obj (s : State) (l : List Out) (o : Obj) : (s.outs l).obj o = s.obj o := rfl
@[simp] theorem State.reply_obj (s : State) (st : Nat) (o : Obj) : (s.reply st).obj o = s.obj o := rfl

theorem State.obj_eq_entry (s : State) (o : Obj) : s.obj o = s.entry o 0 := rfl

/-! ### What an entry reads -/

theorem Obj.fit_zero (o : Obj) (e : Nat) : o.fit e 0 = 0 := by simp [Obj.fit]

/-- Every default lies in its entry's width and has no reserved bit. -/
theorem Obj.fit_default (o : Obj) (e : Nat) : o.fit e (o.default e) = o.default e := Obj.fit_fit o e _

/-- Every entry of every object, in every state, lies in its width and has no reserved bit. -/
@[simp] theorem State.fit_entry (s : State) (o : Obj) (e : Nat) : o.fit e (s.entry o e) = s.entry o e := by
  unfold State.entry Dict.find
  split
  · rename_i c h
    have hk := Obj.key_inj (beq_iff_eq.1 (List.find?_some (p := fun c : ObjCell => c.key == o.key e) h))
    have := (s.dict.canon.2 c (List.mem_of_find?_eq_some h)).2
    rw [hk.1, hk.2] at this
    exact this.symm
  · exact Obj.fit_default o e

@[simp] theorem State.fit_obj (s : State) (o : Obj) : o.fit 0 (s.obj o) = s.obj o := State.fit_entry s o 0

theorem State.entry_lt (s : State) (o : Obj) (e : Nat) : s.entry o e < 2 ^ (8 * o.row.layout.size e) := by
  rw [← State.fit_entry]
  exact Nat.lt_of_le_of_lt Nat.and_le_left (Nat.mod_lt _ (Nat.two_pow_pos _))

theorem State.obj_lt (s : State) (o : Obj) : s.obj o < 2 ^ (8 * o.row.layout.size 0) := State.entry_lt s o 0

/-- Writing back what an entry reads changes nothing. -/
theorem State.setEntry_entry (s : State) (o p : Obj) (e f : Nat) : (s.setEntry o e (s.entry o e)).entry p f = s.entry p f := by
  rw [State.entry_setEntry]
  split
  · rename_i h; obtain ⟨rfl, rfl⟩ := h; exact State.fit_entry s p f
  · rfl

/-! ### Clearing -/

theorem Dict.find_drop (d : Dict) (f : Obj → Bool) (o : Obj) (e : Nat) :
    (d.drop f).find o e = if f o then o.default e else d.find o e := by
  unfold Dict.find Dict.drop
  have hobj : ∀ c : ObjCell, (c.key == o.key e) = true → c.obj = o := by
    intro c hc
    exact (Obj.key_inj (beq_iff_eq.1 hc)).1
  by_cases hf : f o
  · have : (d.cells.filter fun c => !f c.obj).find? (fun c => c.key == o.key e) = none := by
      rw [List.find?_eq_none]
      intro c hc hk
      have := (List.mem_filter.1 hc).2
      rw [hobj c hk] at this
      simp [hf] at this
    simp only [this, hf, ↓reduceIte]
  · have : (d.cells.filter fun c => !f c.obj).find? (fun c => c.key == o.key e) = d.cells.find? (fun c => c.key == o.key e) := by
      rw [List.find?_filter]
      congr 1
      funext c
      by_cases hk : (c.key == o.key e) = true
      · rw [hobj c hk, hk]; simp [hf]
      · simp [hk]
    simp only [this, hf]
    rfl

/-- An object at its default in every entry; the others read as before. -/
@[simp] theorem State.entry_clearObj (s : State) (o p : Obj) (e : Nat) :
    (s.clearObj o).entry p e = if p = o then p.default e else s.entry p e := by
  unfold State.entry State.clearObj
  rw [Dict.find_drop]
  by_cases h : p = o <;> simp [h]

/-! ### Events -/

theorem State.emitHop_entry (s : State) (m : List Byte) (o : Obj) (e : Nat) : (s.emitHop m).entry o e = s.entry o e :=
  State.entry_congr (by simp) o e

theorem State.sendRecord_entry (s : State) (n : Nat) (o : Obj) (e : Nat) : (s.sendRecord n).entry o e = s.entry o e :=
  State.entry_congr (by simp) o e

theorem State.nextRecord_entry (s : State) {o : Obj} (e : Nat) (h : o ≠ .mgtEvtMode) : s.nextRecord.entry o e = s.entry o e := by
  unfold State.nextRecord
  dsimp only
  split
  · rfl
  · rw [State.sendRecord_entry]
    split
    · rfl
    · rw [State.entry_setFld]; simp [h]; rfl

theorem State.queueEvent_entry (s : State) (r : EventRec) {o : Obj} (e : Nat) (h : o ≠ .mgtEvtMode) (h' : o ≠ .mgtEvtDropped) :
    (s.queueEvent r).entry o e = s.entry o e := by
  have key : ∀ c : Bool, (if c then (s.count .mgtEvtDropped 1).setFld .mgtEvtMode 2 2 (ofBool (!s.evtGateway && s.evtNoRoute))
      else ({ s with mgt := { s.mgt with events := s.mgt.events ++ [r] } } : State).nextRecord).entry o e = s.entry o e := by
    intro c
    cases c
    · simp only [Bool.false_eq_true, ↓reduceIte]
      rw [State.nextRecord_entry _ _ h]; rfl
    · simp only [↓reduceIte]
      rw [State.entry_setFld]; simp [h, State.entry_count_other _ h']
  exact key _

/-- Raising an event moves no object but MGT_EVT_MODE and MGT_EVT_DROPPED. -/
theorem State.raise_entry (s : State) (t v : Nat) (x : Option Obj) (p : List Byte) {o : Obj} (e : Nat)
    (h : o ≠ .mgtEvtMode) (h' : o ≠ .mgtEvtDropped) : (s.raise t v x p).entry o e = s.entry o e := by
  unfold State.raise
  dsimp only
  rw [State.queueEvent_entry _ _ _ h h', State.entry_setFld]
  simp [h]

theorem State.raise_obj (s : State) (t v : Nat) (x : Option Obj) (p : List Byte) {o : Obj}
    (h : o ≠ .mgtEvtMode) (h' : o ≠ .mgtEvtDropped) : (s.raise t v x p).obj o = s.obj o := State.raise_entry s t v x p 0 h h'

end Sys2Proof.Machine
end

