-- ==== Sys2Proof/Laws/PerInstr.lean ====
section
/-! SUPPORT. The statement made command by command: the requester that a well-formed command names has a GW of 12 bits, and the flit that it
carries has 256 bytes under either map. One lemma for each constructor of Instr. -/

set_option Elab.async false

namespace Sys2Proof.Laws.WellFormed

/-- What being well-formed says of the requester and of the flit of a command. -/
def Statement (i : Instr) : Prop :=
  i.WellFormed = true → (∀ r, i.requester = some r → r.wf = true) ∧ (∀ f, i.flit = some f → f.wf = true)

theorem aonPowerUp x0 : Statement (.aonPowerUp x0) := fun _ => ⟨nofun, nofun⟩
theorem aonPowerLoss : Statement (.aonPowerLoss) := fun _ => ⟨nofun, nofun⟩
theorem clockWindow x0 x1 x2 x3 x4 x5 : Statement (.clockWindow x0 x1 x2 x3 x4 x5) := fun _ => ⟨nofun, nofun⟩
theorem pllLossOfLock x0 : Statement (.pllLossOfLock x0) := fun _ => ⟨nofun, nofun⟩
theorem rclkAbsent : Statement (.rclkAbsent) := fun _ => ⟨nofun, nofun⟩
theorem rclkReturn : Statement (.rclkReturn) := fun _ => ⟨nofun, nofun⟩
theorem pwrClkRestartSeq x0 : Statement (.pwrClkRestartSeq x0) := fun h => ⟨fun _ e => by cases e; exact h, nofun⟩
theorem pwrClkRestartArray x0 : Statement (.pwrClkRestartArray x0) := fun h => ⟨fun _ e => by cases e; exact h, nofun⟩
theorem pktSportRestart x0 : Statement (.pktSportRestart x0) := fun h => ⟨fun _ e => by cases e; exact h, nofun⟩
theorem stkSportRestart x0 : Statement (.stkSportRestart x0) := fun h => ⟨fun _ e => by cases e; exact h, nofun⟩
theorem portLockEnable x0 x1 : Statement (.portLockEnable x0 x1) := fun h => ⟨fun _ e => by cases e; exact h, nofun⟩
theorem portLockMeasure x0 x1 x2 : Statement (.portLockMeasure x0 x1 x2) := fun _ => ⟨nofun, nofun⟩
theorem portLockSet x0 : Statement (.portLockSet x0) := fun _ => ⟨nofun, nofun⟩
theorem portLockCheck x0 x1 : Statement (.portLockCheck x0 x1) := fun _ => ⟨nofun, nofun⟩
theorem portLockDisable x0 x1 : Statement (.portLockDisable x0 x1) := fun h => ⟨fun _ e => by cases e; exact h, nofun⟩
theorem portLockExit x0 : Statement (.portLockExit x0) := fun _ => ⟨nofun, nofun⟩
theorem streamIngressPacket x0 x1 x2 x3 x4 : Statement (.streamIngressPacket x0 x1 x2 x3 x4) := fun _ => ⟨nofun, nofun⟩
theorem streamEgressCredit x0 x1 : Statement (.streamEgressCredit x0 x1) := fun _ => ⟨nofun, nofun⟩
theorem streamEgressStart x0 : Statement (.streamEgressStart x0) := fun _ => ⟨nofun, nofun⟩
theorem streamEgressEop x0 : Statement (.streamEgressEop x0) := fun _ => ⟨nofun, nofun⟩
theorem holdRelease x0 : Statement (.holdRelease x0) := fun _ => ⟨nofun, nofun⟩
theorem stackCmdIssue x0 : Statement (.stackCmdIssue x0) := fun _ => ⟨nofun, nofun⟩
theorem stackCmdAccept x0 : Statement (.stackCmdAccept x0) := fun _ => ⟨nofun, nofun⟩
theorem stackResponse x0 x1 x2 x3 x4 : Statement (.stackResponse x0 x1 x2 x3 x4) := fun _ => ⟨nofun, nofun⟩
theorem stackRspTimeout x0 x1 : Statement (.stackRspTimeout x0 x1) := fun _ => ⟨nofun, nofun⟩
theorem skPcDown x0 x1 : Statement (.skPcDown x0 x1) := fun _ => ⟨nofun, nofun⟩
theorem relayIngressPacket x0 x1 x2 : Statement (.relayIngressPacket x0 x1 x2) := fun _ => ⟨nofun, nofun⟩
theorem relayCredit x0 x1 : Statement (.relayCredit x0 x1) := fun _ => ⟨nofun, nofun⟩
theorem relayEgressStart : Statement (.relayEgressStart) := fun _ => ⟨nofun, nofun⟩
theorem rlIUpChange x0 : Statement (.rlIUpChange x0) := fun _ => ⟨nofun, nofun⟩
theorem dxSelWrite x0 x1 : Statement (.dxSelWrite x0 x1) := fun _ => ⟨nofun, nofun⟩
theorem dxDataRead x0 : Statement (.dxDataRead x0) := fun _ => ⟨nofun, nofun⟩
theorem dxDataWrite x0 x1 : Statement (.dxDataWrite x0 x1) := fun _ => ⟨nofun, nofun⟩
theorem objectWrite x0 x1 x2 x3 x4 : Statement (.objectWrite x0 x1 x2 x3 x4) := fun h => ⟨fun _ e => by cases e; simp_all [Instr.WellFormed], nofun⟩
theorem sbLaneFailed x0 : Statement (.sbLaneFailed x0) := fun _ => ⟨nofun, nofun⟩
theorem sbLaneUsable x0 : Statement (.sbLaneUsable x0) := fun _ => ⟨nofun, nofun⟩
theorem sbStateTimer : Statement (.sbStateTimer) := fun _ => ⟨nofun, nofun⟩
theorem sbState x0 : Statement (.sbState x0) := fun _ => ⟨nofun, nofun⟩
theorem sidebandFrameDiscard x0 x1 x2 : Statement (.sidebandFrameDiscard x0 x1 x2) := fun _ => ⟨nofun, nofun⟩
theorem train x0 : Statement (.train x0) := fun _ => ⟨nofun, nofun⟩
theorem trainFrameRepeat : Statement (.trainFrameRepeat) := fun _ => ⟨nofun, nofun⟩
theorem slate x0 : Statement (.slate x0) := fun _ => ⟨nofun, nofun⟩
theorem laneFault x0 x1 : Statement (.laneFault x0 x1) := fun _ => ⟨nofun, nofun⟩
theorem laneFaultRepeat : Statement (.laneFaultRepeat) := fun _ => ⟨nofun, nofun⟩
theorem laneAck x0 : Statement (.laneAck x0) := fun _ => ⟨nofun, nofun⟩
theorem bypass : Statement (.bypass) := fun _ => ⟨nofun, nofun⟩
theorem samplePreload x0 x1 : Statement (.samplePreload x0 x1) := fun _ => ⟨nofun, nofun⟩
theorem extest : Statement (.extest) := fun _ => ⟨nofun, nofun⟩
theorem idcode x0 : Statement (.idcode x0) := fun _ => ⟨nofun, nofun⟩
theorem intestWrap : Statement (.intestWrap) := fun _ => ⟨nofun, nofun⟩
theorem wsBypass : Statement (.wsBypass) := fun _ => ⟨nofun, nofun⟩
theorem wsExtest : Statement (.wsExtest) := fun _ => ⟨nofun, nofun⟩
theorem wsIntest : Statement (.wsIntest) := fun _ => ⟨nofun, nofun⟩
theorem wsScan : Statement (.wsScan) := fun _ => ⟨nofun, nofun⟩
theorem trnStart x0 : Statement (.trnStart x0) := fun h => ⟨fun _ e => by cases e; exact h, nofun⟩
theorem plannedRetrain x0 : Statement (.plannedRetrain x0) := fun h => ⟨fun _ e => by cases e; exact h, nofun⟩
theorem trainStateTimeout : Statement (.trainStateTimeout) := fun _ => ⟨nofun, nofun⟩
theorem connectDone x0 : Statement (.connectDone x0) := fun _ => ⟨nofun, nofun⟩
theorem equaliseDone x0 : Statement (.equaliseDone x0) := fun _ => ⟨nofun, nofun⟩
theorem laneCheckDone x0 x1 : Statement (.laneCheckDone x0 x1) := fun _ => ⟨nofun, nofun⟩
theorem flitSync : Statement (.flitSync) := fun _ => ⟨nofun, nofun⟩
theorem linkActive : Statement (.linkActive) := fun _ => ⟨nofun, nofun⟩
theorem scramblerReload : Statement (.scramblerReload) := fun _ => ⟨nofun, nofun⟩
theorem phyGroupOffWrite x0 x1 : Statement (.phyGroupOffWrite x0 x1) := fun h => ⟨fun _ e => by cases e; simp_all [Instr.WellFormed], nofun⟩
theorem cdrLockLoss x0 : Statement (.cdrLockLoss x0) := fun _ => ⟨nofun, nofun⟩
theorem laneFecThreshold x0 : Statement (.laneFecThreshold x0) := fun _ => ⟨nofun, nofun⟩
theorem rxRetire x0 x1 : Statement (.rxRetire x0 x1) := fun h => ⟨fun _ e => by cases e; simp_all [Instr.WellFormed], nofun⟩
theorem prepareSend : Statement (.prepareSend) := fun _ => ⟨nofun, nofun⟩
theorem prepareFlit x0 : Statement (.prepareFlit x0) := fun h => ⟨nofun, fun _ e => by cases e; exact h⟩
theorem spliceReady : Statement (.spliceReady) := fun _ => ⟨nofun, nofun⟩
theorem commitSend : Statement (.commitSend) := fun _ => ⟨nofun, nofun⟩
theorem commitFlit x0 : Statement (.commitFlit x0) := fun h => ⟨nofun, fun _ e => by cases e; exact h⟩
theorem spliceTimeout : Statement (.spliceTimeout) := fun _ => ⟨nofun, nofun⟩
theorem spliceRetry : Statement (.spliceRetry) := fun _ => ⟨nofun, nofun⟩
theorem cancelFlit x0 : Statement (.cancelFlit x0) := fun h => ⟨nofun, fun _ e => by cases e; exact h⟩
theorem measureMarker x0 : Statement (.measureMarker x0) := fun h => ⟨nofun, fun _ e => by cases e; exact h⟩
theorem latMeasureRepeat : Statement (.latMeasureRepeat) := fun _ => ⟨nofun, nofun⟩
theorem returnMarker x0 : Statement (.returnMarker x0) := fun h => ⟨nofun, fun _ e => by cases e; exact h⟩
theorem setMarker x0 : Statement (.setMarker x0) := fun h => ⟨nofun, fun _ e => by cases e; exact h⟩
theorem verifyMarker x0 : Statement (.verifyMarker x0) := fun h => ⟨nofun, fun _ e => by cases e; exact h⟩
theorem verifyReturn x0 : Statement (.verifyReturn x0) := fun h => ⟨nofun, fun _ e => by cases e; exact h⟩
theorem latCheckTimer : Statement (.latCheckTimer) := fun _ => ⟨nofun, nofun⟩
theorem markerTimeout : Statement (.markerTimeout) := fun _ => ⟨nofun, nofun⟩
theorem dataFlit x0 : Statement (.dataFlit x0) := fun h => ⟨nofun, fun _ e => by cases e; exact h⟩
theorem idleFlit x0 : Statement (.idleFlit x0) := fun h => ⟨nofun, fun _ e => by cases e; exact h⟩
theorem flitFail x0 : Statement (.flitFail x0) := fun h => ⟨nofun, fun _ e => by cases e; exact h⟩
theorem flitProtoErr x0 : Statement (.flitProtoErr x0) := fun h => ⟨nofun, fun _ e => by cases e; exact h⟩
theorem linkPacketStart : Statement (.linkPacketStart) := fun _ => ⟨nofun, nofun⟩
theorem nakRepeat : Statement (.nakRepeat) := fun _ => ⟨nofun, nofun⟩
theorem ackTimeoutReplay : Statement (.ackTimeoutReplay) := fun _ => ⟨nofun, nofun⟩
theorem spillWrite : Statement (.spillWrite) := fun _ => ⟨nofun, nofun⟩
theorem spillWriteDone x0 x1 : Statement (.spillWriteDone x0 x1) := fun _ => ⟨nofun, nofun⟩
theorem spillReadDone x0 x1 x2 : Statement (.spillReadDone x0 x1 x2) := fun _ => ⟨nofun, nofun⟩
theorem lnkSpillEnWrite x0 x1 : Statement (.lnkSpillEnWrite x0 x1) := fun h => ⟨fun _ e => by cases e; simp_all [Instr.WellFormed], nofun⟩
theorem diagnosisStart : Statement (.diagnosisStart) := fun _ => ⟨nofun, nofun⟩
theorem diagnosisEnd : Statement (.diagnosisEnd) := fun _ => ⟨nofun, nofun⟩
theorem idleLimitTimeout : Statement (.idleLimitTimeout) := fun _ => ⟨nofun, nofun⟩
theorem ackStallTimeout : Statement (.ackStallTimeout) := fun _ => ⟨nofun, nofun⟩
theorem lnkForceDown x0 : Statement (.lnkForceDown x0) := fun h => ⟨fun _ e => by cases e; exact h, nofun⟩
theorem packetTakeOn x0 x1 : Statement (.packetTakeOn x0 x1) := fun _ => ⟨nofun, nofun⟩
theorem pktFaWrite x0 x1 : Statement (.pktFaWrite x0 x1) := fun h => ⟨fun _ e => by cases e; simp_all [Instr.WellFormed], nofun⟩
theorem reqTimeout x0 : Statement (.reqTimeout x0) := fun _ => ⟨nofun, nofun⟩
theorem msgTimeout x0 : Statement (.msgTimeout x0) := fun _ => ⟨nofun, nofun⟩
theorem routeActiveWrite x0 x1 : Statement (.routeActiveWrite x0 x1) := fun h => ⟨fun _ e => by cases e; simp_all [Instr.WellFormed], nofun⟩
theorem routeTableWrite x0 x1 x2 x3 : Statement (.routeTableWrite x0 x1 x2 x3) := fun h => ⟨fun _ e => by cases e; simp_all [Instr.WellFormed], nofun⟩
theorem gateStart x0 : Statement (.gateStart x0) := fun _ => ⟨nofun, nofun⟩
theorem admissionHopTimeout : Statement (.admissionHopTimeout) := fun _ => ⟨nofun, nofun⟩
theorem flowRecompute : Statement (.flowRecompute) := fun _ => ⟨nofun, nofun⟩
theorem tclRecheckRate x0 x1 : Statement (.tclRecheckRate x0 x1) := fun h => ⟨fun _ e => by cases e; simp_all [Instr.WellFormed], nofun⟩
theorem recheckDone : Statement (.recheckDone) := fun _ => ⟨nofun, nofun⟩
theorem queueSample : Statement (.queueSample) := fun _ => ⟨nofun, nofun⟩
theorem queueSamplesRead x0 : Statement (.queueSamplesRead x0) := fun h => ⟨fun _ e => by cases e; exact h, nofun⟩
theorem portCountersRead x0 x1 : Statement (.portCountersRead x0 x1) := fun h => ⟨fun _ e => by cases e; exact h, nofun⟩
theorem opSubmit : Statement (.opSubmit) := fun _ => ⟨nofun, nofun⟩
theorem descriptorStart x0 : Statement (.descriptorStart x0) := fun _ => ⟨nofun, nofun⟩
theorem tileDispatch x0 : Statement (.tileDispatch x0) := fun _ => ⟨nofun, nofun⟩
theorem tileDone x0 : Statement (.tileDone x0) := fun _ => ⟨nofun, nofun⟩
theorem cellFault x0 : Statement (.cellFault x0) := fun _ => ⟨nofun, nofun⟩
theorem operandAccessDone x0 : Statement (.operandAccessDone x0) := fun _ => ⟨nofun, nofun⟩
theorem descriptorFinish x0 : Statement (.descriptorFinish x0) := fun _ => ⟨nofun, nofun⟩
theorem clusterIdleGate x0 : Statement (.clusterIdleGate x0) := fun _ => ⟨nofun, nofun⟩
theorem clusterWake x0 : Statement (.clusterWake x0) := fun _ => ⟨nofun, nofun⟩
theorem wcetRecompute : Statement (.wcetRecompute) := fun _ => ⟨nofun, nofun⟩
theorem redWr : Statement (.redWr) := fun _ => ⟨nofun, nofun⟩
theorem reduceFinish x0 : Statement (.reduceFinish x0) := fun _ => ⟨nofun, nofun⟩
theorem scrubRead : Statement (.scrubRead) := fun _ => ⟨nofun, nofun⟩
theorem rekeyStep : Statement (.rekeyStep) := fun _ => ⟨nofun, nofun⟩
theorem stkPartApply x0 : Statement (.stkPartApply x0) := fun h => ⟨fun _ e => by cases e; exact h, nofun⟩
theorem keyLoad x0 : Statement (.keyLoad x0) := fun _ => ⟨nofun, nofun⟩
theorem keySelect x0 : Statement (.keySelect x0) := fun _ => ⟨nofun, nofun⟩
theorem keyClear x0 : Statement (.keyClear x0) := fun _ => ⟨nofun, nofun⟩
theorem digestDone : Statement (.digestDone) := fun _ => ⟨nofun, nofun⟩
theorem complementCheck x0 : Statement (.complementCheck x0) := fun _ => ⟨nofun, nofun⟩
theorem continuityFrame x0 : Statement (.continuityFrame x0) := fun _ => ⟨nofun, nofun⟩
theorem yieldEngine x0 : Statement (.yieldEngine x0) := fun _ => ⟨nofun, nofun⟩
theorem takeoverResume : Statement (.takeoverResume) := fun _ => ⟨nofun, nofun⟩
theorem standinSegmentTest : Statement (.standinSegmentTest) := fun _ => ⟨nofun, nofun⟩
theorem segmentDone x0 : Statement (.segmentDone x0) := fun _ => ⟨nofun, nofun⟩
theorem engineRetestDone x0 : Statement (.engineRetestDone x0) := fun _ => ⟨nofun, nofun⟩
theorem resyncDone : Statement (.resyncDone) := fun _ => ⟨nofun, nofun⟩
theorem sharedEccError x0 : Statement (.sharedEccError x0) := fun _ => ⟨nofun, nofun⟩
theorem fence x0 : Statement (.fence x0) := fun h => ⟨fun _ e => by cases e; exact h, nofun⟩
theorem unfence x0 : Statement (.unfence x0) := fun h => ⟨fun _ e => by cases e; exact h, nofun⟩
theorem tempSample x0 : Statement (.tempSample x0) := fun _ => ⟨nofun, nofun⟩
theorem trimStep : Statement (.trimStep) := fun _ => ⟨nofun, nofun⟩
theorem recalStart x0 : Statement (.recalStart x0) := fun _ => ⟨nofun, nofun⟩
theorem recalDone x0 : Statement (.recalDone x0) := fun _ => ⟨nofun, nofun⟩
theorem deskewCheck x0 : Statement (.deskewCheck x0) := fun _ => ⟨nofun, nofun⟩
theorem seqWatchdog x0 : Statement (.seqWatchdog x0) := fun _ => ⟨nofun, nofun⟩
theorem ageingMonitor x0 : Statement (.ageingMonitor x0) := fun _ => ⟨nofun, nofun⟩
theorem eyeScanStart x0 : Statement (.eyeScanStart x0) := fun _ => ⟨nofun, nofun⟩
theorem eyeScanDone x0 x1 : Statement (.eyeScanDone x0 x1) := fun _ => ⟨nofun, nofun⟩
theorem marginPlan : Statement (.marginPlan) := fun _ => ⟨nofun, nofun⟩
theorem laneRetire x0 : Statement (.laneRetire x0) := fun _ => ⟨nofun, nofun⟩
theorem stepGraceEnd : Statement (.stepGraceEnd) := fun _ => ⟨nofun, nofun⟩
theorem fieldTestTurn x0 x1 : Statement (.fieldTestTurn x0 x1) := fun _ => ⟨nofun, nofun⟩
theorem testDone x0 x1 x2 : Statement (.testDone x0 x1 x2) := fun _ => ⟨nofun, nofun⟩
theorem powerEstimate x0 : Statement (.powerEstimate x0) := fun _ => ⟨nofun, nofun⟩
theorem scrRunCluster x0 x1 : Statement (.scrRunCluster x0 x1) := fun h => ⟨fun _ e => by cases e; simp_all [Instr.WellFormed], nofun⟩
theorem scrRunLaneGroup x0 x1 : Statement (.scrRunLaneGroup x0 x1) := fun h => ⟨fun _ e => by cases e; simp_all [Instr.WellFormed], nofun⟩
theorem scrRunFarTest x0 x1 : Statement (.scrRunFarTest x0 x1) := fun h => ⟨fun _ e => by cases e; simp_all [Instr.WellFormed], nofun⟩
theorem scrRunFarRespond x0 x1 : Statement (.scrRunFarRespond x0 x1) := fun h => ⟨fun _ e => by cases e; simp_all [Instr.WellFormed], nofun⟩
theorem scrRunStandin x0 : Statement (.scrRunStandin x0) := fun h => ⟨fun _ e => by cases e; exact h, nofun⟩
theorem scrRunScratch x0 : Statement (.scrRunScratch x0) := fun h => ⟨fun _ e => by cases e; exact h, nofun⟩
theorem scrRunSharedStorage x0 : Statement (.scrRunSharedStorage x0) := fun h => ⟨fun _ e => by cases e; exact h, nofun⟩
theorem scrRunAnalog x0 : Statement (.scrRunAnalog x0) := fun h => ⟨fun _ e => by cases e; exact h, nofun⟩
theorem scrZeroise x0 : Statement (.scrZeroise x0) := fun h => ⟨fun _ e => by cases e; exact h, nofun⟩
theorem zeroiseDone : Statement (.zeroiseDone) := fun _ => ⟨nofun, nofun⟩
theorem ringRead x0 x1 : Statement (.ringRead x0 x1) := fun _ => ⟨nofun, nofun⟩
theorem ringWrite x0 x1 x2 : Statement (.ringWrite x0 x1 x2) := fun _ => ⟨nofun, nofun⟩
theorem ringLock x0 x1 x2 : Statement (.ringLock x0 x1 x2) := fun _ => ⟨nofun, nofun⟩
theorem ringUnlock x0 x1 x2 : Statement (.ringUnlock x0 x1 x2) := fun _ => ⟨nofun, nofun⟩
theorem ringEvent x0 x1 : Statement (.ringEvent x0 x1) := fun _ => ⟨nofun, nofun⟩
theorem ringHop x0 x1 : Statement (.ringHop x0 x1) := fun _ => ⟨nofun, nofun⟩
theorem ringReply x0 x1 : Statement (.ringReply x0 x1) := fun _ => ⟨nofun, nofun⟩
theorem ringBroken : Statement (.ringBroken) := fun _ => ⟨nofun, nofun⟩
theorem ringRestored : Statement (.ringRestored) := fun _ => ⟨nofun, nofun⟩
theorem gatewaySend x0 x1 : Statement (.gatewaySend x0 x1) := fun _ => ⟨nofun, nofun⟩
theorem gatewayTimeout : Statement (.gatewayTimeout) := fun _ => ⟨nofun, nofun⟩
theorem mgtScriptLoad x0 : Statement (.mgtScriptLoad x0) := fun h => ⟨fun _ e => by cases e; exact h, nofun⟩
theorem mgtSceneLoad x0 x1 : Statement (.mgtSceneLoad x0 x1) := fun h => ⟨fun _ e => by cases e; simp_all [Instr.WellFormed], nofun⟩
theorem mgtSceneCommit x0 x1 : Statement (.mgtSceneCommit x0 x1) := fun h => ⟨fun _ e => by cases e; simp_all [Instr.WellFormed], nofun⟩
theorem commitDone x0 : Statement (.commitDone x0) := fun _ => ⟨nofun, nofun⟩
theorem lockRead x0 x1 : Statement (.lockRead x0 x1) := fun h => ⟨fun _ e => by cases e; exact h, nofun⟩
theorem lockRelease x0 x1 : Statement (.lockRelease x0 x1) := fun h => ⟨fun _ e => by cases e; exact h, nofun⟩
theorem mgtLockForce x0 x1 : Statement (.mgtLockForce x0 x1) := fun h => ⟨fun _ e => by cases e; simp_all [Instr.WellFormed], nofun⟩
theorem mgtSeal x0 x1 : Statement (.mgtSeal x0 x1) := fun h => ⟨fun _ e => by cases e; simp_all [Instr.WellFormed], nofun⟩
theorem mailboxSend x0 x1 x2 : Statement (.mailboxSend x0 x1 x2) := fun _ => ⟨nofun, nofun⟩
theorem mailboxAbort x0 x1 : Statement (.mailboxAbort x0 x1) := fun _ => ⟨nofun, nofun⟩
theorem mailboxRelease x0 x1 : Statement (.mailboxRelease x0 x1) := fun _ => ⟨nofun, nofun⟩
theorem mailboxTaken x0 : Statement (.mailboxTaken x0) := fun _ => ⟨nofun, nofun⟩
theorem tunnel x0 : Statement (.tunnel x0) := fun _ => ⟨nofun, nofun⟩
theorem tunnelS x0 : Statement (.tunnelS x0) := fun _ => ⟨nofun, nofun⟩
theorem tunnelTimeout x0 : Statement (.tunnelTimeout x0) := fun _ => ⟨nofun, nofun⟩
theorem echo : Statement (.echo) := fun _ => ⟨nofun, nofun⟩
theorem objRead : Statement (.objRead) := fun _ => ⟨nofun, nofun⟩
theorem objWrite : Statement (.objWrite) := fun _ => ⟨nofun, nofun⟩
theorem eventRecordWrite : Statement (.eventRecordWrite) := fun _ => ⟨nofun, nofun⟩
theorem eventWriteDone x0 : Statement (.eventWriteDone x0) := fun _ => ⟨nofun, nofun⟩
theorem eventWriteRetry : Statement (.eventWriteRetry) := fun _ => ⟨nofun, nofun⟩
theorem pstateWrite : Statement (.pstateWrite) := fun _ => ⟨nofun, nofun⟩
theorem mgtEvtCidxWrite x0 x1 : Statement (.mgtEvtCidxWrite x0 x1) := fun h => ⟨fun _ e => by cases e; simp_all [Instr.WellFormed], nofun⟩
theorem eventRingTimeout : Statement (.eventRingTimeout) := fun _ => ⟨nofun, nofun⟩
theorem eventRingRetry : Statement (.eventRingRetry) := fun _ => ⟨nofun, nofun⟩
theorem pwrDomainCtrlWrite x0 x1 : Statement (.pwrDomainCtrlWrite x0 x1) := fun h => ⟨fun _ e => by cases e; simp_all [Instr.WellFormed], nofun⟩
theorem pwrCycle x0 x1 : Statement (.pwrCycle x0 x1) := fun h => ⟨fun _ e => by cases e; simp_all [Instr.WellFormed], nofun⟩
theorem domainReady x0 : Statement (.domainReady x0) := fun _ => ⟨nofun, nofun⟩
theorem pwrReset x0 : Statement (.pwrReset x0) := fun h => ⟨fun _ e => by cases e; exact h, nofun⟩
theorem bringupStep x0 : Statement (.bringupStep x0) := fun _ => ⟨nofun, nofun⟩
theorem pwrFwLoad x0 : Statement (.pwrFwLoad x0) := fun h => ⟨fun _ e => by cases e; exact h, nofun⟩
theorem fwOnlineUpdate x0 : Statement (.fwOnlineUpdate x0) := fun h => ⟨fun _ e => by cases e; exact h, nofun⟩
theorem sbCharacterLock : Statement (.sbCharacterLock) := fun _ => ⟨nofun, nofun⟩
theorem sensorReferenceCheck x0 x1 : Statement (.sensorReferenceCheck x0 x1) := fun _ => ⟨nofun, nofun⟩
theorem seqLockRetry : Statement (.seqLockRetry) := fun _ => ⟨nofun, nofun⟩
theorem zeroiseClearTimeout x0 : Statement (.zeroiseClearTimeout x0) := fun _ => ⟨nofun, nofun⟩
theorem resetSettleTimeout : Statement (.resetSettleTimeout) := fun _ => ⟨nofun, nofun⟩
theorem drainRelayHoldEnd : Statement (.drainRelayHoldEnd) := fun _ => ⟨nofun, nofun⟩
theorem redWrAddDone : Statement (.redWrAddDone) := fun _ => ⟨nofun, nofun⟩
theorem admissionHopQuery x0 : Statement (.admissionHopQuery x0) := fun _ => ⟨nofun, nofun⟩
theorem transitRegisterUpdate x0 : Statement (.transitRegisterUpdate x0) := fun _ => ⟨nofun, nofun⟩
theorem mailboxBufferWrite x0 x1 x2 x3 x4 : Statement (.mailboxBufferWrite x0 x1 x2 x3 x4) := fun _ => ⟨nofun, nofun⟩
theorem gatewayRequestWrite x0 x1 x2 : Statement (.gatewayRequestWrite x0 x1 x2) := fun _ => ⟨nofun, nofun⟩

end Sys2Proof.Laws.WellFormed
end

