-- ==== Sys2Proof/Laws/Run.lean ====
section
/-! SUPPORT. How commands meet the state: what a run, an access and a run of the AON domain answer, and that every command but the two
of the AON supply is one of them. -/

set_option Elab.async false

namespace Sys2Proof.Machine

/-! ### The forms -/

/-- A command runs: its effect, with the queue and the AON domain's counts as they were. -/
theorem State.run_on (s : State) (f : State → State) (h : s.aon.up = true) :
    s.run f = .next { f s with pending := s.pending, aon := s.aon } := by simp [State.run, h]

theorem State.run_off (s : State) (f : State → State) (h : s.aon.up = false) : s.run f = .next s := by simp [State.run, h]

/-- A run always answers a next state, with the queue and the AON domain's counts as they were. -/
theorem State.run_next (s : State) (f : State → State) : ∃ t, s.run f = .next t ∧ t.pending = s.pending ∧ t.aon = s.aon := by
  cases h : s.aon.up
  · exact ⟨_, s.run_off f h, rfl, rfl⟩
  · exact ⟨_, s.run_on f h, rfl, rfl⟩

theorem State.runIf_ok (s : State) (n : String) (f : State → State) : s.runIf true n f = s.run f := rfl

theorem State.runIf_bad (s : State) (n : String) (f : State → State) : s.runIf false n f = .fault (.illFormed n) := rfl

/-- An access that is heard runs its effect. -/
theorem State.access_on (s : State) (r : Requester) (f : State → State) (h : s.aon.up = true) (hr : s.heard r = true) :
    s.access r f = .next { f s with pending := s.pending, aon := s.aon } := by
  simp [State.access, State.run, State.whenOk, h, hr]

/-- An access that is not heard changes nothing. -/
theorem State.access_deaf (s : State) (r : Requester) (f : State → State) (hr : s.heard r = false) : s.access r f = .next s := by
  simp [State.access, State.run, State.whenOk, hr]

@[simp] theorem State.whenOk_true (s : State) (f : State → State) : s.whenOk true f = f s := rfl
@[simp] theorem State.whenOk_false (s : State) (f : State → State) : s.whenOk false f = s := rfl

/-- A run of the AON domain answers a next state with the counts given, or, without the supply, the state as it was. -/
theorem State.runAon_next (s : State) (a : Aon) (f : State → State) :
    ∃ t, s.runAon a f = .next t ∧ t.pending = s.pending ∧ t.aon = if s.aon.up then a else s.aon := by
  unfold State.runAon
  cases s.aon.up
  · exact ⟨_, rfl, rfl, rfl⟩
  · exact ⟨_, rfl, rfl, rfl⟩

/-! ### Every command is one of them -/

/-- A command other than those of the AON supply and of RCLK is a run, or a run of pin data that fits. -/
theorem exec_form (c : Instr) (h1 : ∀ b, c ≠ .aonPowerUp b) (h2 : c ≠ .aonPowerLoss) (h3 : c ≠ .rclkAbsent) (h4 : c ≠ .rclkReturn) (s : State) :
    (∃ f, exec c s = s.run f) ∨ (∃ ok n f, exec c s = s.runIf ok n f) := by
  cases c
  case aonPowerUp b => exact absurd rfl (h1 b)
  case aonPowerLoss => exact absurd rfl h2
  case rclkAbsent => exact absurd rfl h3
  case rclkReturn => exact absurd rfl h4
  case clockWindow =>
    unfold exec execClockWindow
    exact .inl ⟨_, rfl⟩
  case pllLossOfLock =>
    unfold exec execPllLossOfLock
    exact .inl ⟨_, rfl⟩
  case pwrClkRestartSeq =>
    unfold exec execPwrClkRestartSeq State.access
    exact .inl ⟨_, rfl⟩
  case pwrClkRestartArray =>
    unfold exec execPwrClkRestartArray State.access
    exact .inl ⟨_, rfl⟩
  case pktSportRestart =>
    unfold exec execPktSportRestart State.access
    exact .inl ⟨_, rfl⟩
  case stkSportRestart =>
    unfold exec execStkSportRestart State.access
    exact .inl ⟨_, rfl⟩
  case portLockEnable =>
    unfold exec execPortLockEnable State.access
    exact .inl ⟨_, rfl⟩
  case portLockMeasure =>
    unfold exec execPortLockMeasure
    exact .inl ⟨_, rfl⟩
  case portLockSet =>
    unfold exec execPortLockSet
    exact .inl ⟨_, rfl⟩
  case portLockCheck =>
    unfold exec execPortLockCheck
    exact .inl ⟨_, rfl⟩
  case portLockDisable =>
    unfold exec execPortLockDisable State.access
    exact .inl ⟨_, rfl⟩
  case portLockExit =>
    unfold exec execPortLockExit
    exact .inl ⟨_, rfl⟩
  case streamIngressPacket =>
    unfold exec execStreamIngressPacket
    exact .inr ⟨_, _, _, rfl⟩
  case streamEgressCredit =>
    unfold exec execStreamEgressCredit
    exact .inl ⟨_, rfl⟩
  case streamEgressStart =>
    unfold exec execStreamEgressStart
    exact .inl ⟨_, rfl⟩
  case streamEgressEop =>
    unfold exec execStreamEgressEop
    exact .inl ⟨_, rfl⟩
  case holdRelease =>
    unfold exec execHoldRelease
    exact .inl ⟨_, rfl⟩
  case stackCmdIssue =>
    unfold exec execStackCmdIssue
    exact .inl ⟨_, rfl⟩
  case stackCmdAccept =>
    unfold exec execStackCmdAccept
    exact .inl ⟨_, rfl⟩
  case stackResponse =>
    unfold exec execStackResponse
    exact .inr ⟨_, _, _, rfl⟩
  case stackRspTimeout =>
    unfold exec execStackRspTimeout
    exact .inl ⟨_, rfl⟩
  case skPcDown =>
    unfold exec execSkPcDown
    exact .inl ⟨_, rfl⟩
  case relayIngressPacket =>
    unfold exec execRelayIngressPacket
    exact .inr ⟨_, _, _, rfl⟩
  case relayCredit =>
    unfold exec execRelayCredit
    exact .inl ⟨_, rfl⟩
  case relayEgressStart =>
    unfold exec execRelayEgressStart
    exact .inl ⟨_, rfl⟩
  case rlIUpChange =>
    unfold exec execRlIUpChange
    exact .inl ⟨_, rfl⟩
  case dxSelWrite =>
    unfold exec execDxSelWrite State.access
    exact .inl ⟨_, rfl⟩
  case dxDataRead =>
    unfold exec execDxDataRead State.access
    exact .inl ⟨_, rfl⟩
  case dxDataWrite =>
    unfold exec execDxDataWrite State.access
    exact .inl ⟨_, rfl⟩
  case objectWrite =>
    unfold exec execObjectWrite State.access
    exact .inl ⟨_, rfl⟩
  case sbLaneFailed =>
    unfold exec execSbLaneFailed
    exact .inl ⟨_, rfl⟩
  case sbLaneUsable =>
    unfold exec execSbLaneUsable
    exact .inl ⟨_, rfl⟩
  case sbStateTimer =>
    unfold exec execSbStateTimer
    exact .inl ⟨_, rfl⟩
  case sbState =>
    unfold exec execSbState
    exact .inl ⟨_, rfl⟩
  case sidebandFrameDiscard =>
    unfold exec execSidebandFrameDiscard
    exact .inl ⟨_, rfl⟩
  case train =>
    unfold exec execTrain
    exact .inl ⟨_, rfl⟩
  case trainFrameRepeat =>
    unfold exec execTrainFrameRepeat
    exact .inl ⟨_, rfl⟩
  case slate =>
    unfold exec execSlate
    exact .inr ⟨_, _, _, rfl⟩
  case laneFault =>
    unfold exec execLaneFault
    exact .inl ⟨_, rfl⟩
  case laneFaultRepeat =>
    unfold exec execLaneFaultRepeat
    exact .inl ⟨_, rfl⟩
  case laneAck =>
    unfold exec execLaneAck
    exact .inl ⟨_, rfl⟩
  case bypass =>
    unfold exec execBypass
    exact .inl ⟨_, rfl⟩
  case samplePreload =>
    unfold exec execSamplePreload
    exact .inl ⟨_, rfl⟩
  case extest =>
    unfold exec execExtest
    exact .inl ⟨_, rfl⟩
  case idcode =>
    unfold exec execIdcode
    exact .inl ⟨_, rfl⟩
  case intestWrap =>
    unfold exec execIntestWrap
    exact .inl ⟨_, rfl⟩
  case wsBypass =>
    unfold exec execWsBypass
    exact .inl ⟨_, rfl⟩
  case wsExtest =>
    unfold exec execWsExtest
    exact .inl ⟨_, rfl⟩
  case wsIntest =>
    unfold exec execWsIntest
    exact .inl ⟨_, rfl⟩
  case wsScan =>
    unfold exec execWsScan
    exact .inl ⟨_, rfl⟩
  case trnStart =>
    unfold exec execTrnStart State.access
    exact .inl ⟨_, rfl⟩
  case plannedRetrain =>
    unfold exec execPlannedRetrain State.access
    exact .inl ⟨_, rfl⟩
  case trainStateTimeout =>
    unfold exec execTrainStateTimeout
    exact .inl ⟨_, rfl⟩
  case connectDone =>
    unfold exec execConnectDone
    exact .inl ⟨_, rfl⟩
  case equaliseDone =>
    unfold exec execEqualiseDone
    exact .inl ⟨_, rfl⟩
  case laneCheckDone =>
    unfold exec execLaneCheckDone
    exact .inl ⟨_, rfl⟩
  case flitSync =>
    unfold exec execFlitSync
    exact .inl ⟨_, rfl⟩
  case linkActive =>
    unfold exec execLinkActive
    exact .inl ⟨_, rfl⟩
  case scramblerReload =>
    unfold exec execScramblerReload
    exact .inl ⟨_, rfl⟩
  case phyGroupOffWrite =>
    unfold exec execPhyGroupOffWrite State.access
    exact .inl ⟨_, rfl⟩
  case cdrLockLoss =>
    unfold exec execCdrLockLoss
    exact .inl ⟨_, rfl⟩
  case laneFecThreshold =>
    unfold exec execLaneFecThreshold
    exact .inl ⟨_, rfl⟩
  case rxRetire =>
    unfold exec execRxRetire State.access
    exact .inl ⟨_, rfl⟩
  case prepareSend =>
    unfold exec execPrepareSend
    exact .inl ⟨_, rfl⟩
  case prepareFlit =>
    unfold exec execPrepareFlit
    exact .inr ⟨_, _, _, rfl⟩
  case spliceReady =>
    unfold exec execSpliceReady
    exact .inl ⟨_, rfl⟩
  case commitSend =>
    unfold exec execCommitSend
    exact .inl ⟨_, rfl⟩
  case commitFlit =>
    unfold exec execCommitFlit
    exact .inr ⟨_, _, _, rfl⟩
  case spliceTimeout =>
    unfold exec execSpliceTimeout
    exact .inl ⟨_, rfl⟩
  case spliceRetry =>
    unfold exec execSpliceRetry
    exact .inl ⟨_, rfl⟩
  case cancelFlit =>
    unfold exec execCancelFlit
    exact .inr ⟨_, _, _, rfl⟩
  case measureMarker =>
    unfold exec execMeasureMarker
    exact .inr ⟨_, _, _, rfl⟩
  case latMeasureRepeat =>
    unfold exec execLatMeasureRepeat
    exact .inl ⟨_, rfl⟩
  case returnMarker =>
    unfold exec execReturnMarker
    exact .inr ⟨_, _, _, rfl⟩
  case setMarker =>
    unfold exec execSetMarker
    exact .inr ⟨_, _, _, rfl⟩
  case verifyMarker =>
    unfold exec execVerifyMarker
    exact .inr ⟨_, _, _, rfl⟩
  case verifyReturn =>
    unfold exec execVerifyReturn
    exact .inr ⟨_, _, _, rfl⟩
  case latCheckTimer =>
    unfold exec execLatCheckTimer
    exact .inl ⟨_, rfl⟩
  case markerTimeout =>
    unfold exec execMarkerTimeout
    exact .inl ⟨_, rfl⟩
  case dataFlit =>
    unfold exec execDataFlit
    exact .inr ⟨_, _, _, rfl⟩
  case idleFlit =>
    unfold exec execIdleFlit
    exact .inr ⟨_, _, _, rfl⟩
  case flitFail =>
    unfold exec execFlitFail
    exact .inr ⟨_, _, _, rfl⟩
  case flitProtoErr =>
    unfold exec execFlitProtoErr
    exact .inr ⟨_, _, _, rfl⟩
  case linkPacketStart =>
    unfold exec execLinkPacketStart
    exact .inl ⟨_, rfl⟩
  case nakRepeat =>
    unfold exec execNakRepeat
    exact .inl ⟨_, rfl⟩
  case ackTimeoutReplay =>
    unfold exec execAckTimeoutReplay
    exact .inl ⟨_, rfl⟩
  case spillWrite =>
    unfold exec execSpillWrite
    exact .inl ⟨_, rfl⟩
  case spillWriteDone =>
    unfold exec execSpillWriteDone
    exact .inl ⟨_, rfl⟩
  case spillReadDone =>
    unfold exec execSpillReadDone
    exact .inl ⟨_, rfl⟩
  case lnkSpillEnWrite =>
    unfold exec execLnkSpillEnWrite State.access
    exact .inl ⟨_, rfl⟩
  case diagnosisStart =>
    unfold exec execDiagnosisStart
    exact .inl ⟨_, rfl⟩
  case diagnosisEnd =>
    unfold exec execDiagnosisEnd
    exact .inl ⟨_, rfl⟩
  case idleLimitTimeout =>
    unfold exec execIdleLimitTimeout
    exact .inl ⟨_, rfl⟩
  case ackStallTimeout =>
    unfold exec execAckStallTimeout
    exact .inl ⟨_, rfl⟩
  case lnkForceDown =>
    unfold exec execLnkForceDown State.access
    exact .inl ⟨_, rfl⟩
  case packetTakeOn =>
    unfold exec execPacketTakeOn
    exact .inl ⟨_, rfl⟩
  case pktFaWrite =>
    unfold exec execPktFaWrite State.access
    exact .inl ⟨_, rfl⟩
  case reqTimeout =>
    unfold exec execReqTimeout
    exact .inl ⟨_, rfl⟩
  case msgTimeout =>
    unfold exec execMsgTimeout
    exact .inl ⟨_, rfl⟩
  case routeActiveWrite =>
    unfold exec execRouteActiveWrite State.access
    exact .inl ⟨_, rfl⟩
  case routeTableWrite =>
    unfold exec execRouteTableWrite State.access
    exact .inl ⟨_, rfl⟩
  case gateStart =>
    unfold exec execGateStart
    exact .inl ⟨_, rfl⟩
  case admissionHopTimeout =>
    unfold exec execAdmissionHopTimeout
    exact .inl ⟨_, rfl⟩
  case flowRecompute =>
    unfold exec execFlowRecompute
    exact .inl ⟨_, rfl⟩
  case tclRecheckRate =>
    unfold exec execTclRecheckRate State.access
    exact .inl ⟨_, rfl⟩
  case recheckDone =>
    unfold exec execRecheckDone
    exact .inl ⟨_, rfl⟩
  case queueSample =>
    unfold exec execQueueSample
    exact .inl ⟨_, rfl⟩
  case queueSamplesRead =>
    unfold exec execQueueSamplesRead State.access
    exact .inl ⟨_, rfl⟩
  case portCountersRead =>
    unfold exec execPortCountersRead State.access
    exact .inl ⟨_, rfl⟩
  case opSubmit =>
    unfold exec execOpSubmit
    exact .inl ⟨_, rfl⟩
  case descriptorStart =>
    unfold exec execDescriptorStart
    exact .inl ⟨_, rfl⟩
  case tileDispatch =>
    unfold exec execTileDispatch
    exact .inl ⟨_, rfl⟩
  case tileDone =>
    unfold exec execTileDone
    exact .inl ⟨_, rfl⟩
  case cellFault =>
    unfold exec execCellFault
    exact .inl ⟨_, rfl⟩
  case operandAccessDone =>
    unfold exec execOperandAccessDone
    exact .inl ⟨_, rfl⟩
  case descriptorFinish =>
    unfold exec execDescriptorFinish
    exact .inl ⟨_, rfl⟩
  case clusterIdleGate =>
    unfold exec execClusterIdleGate
    exact .inl ⟨_, rfl⟩
  case clusterWake =>
    unfold exec execClusterWake
    exact .inl ⟨_, rfl⟩
  case wcetRecompute =>
    unfold exec execWcetRecompute
    exact .inl ⟨_, rfl⟩
  case redWr =>
    unfold exec execRedWr
    exact .inl ⟨_, rfl⟩
  case reduceFinish =>
    unfold exec execReduceFinish
    exact .inl ⟨_, rfl⟩
  case scrubRead =>
    unfold exec execScrubRead
    exact .inl ⟨_, rfl⟩
  case rekeyStep =>
    unfold exec execRekeyStep
    exact .inl ⟨_, rfl⟩
  case stkPartApply =>
    unfold exec execStkPartApply State.access
    exact .inl ⟨_, rfl⟩
  case keyLoad =>
    unfold exec execKeyLoad
    exact .inl ⟨_, rfl⟩
  case keySelect =>
    unfold exec execKeySelect
    exact .inl ⟨_, rfl⟩
  case keyClear =>
    unfold exec execKeyClear
    exact .inl ⟨_, rfl⟩
  case digestDone =>
    unfold exec execDigestDone
    exact .inl ⟨_, rfl⟩
  case complementCheck =>
    unfold exec execComplementCheck
    exact .inl ⟨_, rfl⟩
  case continuityFrame =>
    unfold exec execContinuityFrame
    exact .inr ⟨_, _, _, rfl⟩
  case yieldEngine =>
    unfold exec execYieldEngine
    exact .inl ⟨_, rfl⟩
  case takeoverResume =>
    unfold exec execTakeoverResume
    exact .inl ⟨_, rfl⟩
  case standinSegmentTest =>
    unfold exec execStandinSegmentTest
    exact .inl ⟨_, rfl⟩
  case segmentDone =>
    unfold exec execSegmentDone
    exact .inl ⟨_, rfl⟩
  case engineRetestDone =>
    unfold exec execEngineRetestDone
    exact .inl ⟨_, rfl⟩
  case resyncDone =>
    unfold exec execResyncDone
    exact .inl ⟨_, rfl⟩
  case sharedEccError =>
    unfold exec execSharedEccError
    exact .inl ⟨_, rfl⟩
  case fence =>
    unfold exec execFence State.access
    exact .inl ⟨_, rfl⟩
  case unfence =>
    unfold exec execUnfence State.access
    exact .inl ⟨_, rfl⟩
  case tempSample =>
    unfold exec execTempSample
    exact .inl ⟨_, rfl⟩
  case trimStep =>
    unfold exec execTrimStep
    exact .inl ⟨_, rfl⟩
  case recalStart =>
    unfold exec execRecalStart
    exact .inl ⟨_, rfl⟩
  case recalDone =>
    unfold exec execRecalDone
    exact .inl ⟨_, rfl⟩
  case deskewCheck =>
    unfold exec execDeskewCheck
    exact .inl ⟨_, rfl⟩
  case seqWatchdog =>
    unfold exec execSeqWatchdog
    exact .inl ⟨_, rfl⟩
  case ageingMonitor =>
    unfold exec execAgeingMonitor
    exact .inl ⟨_, rfl⟩
  case eyeScanStart =>
    unfold exec execEyeScanStart
    exact .inl ⟨_, rfl⟩
  case eyeScanDone =>
    unfold exec execEyeScanDone
    exact .inl ⟨_, rfl⟩
  case marginPlan =>
    unfold exec execMarginPlan
    exact .inl ⟨_, rfl⟩
  case laneRetire =>
    unfold exec execLaneRetire
    exact .inl ⟨_, rfl⟩
  case stepGraceEnd =>
    unfold exec execStepGraceEnd
    exact .inl ⟨_, rfl⟩
  case fieldTestTurn =>
    unfold exec execFieldTestTurn
    exact .inl ⟨_, rfl⟩
  case testDone =>
    unfold exec execTestDone
    exact .inl ⟨_, rfl⟩
  case powerEstimate =>
    unfold exec execPowerEstimate
    exact .inl ⟨_, rfl⟩
  case scrRunCluster =>
    unfold exec execScrRunCluster State.access
    exact .inl ⟨_, rfl⟩
  case scrRunLaneGroup =>
    unfold exec execScrRunLaneGroup State.access
    exact .inl ⟨_, rfl⟩
  case scrRunFarTest =>
    unfold exec execScrRunFarTest State.access
    exact .inl ⟨_, rfl⟩
  case scrRunFarRespond =>
    unfold exec execScrRunFarRespond State.access
    exact .inl ⟨_, rfl⟩
  case scrRunStandin =>
    unfold exec execScrRunStandin State.access
    exact .inl ⟨_, rfl⟩
  case scrRunScratch =>
    unfold exec execScrRunScratch State.access
    exact .inl ⟨_, rfl⟩
  case scrRunSharedStorage =>
    unfold exec execScrRunSharedStorage State.access
    exact .inl ⟨_, rfl⟩
  case scrRunAnalog =>
    unfold exec execScrRunAnalog State.access
    exact .inl ⟨_, rfl⟩
  case scrZeroise =>
    unfold exec execScrZeroise State.access
    exact .inl ⟨_, rfl⟩
  case zeroiseDone =>
    unfold exec execZeroiseDone
    exact .inl ⟨_, rfl⟩
  case ringRead =>
    unfold exec execRingRead
    exact .inl ⟨_, rfl⟩
  case ringWrite =>
    unfold exec execRingWrite
    exact .inl ⟨_, rfl⟩
  case ringLock =>
    unfold exec execRingLock
    exact .inl ⟨_, rfl⟩
  case ringUnlock =>
    unfold exec execRingUnlock
    exact .inl ⟨_, rfl⟩
  case ringEvent =>
    unfold exec execRingEvent
    exact .inl ⟨_, rfl⟩
  case ringHop =>
    unfold exec execRingHop
    exact .inl ⟨_, rfl⟩
  case ringReply =>
    unfold exec execRingReply
    exact .inl ⟨_, rfl⟩
  case ringBroken =>
    unfold exec execRingBroken
    exact .inl ⟨_, rfl⟩
  case ringRestored =>
    unfold exec execRingRestored
    exact .inl ⟨_, rfl⟩
  case gatewaySend =>
    unfold exec execGatewaySend State.access
    exact .inl ⟨_, rfl⟩
  case gatewayTimeout =>
    unfold exec execGatewayTimeout
    exact .inl ⟨_, rfl⟩
  case mgtScriptLoad =>
    unfold exec execMgtScriptLoad State.access
    exact .inl ⟨_, rfl⟩
  case mgtSceneLoad =>
    unfold exec execMgtSceneLoad State.access
    exact .inl ⟨_, rfl⟩
  case mgtSceneCommit =>
    unfold exec execMgtSceneCommit State.access
    exact .inl ⟨_, rfl⟩
  case commitDone =>
    unfold exec execCommitDone
    exact .inl ⟨_, rfl⟩
  case lockRead =>
    unfold exec execLockRead State.access
    exact .inl ⟨_, rfl⟩
  case lockRelease =>
    unfold exec execLockRelease State.access
    exact .inl ⟨_, rfl⟩
  case mgtLockForce =>
    unfold exec execMgtLockForce State.access
    exact .inl ⟨_, rfl⟩
  case mgtSeal =>
    unfold exec execMgtSeal State.access
    exact .inl ⟨_, rfl⟩
  case mailboxSend =>
    unfold exec execMailboxSend
    exact .inl ⟨_, rfl⟩
  case mailboxAbort =>
    unfold exec execMailboxAbort
    exact .inl ⟨_, rfl⟩
  case mailboxRelease =>
    unfold exec execMailboxRelease
    exact .inl ⟨_, rfl⟩
  case mailboxTaken =>
    unfold exec execMailboxTaken
    exact .inl ⟨_, rfl⟩
  case tunnel =>
    unfold exec execTunnel
    exact .inl ⟨_, rfl⟩
  case tunnelS =>
    unfold exec execTunnelS
    exact .inl ⟨_, rfl⟩
  case tunnelTimeout =>
    unfold exec execTunnelTimeout
    exact .inl ⟨_, rfl⟩
  case echo =>
    unfold exec execEcho
    exact .inl ⟨_, rfl⟩
  case objRead =>
    unfold exec execObjRead
    exact .inl ⟨_, rfl⟩
  case objWrite =>
    unfold exec execObjWrite
    exact .inl ⟨_, rfl⟩
  case eventRecordWrite =>
    unfold exec execEventRecordWrite
    exact .inl ⟨_, rfl⟩
  case eventWriteDone =>
    unfold exec execEventWriteDone
    exact .inl ⟨_, rfl⟩
  case eventWriteRetry =>
    unfold exec execEventWriteRetry
    exact .inl ⟨_, rfl⟩
  case pstateWrite =>
    unfold exec execPstateWrite
    exact .inl ⟨_, rfl⟩
  case mgtEvtCidxWrite =>
    unfold exec execMgtEvtCidxWrite State.access
    exact .inl ⟨_, rfl⟩
  case eventRingTimeout =>
    unfold exec execEventRingTimeout
    exact .inl ⟨_, rfl⟩
  case eventRingRetry =>
    unfold exec execEventRingRetry
    exact .inl ⟨_, rfl⟩
  case pwrDomainCtrlWrite =>
    unfold exec execPwrDomainCtrlWrite State.access
    exact .inl ⟨_, rfl⟩
  case pwrCycle =>
    unfold exec execPwrCycle State.access
    exact .inl ⟨_, rfl⟩
  case domainReady =>
    unfold exec execDomainReady
    exact .inl ⟨_, rfl⟩
  case pwrReset =>
    unfold exec execPwrReset State.access
    exact .inl ⟨_, rfl⟩
  case bringupStep =>
    unfold exec execBringupStep
    exact .inl ⟨_, rfl⟩
  case pwrFwLoad =>
    unfold exec execPwrFwLoad State.access
    exact .inl ⟨_, rfl⟩
  case fwOnlineUpdate =>
    unfold exec execFwOnlineUpdate State.access
    exact .inl ⟨_, rfl⟩
  case sbCharacterLock =>
    unfold exec execSbCharacterLock
    exact .inl ⟨_, rfl⟩
  case sensorReferenceCheck =>
    unfold exec execSensorReferenceCheck
    exact .inl ⟨_, rfl⟩
  case seqLockRetry =>
    unfold exec execSeqLockRetry
    exact .inl ⟨_, rfl⟩
  case zeroiseClearTimeout =>
    unfold exec execZeroiseClearTimeout
    exact .inl ⟨_, rfl⟩
  case resetSettleTimeout =>
    unfold exec execResetSettleTimeout
    exact .inl ⟨_, rfl⟩
  case drainRelayHoldEnd =>
    unfold exec execDrainRelayHoldEnd
    exact .inl ⟨_, rfl⟩
  case redWrAddDone =>
    unfold exec execRedWrAddDone
    exact .inl ⟨_, rfl⟩
  case admissionHopQuery =>
    unfold exec execAdmissionHopQuery
    exact .inl ⟨_, rfl⟩
  case transitRegisterUpdate =>
    unfold exec execTransitRegisterUpdate
    exact .inl ⟨_, rfl⟩
  case mailboxBufferWrite =>
    unfold exec execMailboxBufferWrite
    exact .inl ⟨_, rfl⟩
  case gatewayRequestWrite =>
    unfold exec execGatewayRequestWrite State.access
    exact .inl ⟨_, rfl⟩

/-- The pin data of a well-formed command fits. -/
theorem exec_form_wf (c : Instr) (h1 : ∀ b, c ≠ .aonPowerUp b) (h2 : c ≠ .aonPowerLoss) (h3 : c ≠ .rclkAbsent) (h4 : c ≠ .rclkReturn)
    (hw : c.WellFormed = true) (s : State) : ∃ f, exec c s = s.run f := by
  cases c
  case aonPowerUp b => exact absurd rfl (h1 b)
  case aonPowerLoss => exact absurd rfl h2
  case rclkAbsent => exact absurd rfl h3
  case rclkReturn => exact absurd rfl h4
  case clockWindow =>
    unfold exec execClockWindow
    exact ⟨_, rfl⟩
  case pllLossOfLock =>
    unfold exec execPllLossOfLock
    exact ⟨_, rfl⟩
  case pwrClkRestartSeq =>
    unfold exec execPwrClkRestartSeq State.access
    exact ⟨_, rfl⟩
  case pwrClkRestartArray =>
    unfold exec execPwrClkRestartArray State.access
    exact ⟨_, rfl⟩
  case pktSportRestart =>
    unfold exec execPktSportRestart State.access
    exact ⟨_, rfl⟩
  case stkSportRestart =>
    unfold exec execStkSportRestart State.access
    exact ⟨_, rfl⟩
  case portLockEnable =>
    unfold exec execPortLockEnable State.access
    exact ⟨_, rfl⟩
  case portLockMeasure =>
    unfold exec execPortLockMeasure
    exact ⟨_, rfl⟩
  case portLockSet =>
    unfold exec execPortLockSet
    exact ⟨_, rfl⟩
  case portLockCheck =>
    unfold exec execPortLockCheck
    exact ⟨_, rfl⟩
  case portLockDisable =>
    unfold exec execPortLockDisable State.access
    exact ⟨_, rfl⟩
  case portLockExit =>
    unfold exec execPortLockExit
    exact ⟨_, rfl⟩
  case streamIngressPacket =>
    unfold exec execStreamIngressPacket State.runIf
    refine ⟨_, if_pos ?_⟩
    simp only [Instr.WellFormed, RxFlit.wf, flitOk, Bool.and_eq_true] at hw ⊢
    first
      | exact hw
      | exact hw.1
      | exact hw.1.1.1
      | exact ⟨hw.1.1, hw.1.2⟩
  case streamEgressCredit =>
    unfold exec execStreamEgressCredit
    exact ⟨_, rfl⟩
  case streamEgressStart =>
    unfold exec execStreamEgressStart
    exact ⟨_, rfl⟩
  case streamEgressEop =>
    unfold exec execStreamEgressEop
    exact ⟨_, rfl⟩
  case holdRelease =>
    unfold exec execHoldRelease
    exact ⟨_, rfl⟩
  case stackCmdIssue =>
    unfold exec execStackCmdIssue
    exact ⟨_, rfl⟩
  case stackCmdAccept =>
    unfold exec execStackCmdAccept
    exact ⟨_, rfl⟩
  case stackResponse =>
    unfold exec execStackResponse State.runIf
    refine ⟨_, if_pos ?_⟩
    simp only [Instr.WellFormed, RxFlit.wf, flitOk, Bool.and_eq_true] at hw ⊢
    first
      | exact hw
      | exact hw.1
      | exact hw.1.1.1
      | exact ⟨hw.1.1, hw.1.2⟩
  case stackRspTimeout =>
    unfold exec execStackRspTimeout
    exact ⟨_, rfl⟩
  case skPcDown =>
    unfold exec execSkPcDown
    exact ⟨_, rfl⟩
  case relayIngressPacket =>
    unfold exec execRelayIngressPacket State.runIf
    refine ⟨_, if_pos ?_⟩
    simp only [Instr.WellFormed, RxFlit.wf, flitOk, Bool.and_eq_true] at hw ⊢
    first
      | exact hw
      | exact hw.1
      | exact hw.1.1.1
      | exact ⟨hw.1.1, hw.1.2⟩
  case relayCredit =>
    unfold exec execRelayCredit
    exact ⟨_, rfl⟩
  case relayEgressStart =>
    unfold exec execRelayEgressStart
    exact ⟨_, rfl⟩
  case rlIUpChange =>
    unfold exec execRlIUpChange
    exact ⟨_, rfl⟩
  case dxSelWrite =>
    unfold exec execDxSelWrite State.access
    exact ⟨_, rfl⟩
  case dxDataRead =>
    unfold exec execDxDataRead State.access
    exact ⟨_, rfl⟩
  case dxDataWrite =>
    unfold exec execDxDataWrite State.access
    exact ⟨_, rfl⟩
  case objectWrite =>
    unfold exec execObjectWrite State.access
    exact ⟨_, rfl⟩
  case sbLaneFailed =>
    unfold exec execSbLaneFailed
    exact ⟨_, rfl⟩
  case sbLaneUsable =>
    unfold exec execSbLaneUsable
    exact ⟨_, rfl⟩
  case sbStateTimer =>
    unfold exec execSbStateTimer
    exact ⟨_, rfl⟩
  case sbState =>
    unfold exec execSbState
    exact ⟨_, rfl⟩
  case sidebandFrameDiscard =>
    unfold exec execSidebandFrameDiscard
    exact ⟨_, rfl⟩
  case train =>
    unfold exec execTrain
    exact ⟨_, rfl⟩
  case trainFrameRepeat =>
    unfold exec execTrainFrameRepeat
    exact ⟨_, rfl⟩
  case slate =>
    unfold exec execSlate State.runIf
    refine ⟨_, if_pos ?_⟩
    simp only [Instr.WellFormed, RxFlit.wf, flitOk, Bool.and_eq_true] at hw ⊢
    first
      | exact hw
      | exact hw.1
      | exact hw.1.1.1
      | exact ⟨hw.1.1, hw.1.2⟩
  case laneFault =>
    unfold exec execLaneFault
    exact ⟨_, rfl⟩
  case laneFaultRepeat =>
    unfold exec execLaneFaultRepeat
    exact ⟨_, rfl⟩
  case laneAck =>
    unfold exec execLaneAck
    exact ⟨_, rfl⟩
  case bypass =>
    unfold exec execBypass
    exact ⟨_, rfl⟩
  case samplePreload =>
    unfold exec execSamplePreload
    exact ⟨_, rfl⟩
  case extest =>
    unfold exec execExtest
    exact ⟨_, rfl⟩
  case idcode =>
    unfold exec execIdcode
    exact ⟨_, rfl⟩
  case intestWrap =>
    unfold exec execIntestWrap
    exact ⟨_, rfl⟩
  case wsBypass =>
    unfold exec execWsBypass
    exact ⟨_, rfl⟩
  case wsExtest =>
    unfold exec execWsExtest
    exact ⟨_, rfl⟩
  case wsIntest =>
    unfold exec execWsIntest
    exact ⟨_, rfl⟩
  case wsScan =>
    unfold exec execWsScan
    exact ⟨_, rfl⟩
  case trnStart =>
    unfold exec execTrnStart State.access
    exact ⟨_, rfl⟩
  case plannedRetrain =>
    unfold exec execPlannedRetrain State.access
    exact ⟨_, rfl⟩
  case trainStateTimeout =>
    unfold exec execTrainStateTimeout
    exact ⟨_, rfl⟩
  case connectDone =>
    unfold exec execConnectDone
    exact ⟨_, rfl⟩
  case equaliseDone =>
    unfold exec execEqualiseDone
    exact ⟨_, rfl⟩
  case laneCheckDone =>
    unfold exec execLaneCheckDone
    exact ⟨_, rfl⟩
  case flitSync =>
    unfold exec execFlitSync
    exact ⟨_, rfl⟩
  case linkActive =>
    unfold exec execLinkActive
    exact ⟨_, rfl⟩
  case scramblerReload =>
    unfold exec execScramblerReload
    exact ⟨_, rfl⟩
  case phyGroupOffWrite =>
    unfold exec execPhyGroupOffWrite State.access
    exact ⟨_, rfl⟩
  case cdrLockLoss =>
    unfold exec execCdrLockLoss
    exact ⟨_, rfl⟩
  case laneFecThreshold =>
    unfold exec execLaneFecThreshold
    exact ⟨_, rfl⟩
  case rxRetire =>
    unfold exec execRxRetire State.access
    exact ⟨_, rfl⟩
  case prepareSend =>
    unfold exec execPrepareSend
    exact ⟨_, rfl⟩
  case prepareFlit =>
    unfold exec execPrepareFlit State.runIf
    refine ⟨_, if_pos ?_⟩
    simp only [Instr.WellFormed, RxFlit.wf, flitOk, Bool.and_eq_true] at hw ⊢
    first
      | exact hw
      | exact hw.1
      | exact hw.1.1.1
      | exact ⟨hw.1.1, hw.1.2⟩
  case spliceReady =>
    unfold exec execSpliceReady
    exact ⟨_, rfl⟩
  case commitSend =>
    unfold exec execCommitSend
    exact ⟨_, rfl⟩
  case commitFlit =>
    unfold exec execCommitFlit State.runIf
    refine ⟨_, if_pos ?_⟩
    simp only [Instr.WellFormed, RxFlit.wf, flitOk, Bool.and_eq_true] at hw ⊢
    first
      | exact hw
      | exact hw.1
      | exact hw.1.1.1
      | exact ⟨hw.1.1, hw.1.2⟩
  case spliceTimeout =>
    unfold exec execSpliceTimeout
    exact ⟨_, rfl⟩
  case spliceRetry =>
    unfold exec execSpliceRetry
    exact ⟨_, rfl⟩
  case cancelFlit =>
    unfold exec execCancelFlit State.runIf
    refine ⟨_, if_pos ?_⟩
    simp only [Instr.WellFormed, RxFlit.wf, flitOk, Bool.and_eq_true] at hw ⊢
    first
      | exact hw
      | exact hw.1
      | exact hw.1.1.1
      | exact ⟨hw.1.1, hw.1.2⟩
  case measureMarker =>
    unfold exec execMeasureMarker State.runIf
    refine ⟨_, if_pos ?_⟩
    simp only [Instr.WellFormed, RxFlit.wf, flitOk, Bool.and_eq_true] at hw ⊢
    first
      | exact hw
      | exact hw.1
      | exact hw.1.1.1
      | exact ⟨hw.1.1, hw.1.2⟩
  case latMeasureRepeat =>
    unfold exec execLatMeasureRepeat
    exact ⟨_, rfl⟩
  case returnMarker =>
    unfold exec execReturnMarker State.runIf
    refine ⟨_, if_pos ?_⟩
    simp only [Instr.WellFormed, RxFlit.wf, flitOk, Bool.and_eq_true] at hw ⊢
    first
      | exact hw
      | exact hw.1
      | exact hw.1.1.1
      | exact ⟨hw.1.1, hw.1.2⟩
  case setMarker =>
    unfold exec execSetMarker State.runIf
    refine ⟨_, if_pos ?_⟩
    simp only [Instr.WellFormed, RxFlit.wf, flitOk, Bool.and_eq_true] at hw ⊢
    first
      | exact hw
      | exact hw.1
      | exact hw.1.1.1
      | exact ⟨hw.1.1, hw.1.2⟩
  case verifyMarker =>
    unfold exec execVerifyMarker State.runIf
    refine ⟨_, if_pos ?_⟩
    simp only [Instr.WellFormed, RxFlit.wf, flitOk, Bool.and_eq_true] at hw ⊢
    first
      | exact hw
      | exact hw.1
      | exact hw.1.1.1
      | exact ⟨hw.1.1, hw.1.2⟩
  case verifyReturn =>
    unfold exec execVerifyReturn State.runIf
    refine ⟨_, if_pos ?_⟩
    simp only [Instr.WellFormed, RxFlit.wf, flitOk, Bool.and_eq_true] at hw ⊢
    first
      | exact hw
      | exact hw.1
      | exact hw.1.1.1
      | exact ⟨hw.1.1, hw.1.2⟩
  case latCheckTimer =>
    unfold exec execLatCheckTimer
    exact ⟨_, rfl⟩
  case markerTimeout =>
    unfold exec execMarkerTimeout
    exact ⟨_, rfl⟩
  case dataFlit =>
    unfold exec execDataFlit State.runIf
    refine ⟨_, if_pos ?_⟩
    simp only [Instr.WellFormed, RxFlit.wf, flitOk, Bool.and_eq_true] at hw ⊢
    first
      | exact hw
      | exact hw.1
      | exact hw.1.1.1
      | exact ⟨hw.1.1, hw.1.2⟩
  case idleFlit =>
    unfold exec execIdleFlit State.runIf
    refine ⟨_, if_pos ?_⟩
    simp only [Instr.WellFormed, RxFlit.wf, flitOk, Bool.and_eq_true] at hw ⊢
    first
      | exact hw
      | exact hw.1
      | exact hw.1.1.1
      | exact ⟨hw.1.1, hw.1.2⟩
  case flitFail =>
    unfold exec execFlitFail State.runIf
    refine ⟨_, if_pos ?_⟩
    simp only [Instr.WellFormed, RxFlit.wf, flitOk, Bool.and_eq_true] at hw ⊢
    first
      | exact hw
      | exact hw.1
      | exact hw.1.1.1
      | exact ⟨hw.1.1, hw.1.2⟩
  case flitProtoErr =>
    unfold exec execFlitProtoErr State.runIf
    refine ⟨_, if_pos ?_⟩
    simp only [Instr.WellFormed, RxFlit.wf, flitOk, Bool.and_eq_true] at hw ⊢
    first
      | exact hw
      | exact hw.1
      | exact hw.1.1.1
      | exact ⟨hw.1.1, hw.1.2⟩
  case linkPacketStart =>
    unfold exec execLinkPacketStart
    exact ⟨_, rfl⟩
  case nakRepeat =>
    unfold exec execNakRepeat
    exact ⟨_, rfl⟩
  case ackTimeoutReplay =>
    unfold exec execAckTimeoutReplay
    exact ⟨_, rfl⟩
  case spillWrite =>
    unfold exec execSpillWrite
    exact ⟨_, rfl⟩
  case spillWriteDone =>
    unfold exec execSpillWriteDone
    exact ⟨_, rfl⟩
  case spillReadDone =>
    unfold exec execSpillReadDone
    exact ⟨_, rfl⟩
  case lnkSpillEnWrite =>
    unfold exec execLnkSpillEnWrite State.access
    exact ⟨_, rfl⟩
  case diagnosisStart =>
    unfold exec execDiagnosisStart
    exact ⟨_, rfl⟩
  case diagnosisEnd =>
    unfold exec execDiagnosisEnd
    exact ⟨_, rfl⟩
  case idleLimitTimeout =>
    unfold exec execIdleLimitTimeout
    exact ⟨_, rfl⟩
  case ackStallTimeout =>
    unfold exec execAckStallTimeout
    exact ⟨_, rfl⟩
  case lnkForceDown =>
    unfold exec execLnkForceDown State.access
    exact ⟨_, rfl⟩
  case packetTakeOn =>
    unfold exec execPacketTakeOn
    exact ⟨_, rfl⟩
  case pktFaWrite =>
    unfold exec execPktFaWrite State.access
    exact ⟨_, rfl⟩
  case reqTimeout =>
    unfold exec execReqTimeout
    exact ⟨_, rfl⟩
  case msgTimeout =>
    unfold exec execMsgTimeout
    exact ⟨_, rfl⟩
  case routeActiveWrite =>
    unfold exec execRouteActiveWrite State.access
    exact ⟨_, rfl⟩
  case routeTableWrite =>
    unfold exec execRouteTableWrite State.access
    exact ⟨_, rfl⟩
  case gateStart =>
    unfold exec execGateStart
    exact ⟨_, rfl⟩
  case admissionHopTimeout =>
    unfold exec execAdmissionHopTimeout
    exact ⟨_, rfl⟩
  case flowRecompute =>
    unfold exec execFlowRecompute
    exact ⟨_, rfl⟩
  case tclRecheckRate =>
    unfold exec execTclRecheckRate State.access
    exact ⟨_, rfl⟩
  case recheckDone =>
    unfold exec execRecheckDone
    exact ⟨_, rfl⟩
  case queueSample =>
    unfold exec execQueueSample
    exact ⟨_, rfl⟩
  case queueSamplesRead =>
    unfold exec execQueueSamplesRead State.access
    exact ⟨_, rfl⟩
  case portCountersRead =>
    unfold exec execPortCountersRead State.access
    exact ⟨_, rfl⟩
  case opSubmit =>
    unfold exec execOpSubmit
    exact ⟨_, rfl⟩
  case descriptorStart =>
    unfold exec execDescriptorStart
    exact ⟨_, rfl⟩
  case tileDispatch =>
    unfold exec execTileDispatch
    exact ⟨_, rfl⟩
  case tileDone =>
    unfold exec execTileDone
    exact ⟨_, rfl⟩
  case cellFault =>
    unfold exec execCellFault
    exact ⟨_, rfl⟩
  case operandAccessDone =>
    unfold exec execOperandAccessDone
    exact ⟨_, rfl⟩
  case descriptorFinish =>
    unfold exec execDescriptorFinish
    exact ⟨_, rfl⟩
  case clusterIdleGate =>
    unfold exec execClusterIdleGate
    exact ⟨_, rfl⟩
  case clusterWake =>
    unfold exec execClusterWake
    exact ⟨_, rfl⟩
  case wcetRecompute =>
    unfold exec execWcetRecompute
    exact ⟨_, rfl⟩
  case redWr =>
    unfold exec execRedWr
    exact ⟨_, rfl⟩
  case reduceFinish =>
    unfold exec execReduceFinish
    exact ⟨_, rfl⟩
  case scrubRead =>
    unfold exec execScrubRead
    exact ⟨_, rfl⟩
  case rekeyStep =>
    unfold exec execRekeyStep
    exact ⟨_, rfl⟩
  case stkPartApply =>
    unfold exec execStkPartApply State.access
    exact ⟨_, rfl⟩
  case keyLoad =>
    unfold exec execKeyLoad
    exact ⟨_, rfl⟩
  case keySelect =>
    unfold exec execKeySelect
    exact ⟨_, rfl⟩
  case keyClear =>
    unfold exec execKeyClear
    exact ⟨_, rfl⟩
  case digestDone =>
    unfold exec execDigestDone
    exact ⟨_, rfl⟩
  case complementCheck =>
    unfold exec execComplementCheck
    exact ⟨_, rfl⟩
  case continuityFrame =>
    unfold exec execContinuityFrame State.runIf
    refine ⟨_, if_pos ?_⟩
    simp only [Instr.WellFormed, RxFlit.wf, flitOk, Bool.and_eq_true] at hw ⊢
    first
      | exact hw
      | exact hw.1
      | exact hw.1.1.1
      | exact ⟨hw.1.1, hw.1.2⟩
  case yieldEngine =>
    unfold exec execYieldEngine
    exact ⟨_, rfl⟩
  case takeoverResume =>
    unfold exec execTakeoverResume
    exact ⟨_, rfl⟩
  case standinSegmentTest =>
    unfold exec execStandinSegmentTest
    exact ⟨_, rfl⟩
  case segmentDone =>
    unfold exec execSegmentDone
    exact ⟨_, rfl⟩
  case engineRetestDone =>
    unfold exec execEngineRetestDone
    exact ⟨_, rfl⟩
  case resyncDone =>
    unfold exec execResyncDone
    exact ⟨_, rfl⟩
  case sharedEccError =>
    unfold exec execSharedEccError
    exact ⟨_, rfl⟩
  case fence =>
    unfold exec execFence State.access
    exact ⟨_, rfl⟩
  case unfence =>
    unfold exec execUnfence State.access
    exact ⟨_, rfl⟩
  case tempSample =>
    unfold exec execTempSample
    exact ⟨_, rfl⟩
  case trimStep =>
    unfold exec execTrimStep
    exact ⟨_, rfl⟩
  case recalStart =>
    unfold exec execRecalStart
    exact ⟨_, rfl⟩
  case recalDone =>
    unfold exec execRecalDone
    exact ⟨_, rfl⟩
  case deskewCheck =>
    unfold exec execDeskewCheck
    exact ⟨_, rfl⟩
  case seqWatchdog =>
    unfold exec execSeqWatchdog
    exact ⟨_, rfl⟩
  case ageingMonitor =>
    unfold exec execAgeingMonitor
    exact ⟨_, rfl⟩
  case eyeScanStart =>
    unfold exec execEyeScanStart
    exact ⟨_, rfl⟩
  case eyeScanDone =>
    unfold exec execEyeScanDone
    exact ⟨_, rfl⟩
  case marginPlan =>
    unfold exec execMarginPlan
    exact ⟨_, rfl⟩
  case laneRetire =>
    unfold exec execLaneRetire
    exact ⟨_, rfl⟩
  case stepGraceEnd =>
    unfold exec execStepGraceEnd
    exact ⟨_, rfl⟩
  case fieldTestTurn =>
    unfold exec execFieldTestTurn
    exact ⟨_, rfl⟩
  case testDone =>
    unfold exec execTestDone
    exact ⟨_, rfl⟩
  case powerEstimate =>
    unfold exec execPowerEstimate
    exact ⟨_, rfl⟩
  case scrRunCluster =>
    unfold exec execScrRunCluster State.access
    exact ⟨_, rfl⟩
  case scrRunLaneGroup =>
    unfold exec execScrRunLaneGroup State.access
    exact ⟨_, rfl⟩
  case scrRunFarTest =>
    unfold exec execScrRunFarTest State.access
    exact ⟨_, rfl⟩
  case scrRunFarRespond =>
    unfold exec execScrRunFarRespond State.access
    exact ⟨_, rfl⟩
  case scrRunStandin =>
    unfold exec execScrRunStandin State.access
    exact ⟨_, rfl⟩
  case scrRunScratch =>
    unfold exec execScrRunScratch State.access
    exact ⟨_, rfl⟩
  case scrRunSharedStorage =>
    unfold exec execScrRunSharedStorage State.access
    exact ⟨_, rfl⟩
  case scrRunAnalog =>
    unfold exec execScrRunAnalog State.access
    exact ⟨_, rfl⟩
  case scrZeroise =>
    unfold exec execScrZeroise State.access
    exact ⟨_, rfl⟩
  case zeroiseDone =>
    unfold exec execZeroiseDone
    exact ⟨_, rfl⟩
  case ringRead =>
    unfold exec execRingRead
    exact ⟨_, rfl⟩
  case ringWrite =>
    unfold exec execRingWrite
    exact ⟨_, rfl⟩
  case ringLock =>
    unfold exec execRingLock
    exact ⟨_, rfl⟩
  case ringUnlock =>
    unfold exec execRingUnlock
    exact ⟨_, rfl⟩
  case ringEvent =>
    unfold exec execRingEvent
    exact ⟨_, rfl⟩
  case ringHop =>
    unfold exec execRingHop
    exact ⟨_, rfl⟩
  case ringReply =>
    unfold exec execRingReply
    exact ⟨_, rfl⟩
  case ringBroken =>
    unfold exec execRingBroken
    exact ⟨_, rfl⟩
  case ringRestored =>
    unfold exec execRingRestored
    exact ⟨_, rfl⟩
  case gatewaySend =>
    unfold exec execGatewaySend State.access
    exact ⟨_, rfl⟩
  case gatewayTimeout =>
    unfold exec execGatewayTimeout
    exact ⟨_, rfl⟩
  case mgtScriptLoad =>
    unfold exec execMgtScriptLoad State.access
    exact ⟨_, rfl⟩
  case mgtSceneLoad =>
    unfold exec execMgtSceneLoad State.access
    exact ⟨_, rfl⟩
  case mgtSceneCommit =>
    unfold exec execMgtSceneCommit State.access
    exact ⟨_, rfl⟩
  case commitDone =>
    unfold exec execCommitDone
    exact ⟨_, rfl⟩
  case lockRead =>
    unfold exec execLockRead State.access
    exact ⟨_, rfl⟩
  case lockRelease =>
    unfold exec execLockRelease State.access
    exact ⟨_, rfl⟩
  case mgtLockForce =>
    unfold exec execMgtLockForce State.access
    exact ⟨_, rfl⟩
  case mgtSeal =>
    unfold exec execMgtSeal State.access
    exact ⟨_, rfl⟩
  case mailboxSend =>
    unfold exec execMailboxSend
    exact ⟨_, rfl⟩
  case mailboxAbort =>
    unfold exec execMailboxAbort
    exact ⟨_, rfl⟩
  case mailboxRelease =>
    unfold exec execMailboxRelease
    exact ⟨_, rfl⟩
  case mailboxTaken =>
    unfold exec execMailboxTaken
    exact ⟨_, rfl⟩
  case tunnel =>
    unfold exec execTunnel
    exact ⟨_, rfl⟩
  case tunnelS =>
    unfold exec execTunnelS
    exact ⟨_, rfl⟩
  case tunnelTimeout =>
    unfold exec execTunnelTimeout
    exact ⟨_, rfl⟩
  case echo =>
    unfold exec execEcho
    exact ⟨_, rfl⟩
  case objRead =>
    unfold exec execObjRead
    exact ⟨_, rfl⟩
  case objWrite =>
    unfold exec execObjWrite
    exact ⟨_, rfl⟩
  case eventRecordWrite =>
    unfold exec execEventRecordWrite
    exact ⟨_, rfl⟩
  case eventWriteDone =>
    unfold exec execEventWriteDone
    exact ⟨_, rfl⟩
  case eventWriteRetry =>
    unfold exec execEventWriteRetry
    exact ⟨_, rfl⟩
  case pstateWrite =>
    unfold exec execPstateWrite
    exact ⟨_, rfl⟩
  case mgtEvtCidxWrite =>
    unfold exec execMgtEvtCidxWrite State.access
    exact ⟨_, rfl⟩
  case eventRingTimeout =>
    unfold exec execEventRingTimeout
    exact ⟨_, rfl⟩
  case eventRingRetry =>
    unfold exec execEventRingRetry
    exact ⟨_, rfl⟩
  case pwrDomainCtrlWrite =>
    unfold exec execPwrDomainCtrlWrite State.access
    exact ⟨_, rfl⟩
  case pwrCycle =>
    unfold exec execPwrCycle State.access
    exact ⟨_, rfl⟩
  case domainReady =>
    unfold exec execDomainReady
    exact ⟨_, rfl⟩
  case pwrReset =>
    unfold exec execPwrReset State.access
    exact ⟨_, rfl⟩
  case bringupStep =>
    unfold exec execBringupStep
    exact ⟨_, rfl⟩
  case pwrFwLoad =>
    unfold exec execPwrFwLoad State.access
    exact ⟨_, rfl⟩
  case fwOnlineUpdate =>
    unfold exec execFwOnlineUpdate State.access
    exact ⟨_, rfl⟩
  case sbCharacterLock =>
    unfold exec execSbCharacterLock
    exact ⟨_, rfl⟩
  case sensorReferenceCheck =>
    unfold exec execSensorReferenceCheck
    exact ⟨_, rfl⟩
  case seqLockRetry =>
    unfold exec execSeqLockRetry
    exact ⟨_, rfl⟩
  case zeroiseClearTimeout =>
    unfold exec execZeroiseClearTimeout
    exact ⟨_, rfl⟩
  case resetSettleTimeout =>
    unfold exec execResetSettleTimeout
    exact ⟨_, rfl⟩
  case drainRelayHoldEnd =>
    unfold exec execDrainRelayHoldEnd
    exact ⟨_, rfl⟩
  case redWrAddDone =>
    unfold exec execRedWrAddDone
    exact ⟨_, rfl⟩
  case admissionHopQuery =>
    unfold exec execAdmissionHopQuery
    exact ⟨_, rfl⟩
  case transitRegisterUpdate =>
    unfold exec execTransitRegisterUpdate
    exact ⟨_, rfl⟩
  case mailboxBufferWrite =>
    unfold exec execMailboxBufferWrite
    exact ⟨_, rfl⟩
  case gatewayRequestWrite =>
    unfold exec execGatewayRequestWrite State.access
    exact ⟨_, rfl⟩

end Sys2Proof.Machine
end

