-- ==== Sys2Proof/Tests/Slice0.lean ====
section
/-! SUPPORT. Tests: small states that meet the hypotheses of the statements, clause by clause, what the commands do there, and the
checks of WellFormed. -/

set_option Elab.async false

open Sys2Proof Sys2Proof.Machine

namespace Sys2Proof.Tests

/-! ### Base states -/

/-- Every domain powered and ready, an image in the store. -/
def powered (s : State) : State := { s with pwr := { s.pwr with powered := 2 ^ 20 - 1, ready := 2 ^ 20 - 1, fwImage := [1] } }

/-- The clocks counted as they should be. -/
def clocked (s : State) : State :=
  [(0, 16000), (1, 16384), (2, 12800), (3, 20480), (4, 2048), (5, 2048)].foldl (fun t x => t.setEntry .pwrClkCount x.1 x.2) s

/-- An H-side instance at work: address 0x041, link ACTIVE, Stream Port up with 32 credits each way. -/
def hBase : State :=
  let s : State := clocked (powered State.reset)
  let s : State := { s with sp := { s.sp with up := true, ingCredits := List.replicate 8 32, egCredits := List.replicate 8 32 } }
  let s : State := { s with rl := { s.rl with siblings := 6, credits := List.replicate 8 32 } }
  let s : State := { s with trn := { s.trn with activeRate := some 0, lclkRate := 0 } }
  (((((s.setObj .pktFa 0x041).setObj .mgtEvtFbFa 0x0C0).setObj .lnkState 2).setObj .phyTrnState 9).setObj .redEngState 1)

/-- An S-side instance at work: address 0x042, link ACTIVE, Stack Port up. -/
def sBase : State :=
  let s : State := clocked (powered State.reset)
  let s : State := { s with aon := { s.aon with side := 1 }, stk := { s.stk with up := true } }
  let s : State := { s with rl := { s.rl with siblings := 6, credits := List.replicate 8 32 } }
  let s : State := { s with trn := { s.trn with activeRate := some 0, lclkRate := 0 } }
  (((((s.setObj .pktFa 0x042).setObj .mgtEvtFbFa 0x0C0).setObj .lnkState 2).setObj .phyTrnState 9).setObj .redEngState 1)

/-- A read request from 0x041 to a destination. -/
def rdHdr (dst tc : Nat) : Hdr :=
  { Hdr.zero with type := tRdReq, tc := tc, last := true, dst := dst, src := 0x041, aux := 1, msgCount := 1, tag := 5, ep := 7 }

def rdPkt (dst tc : Nat) : Packet := ⟨rdHdr dst tc, [], []⟩

/-- A response of n packets from 0x041 to 0x041. -/
def rspHdr (n tc : Nat) (last : Bool) : Hdr :=
  { Hdr.zero with type := tRdRsp, tc := tc, last := last, dst := 0x041, src := 0x042, aux := 1, len := 2, msgCount := n, tag := 5, ep := 7 }

def rspPkt (n tc : Nat) (last : Bool) : Packet := ⟨rspHdr n tc last, zeros 64, []⟩

/-- The state without its supply. -/
def dark (s : State) : State := { s with aon := { s.aon with up := false } }

/-! ### TAP, clocks and port locks -/

def hZeroRecord : State := hBase.setEntry .scrZeroRecord 1 1
def sLink : State := { sBase with arr := State.reset.arr }
def hNoRclk : State := { hBase.setObj .lnkState 0 with aon := { hBase.aon with rclkAbsent := true } }
def hLinkOff : State := hBase.setObj .lnkState 0
def hMclkStop : State := { hBase with pwr := { hBase.pwr with mclkStop := true } }
def hMclkOut : State := hMclkStop.setEntry .pwrClkCount 5 0
def hArrStop : State := { hBase with arr := { hBase.arr with clkFence := true } }
def hArrOut : State := hArrStop.setEntry .pwrClkCount 1 0
/-- Every port up, with lock at a phase. -/
def hLock (l : LockPhase) : State :=
  { hBase with sp := { hBase.sp with up := true, lock := l }, rl := { hBase.rl with lock := l }, stk := { hBase.stk with up := true, lock := l } }
def hLockEntry : State := hLock .off
def hDraining : State := hLock .draining
def hMeasured : State := hLock .measured
def hLockFailed : State := hLock .failed
def hIsLocked : State := hLock .locked
def hLeaving : State := hLock .leaving
/-- Ports that are down and can come up, and one whose clock is not good. -/
def hPortDown : State := { hBase with sp := { hBase.sp with up := false, clkFence := true } }
def hPortBad : State := (hPortDown.setEntry .pwrClkCount 3 0)
def sPortDown : State := { sBase with stk := { sBase.stk with up := false, pcs := List.replicate 32 Pc.reset } }
def sPortBad : State := sPortDown.setEntry .pwrClkCount 2 0

/-! ### Ports -/

/-- The Stream Port with packets of VC5 and VC1 queued, and VC5 sent on sub-port 1. -/
def hStream : State := { hBase with sp := { hBase.sp with egress := [⟨1, rspPkt 1 5 true, 0, 0⟩, ⟨2, rspPkt 1 1 true, 0, 0⟩], sending := [none, some ⟨3, rspPkt 2 5 false, 0, 0⟩] }, pk := { hBase.pk with nextId := 4, msgs := [{ newMsg (rspHdr 2 5 false) with arrived := 2, complete := false }], hold := hBase.pk.hold.set 3 (some ⟨0, rspPkt 2 5 true, 0, 0⟩) } }

/-- The held packet's message has been forwarded but for the last packet. -/
def hHold : State := { hStream with pk := { hStream.pk with msgs := [{ newMsg (rspHdr 2 5 false) with arrived := 2, forwarded := 1, complete := true }] } }

def hRelay : State := { hBase with rl := { hBase.rl with egress := [⟨1, rspPkt 1 5 true, 0, 2⟩, ⟨2, rdPkt 0x042 1, 0, 1⟩], holds := [(0, 5), (1, 7)] } }

/-! ### The Stack Port -/

def rdOp (addr part : Nat) (use : StkUse) (tag : Nat) : StkOp := ⟨addr, part, .read, use, 3, false, [], 0, false, false, tag⟩

/-- Partition 2 covers sectors 0 to 1023, with a key in position 0 of its slot. -/
def sPart : State := { sBase with stk := { sBase.stk with parts := [(2, 2 ^ 80 + 1023 * 2 ^ 40)], access := [(0, 2 ^ 80 + 2 * 2 ^ 40 + 0xFFFFF * 2 ^ 20 + 7 * 2 ^ 64)], slots := [⟨2, some (zeros 64), none, 0, none, false, false⟩] } }

/-- Pseudo-channel 3 has two reads waiting, pseudo-channel 4 one queued, pseudo-channel 5 a read and a write of a job outstanding. -/
def sStack : State :=
  let pcs := ((sPart.stk.pcs.set 3 { Pc.reset with waiting := [rdOp 3 2 (.packet 0 0) 0, { rdOp 35 2 (.packet 0 1) 0 with tc := 1 }], heldTags := [0] }).set 4
      { Pc.reset with queue := [rdOp 4 2 (.packet 0 1) 9] }).set 5 { Pc.reset with outstanding := [rdOp 5 2 (.packet 0 0) 1, { rdOp 37 2 (.packet 1 0) 0 with step := .write, tag := 2 }], heldTags := [3] }
  { sPart with stk := { sPart.stk with pcs := pcs, nextJob := 2, jobs := [⟨0, { rdHdr 0x042 3 with aux := 2 }, none, 2, [(0, zeros 64, false), (0, zeros 64, false)], false, false, false, false⟩, ⟨1, { rdHdr 0x042 3 with type := tWrReq, len := 4 }, none, 2, [(0, zeros 64, false), (0, zeros 64, false)], false, false, false, false⟩] } }

/-- An array access outstanding on pseudo-channel 6. -/
def sAccess : State :=
  { sPart with stk := { sPart.stk with pcs := sPart.stk.pcs.set 6 { Pc.reset with outstanding := [{ rdOp 6 2 (.access 4) 1 with arr := true }] } }, arr := { sPart.arr with accesses := [⟨4, 0, 6, 1, false, none, none⟩], nextAccess := 5 } }

/-- The scrubber stands at sector 40 of partition 2. -/
def sScrub : State := (sPart.setObj .stkScrubPos (40 + 2 * 2 ^ 40)).setObj .stkScrubEn 1

/-- Slot 2 walks: at sector 41, and past the last sector. -/
def sRekey : State := { sScrub with stk := { sScrub.stk with slots := [⟨2, some (zeros 64), some (zeros 64), 1, some 41, false, false⟩] } }
def sRekeyEnd : State := { sScrub with stk := { sScrub.stk with slots := [⟨2, some (zeros 64), some (zeros 64), 1, some 1024, false, false⟩] } }

/-! ### The dictionary -/

/-- The window stands on an object. -/
def hDx (o : Obj) : State := { hBase with mgt := { hBase.mgt with dxSel := o.row.index * 2 ^ 16 + o.row.sub * 2 ^ 8 } }
def hDxEp : State := hDx .pktOwnEp
def hDxLnk : State := hDx .lnkState

/-- The sequencer holds an OBJ_READ, and an OBJ_WRITE. -/
def hObjRead : State := { hBase with mgt := { hBase.mgt with taken := [⟨0, false, [2, 1, 0, 0, 0x00, 0x40, 1, 0, 0, 0, 2, 0, 0, 0, 0, 0]⟩] } }
def hObjWrite : State := { hBase with mgt := { hBase.mgt with taken := [⟨0, false, [3, 1, 0, 0, 0x00, 0x40, 2, 0, 0, 0, 4, 0, 0, 0, 0, 0] ++ toBytes 4 300⟩] } }

/-- The Stream Port down and the sideband synchronised; epoch 1 active; the link down; sealed. -/
def hQuiet : State := { hBase with sp := { hBase.sp with up := false }, sb := { hBase.sb with synced := true } }
def hEpoch1 : State := hQuiet.setObj .pktRouteActive 1
def hDown : State := hBase.setObj .lnkState 0
def hSealed : State := hBase.setObj .mgtSeal 1
def hEvt : State := ((hBase.setObj .mgtEvtPidx 5).setObj .mgtEvtSize 64).setObj .mgtEvtEn 1

/-! ### Sideband and training -/

/-- The link down with the sideband up; training in a state, and the last attempts. -/
def hSb : State := { hBase with sb := { hBase.sb with synced := true } }
def hIdleLink : State := hSb.setObj .lnkState 0
def hTrain (st attempts : Nat) : State :=
  let s : State := (hSb.setObj .lnkState 1).setObj .phyTrnState st
  { s with trn := { s.trn with running := true, attempts := attempts, farState := st } }
def hConnect : State := hTrain 3 0
def hConnect4 : State := hTrain 3 3
def hEqualise : State := hTrain 4 1
def hLaneCheck : State := hTrain 5 0
def hFlitSync : State := hTrain 7 0
def hLatDone : State := let s := (hTrain 8 0).setObj .phyLatState 1; { s with lat := { s.lat with settled := true } }
def hLatOpen : State := let s := (hTrain 8 0).setObj .phyLatState 4; { s with lat := { s.lat with settled := true } }

/-- Identity maps of width 64 and every lane connected to its own number. -/
def mapped (s : State) : State :=
  let s := (List.range 64).foldl (fun t l => (t.setEntry .phyTxMap l l).setEntry .phyRxMap l l) s
  let s := (List.range 72).foldl (fun t p => t.setEntry .phyRxConnect p p) s
  (s.setObj .phyTxWidth 64).setObj .phyRxWidth 64
def hMapped : State := mapped hSb
def hFlitSyncM : State := (mapped hFlitSync).setObj .phyLatState 16
def hRepeat : State := { hSb with trn := { hSb.trn with lastFrame := some (hSb.trainFrame 9) } }
def hSbOne : State := { hSb with sb := { hSb.sb with rxUsable := 1 } }

/-! ### Lanes, splices and flits -/

/-- A transmitter with lane 3 in F: a PREPARE due, a plan that the far side is ready for, and a plan that is not answered. -/
def hPrepare : State := let s := hMapped.setLanes72 .phyTxFailed 8; { s with lanes := { s.lanes with prepareDue := true } }
def hRetry : State := { hPrepare with lanes := { hPrepare.lanes with prepareDue := false, retryDue := true } }
def plan (ready : Bool) : SplicePlan := ⟨5, 64, (List.range 64).map fun l => if l = 3 then 64 else l, ready⟩
def hPlan : State := { hPrepare with lanes := { hPrepare.lanes with prepareDue := false, txPlan := some (plan false) } }
def hPlanReady : State := { hPlan with lanes := { hPlan.lanes with readySeen := some 5 } }
def hFaultsOut : State := { hMapped with lanes := { hMapped.lanes with faultsOut := [(2 ^ 5, 1), (2 ^ 6, 4)] } }
def hFec : State := { hMapped with rx := { hMapped.rx with fecHits := List.replicate 2000 (7, 0) } }

/-- A receiver that has a pending map, ready and not. -/
def hPending : State := { hMapped with lanes := { hMapped.lanes with rxPlan := some (plan true) } }
def hPendingWait : State := { hMapped with lanes := { hMapped.lanes with rxPlan := some (plan false) } }

/-- A flit, the same under either map, as transmitted: its 256 bytes written as one number, the first byte lowest. -/
def litFlit (n : Nat) : RxFlit := ⟨0, toBytes 256 n, toBytes 256 n⟩
/-- PREPARE of generation 6, width 64, the straight map. -/
def fPrepare : RxFlit := litFlit 0x8484a85faf190f1b62cf8f474f530000000000000000000000000000000000000000000000000000000000000000000000000000000000000000000000000000000000000000000000000000000000000000000000000000000000000000000000000000000000000000000000000000000000000000000000000000000000000000000000000000000000000000000000000000000000000000000000000000000000000000000000000000000000000000000000003f3e3d3c3b3a393837363534333231302f2e2d2c2b2a292827262524232221201f1e1d1c1b1a191817161514131211100f0e0d0c0b0a0908070605040302010000030601000000002800
/-- The same of generation 0. -/
def fPrepareBad : RxFlit := litFlit 0xbcfe6d2b39b12655fee4637d7baa0000000000000000000000000000000000000000000000000000000000000000000000000000000000000000000000000000000000000000000000000000000000000000000000000000000000000000000000000000000000000000000000000000000000000000000000000000000000000000000000000000000000000000000000000000000000000000000000000000000000000000000000000000000000000000000000003f3e3d3c3b3a393837363534333231302f2e2d2c2b2a292827262524232221201f1e1d1c1b1a191817161514131211100f0e0d0c0b0a0908070605040302010000030001000000002800
/-- COMMIT and CANCEL of generation 5. -/
def fCommit : RxFlit := litFlit 0xa71469c14d2db1ca37a6f808d89d0000000000000000000000000000000000000000000000000000000000000000000000000000000000000000000000000000000000000000000000000000000000000000000000000000000000000000000000000000000000000000000000000000000000000000000000000000000000000000000000000000000000000000000000000000000000000000000000000000000000000000000000000000000000000000000000003f3e3d3c3b3a393837363534333231302f2e2d2c2b2a292827262524232221201f1e1d1c1b1a191817161514131211100f0e0d0c0b0a0908070605040302010000030502000000002000
def fCancel : RxFlit := litFlit 0xadf06420ddb4a5d56c3be9f6197c0000000000000000000000000000000000000000000000000000000000000000000000000000000000000000000000000000000000000000000000000000000000000000000000000000000000000000000000000000000000000000000000000000000000000000000000000000000000000000000000000000000000000000000000000000000000000000000000000000000000000000000000000000000000000000000000003f3e3d3c3b3a393837363534333231302f2e2d2c2b2a292827262524232221201f1e1d1c1b1a191817161514131211100f0e0d0c0b0a0908070605040302010000030503000000002800
/-- A marker by KIND, SEQ and LCC; its other fields are 3, 4 and T = 16. -/
def fMarker : Nat → Nat → Nat → RxFlit
  | 1, 0, 0 => litFlit 0x8a05edd47072541f448689dbbaf30000000000000000000000000000000000000000000000000000000000000000000000000000000000000000000000000000000000000000000000000000000000000000000000000000000000000000000000000000000000000000000000000000000000000000000000000000000000000000000000000000000000000000000000000000000000000000000000000000000000000000000000000000000000000000000000000000000000000000000000000000000000000000000000000000000000000000000000000000000000000000000000000000000000000000001004030000000000000001000000003000
  | 2, 0, 0 => litFlit 0xc91287812f170bee8fbabc7f6dbe0000000000000000000000000000000000000000000000000000000000000000000000000000000000000000000000000000000000000000000000000000000000000000000000000000000000000000000000000000000000000000000000000000000000000000000000000000000000000000000000000000000000000000000000000000000000000000000000000000000000000000000000000000000000000000000000000000000000000000000000000000000000000000000000000000000000000000000000000000000000000000000000000000000000000000001004030000000000000002000000003000
  | 3, 0, 0 => litFlit 0xf6fc42a41b282257c95150e320850000000000000000000000000000000000000000000000000000000000000000000000000000000000000000000000000000000000000000000000000000000000000000000000000000000000000000000000000000000000000000000000000000000000000000000000000000000000000000000000000000000000000000000000000000000000000000000000000000000000000000000000000000000000000000000000000000000000000000000000000000000000000000000000000000000000000000000000000000000000000000000000000000000000000000001004030000000000000003000000003000
  | 4, 0, 0 => litFlit 0xdd436a4135851e4e83ae441f6f6f0000000000000000000000000000000000000000000000000000000000000000000000000000000000000000000000000000000000000000000000000000000000000000000000000000000000000000000000000000000000000000000000000000000000000000000000000000000000000000000000000000000000000000000000000000000000000000000000000000000000000000000000000000000000000000000000000000000000000000000000000000000000000000000000000000000000000000000000000000000000000000000000000000000000000000001004030000000000000004000000003000
  | 4, 0, 9 => litFlit 0x9ba345cb87b4a88792a1dd558ab10000000000000000000000000000000000000000000000000000000000000000000000000000000000000000000000000000000000000000000000000000000000000000000000000000000000000000000000000000000000000000000000000000000000000000000000000000000000000000000000000000000000000000000000000000000000000000000000000000000000000000000000000000000000000000000000000000000000000000000000000000000000000000000000000000000000000000000000000000000000000000000000000000000000000000001004030000000000090004000000003000
  | 5, 1, 0 => litFlit 0x24c07b77fc018963bba4c20466630000000000000000000000000000000000000000000000000000000000000000000000000000000000000000000000000000000000000000000000000000000000000000000000000000000000000000000000000000000000000000000000000000000000000000000000000000000000000000000000000000000000000000000000000000000000000000000000000000000000000000000000000000000000000000000000000000000000000000000000000000000000000000000000000000000000000000000000000000000000000000000000000000000000000000001004030000000000000105000000003000
  | _, _, _ => litFlit 0
def fIdle : RxFlit := litFlit 0xf217bd965f8b6dddc71ed04b6a820000000000000000000000000000000000000000000000000000000000000000000000000000000000000000000000000000000000000000000000000000000000000000000000000000000000000000000000000000000000000000000000000000000000000000000000000000000000000000000000000000000000000000000000000000000000000000000000000000000000000000000000000000000000000000000000000000000000000000000000000000000000000000000000000000000000000000000000000000000000000000000000000000000000000000000000000000000000000000000000000000
/-- A flit that holds a read request of the VC of class 3. -/
def fData : RxFlit := litFlit 0x2c0a4b2155b7a4a03909b546463500000000000000000000000000000000000000000000000000000000000000000000000000000000000000000000000000000000000000000000000000000000000000000000000000000000000000000000000000000000000000000000000000000000000000000000000000000000000000000000000000000000000000000000000000000000000000000000000000000000000000000000000000000000000000000000000000000000000000000000000000000000000000000000000000000000000000000000000000000000000000000000010000000000000001000000005000070410410002c1000000001bc0
/-- A flit of a reserved type. -/
def fProto : RxFlit := litFlit 0x52e6a429514435b31644c19a15e60000000000000000000000000000000000000000000000000000000000000000000000000000000000000000000000000000000000000000000000000000000000000000000000000000000000000000000000000000000000000000000000000000000000000000000000000000000000000000000000000000000000000000000000000000000000000000000000000000000000000000000000000000000000000000000000000000000000000000000000000000000000000000000000000000000000000000000000000000000000000000000000000000000000000000000000000000000000000000000000005000
def fBad : RxFlit := ⟨0, List.replicate 256 7, List.replicate 256 9⟩
def fMasked : RxFlit := { fIdle with slot := 3 }

/-- LATENCY: the side that answers, and the side that measures at each of its points. -/
def hAnswer : State := { (mapped (hTrain 8 0)) with lat := { hBase.lat with lcc := 16 } }
def hMeasure : State := let s := hAnswer.setObj .phyLatState 16; { s with lat := { s.lat with attempt := 1, waiting := true, lcc := 36, sentAt := 2 } }
def hMeasure1 : State := { hMeasure with lat := { hMeasure.lat with rts := [30], waiting := false } }
def hMeasure2 : State := { hMeasure with lat := { hMeasure.lat with rts := [30] } }
def hMeasureBad : State := { hMeasure with lat := { hMeasure.lat with rts := [31] } }
def hMeasure3 : State := { hMeasure with lat := { hMeasure.lat with attempt := 3 } }
def hVerifying : State := { hMeasure with lat := { hMeasure.lat with rts := [30, 30], seq := 3, lcc := 16 } }
def hLocked : State := hMapped.setObj .phyLatState 17

/-- Regions with room, E at 0; a receiver that discards; a takeover gap. -/
def hDiscard : State := { hMapped with rx := { hMapped.rx with discard := true } }
def hTakeover : State := { hMapped with eng := { hMapped.eng with takeover := true } }

/-! ### The transmitter -/

/-- Packets queued for the link: one request, and one of VC1 behind one of VC5; a replay of one stored flit. -/
def filled (s : State) : State := (List.range 4).foldl (fun t c => t.setBucket c 4096) s
def hQueue1 : State := let s := filled hMapped; { s with tx := { s.tx with queue := [⟨1, rdPkt 0x042 3, 0, 0⟩] }, pk := { s.pk with nextId := 3 } }
def hQueue2 : State := let s := filled hMapped; { s with tx := { s.tx with queue := [⟨1, rdPkt 0x042 5, 0, 0⟩, ⟨2, rspPkt 1 1 true, 0, 0⟩] } }
def hReplay : State := let s := (hMapped.setObj .lnkTxSeq 8).setObj .lnkTxAcked 7; { s with tx := { s.tx with replay := some 7, replayBase := 7, unacked := [⟨7, none, none, 0⟩], retake := [⟨7, 0x1800, zeros 236⟩] } }

/-- All 64 blocks in use, one of them being written; records that have come back. -/
def sFull : State := let s := mapped sBase; let s := ((s.setObj .lnkSpillEn 1).setObj .lnkTxSeq 1024).setObj .lnkSpillState 1; { s with tx := { s.tx with spillKey := some 5, writing := [0], retake := (List.range 64).map fun b => ⟨16 * b, 0x1800, []⟩, unacked := (List.range 64).map fun b => ⟨16 * b, none, none, 0⟩ }, pk := { s.pk with done := [⟨.spillWrite 0, 0, []⟩] } }
def hFull : State := { hMapped with tx := sFull.tx, dict := ((hMapped.setObj .lnkSpillEn 1).setObj .lnkTxSeq 1024).dict }
def sSpillFail : State := { sFull with pk := { sFull.pk with done := [⟨.spillWrite 0, 5, []⟩] } }
def sSpillRead : State := { sFull with tx := { sFull.tx with reading := [5] }, pk := { sFull.pk with done := [⟨.spillRead 5, 0, zeros 64⟩] } }

/-- Unacknowledged flits, without flits in the transmitter's lists; LNK_WARN met; a diagnosis that has ended. -/
def hStall : State := hMapped.setObj .lnkTxSeq 3
def hWarn : State := let s := hMapped.setObj .lnkWarn 2; { s with rx := { s.rx with window := [3] } }
def hDiag (scores : List Nat) : State := { hMapped with rx := { hMapped.rx with diag := some ⟨0, scores⟩, window := [0] } }
def hDiagLane : State := hDiag ((List.replicate 72 1).set 9 400)
def hDiagSpare : State := hDiag ((List.replicate 72 1).set 70 400)
def hDiagNone : State := hDiag (List.replicate 72 100)

/-! ### The packet engine and the classes -/

def inp (p : Packet) : InPkt := ⟨p, p.hdr.tc, 1⟩
/-- Received over the link: a request for sibling 2, a response for this instance, and a malformed one; one for the link at the relay. -/
def hTransit : State := { hMapped with rx := { hMapped.rx with queue := [inp (rdPkt 0x042 3), inp (rspPkt 1 4 true), ⟨rspPkt 1 4 true, 5, 1⟩] } }
def hNoFa : State := hTransit.setObj .pktFa 0xFFF
def hToLink : State := let s := hMapped.setEntry .pktRouteA 2 0x40; { s with rl := { s.rl with ingress := [inp (rdPkt 0x080 3)] } }
def sRead : State := { sPart with rx := { sPart.rx with queue := [inp ⟨{ rdHdr 0x042 3 with part := 2 }, [], []⟩] } }

def ownReq (u : OwnUse) : OwnReq := ⟨5, rdHdr 0x042 3, u, 0, 0, false, []⟩
def hOwn : State := { hBase with pk := { hBase.pk with own := [ownReq (.spillRead 7)] } }
def hMsg : State := { hBase with pk := { hBase.pk with msgs := [{ newMsg (rspHdr 3 4 false) with arrived := 1 }, { newMsg (rdHdr 0x041 3) with complete := true }] } }
def sMsg : State := { sBase with pk := { sBase.pk with msgs := [{ newMsg { rdHdr 0x042 3 with type := tWrReq, msgCount := 2, len := 2, src := 0x045 } with arrived := 1 }] } }

/-- A gate list of VC1 that waits. -/
def hGate : State := let s := (((hLocked.setEntry .tclGateVc1 1 100).setEntry .tclGateVc1 2 1).setEntry .tclFlowState 7 1); { s with cls := { s.cls with gates := [⟨false, true, 0⟩, ⟨false, false, 0⟩] } }
def hOff : State := { hBase with pwr := { hBase.pwr with powered := 0 } }

def query (home index : Nat) : HopQuery := ⟨home, index, 1, 1, 1, 1, 1, 1, 0, 0, 0x045, false⟩
def hWalk : State := { hBase with cls := { hBase.cls with walk := some ⟨[1], false, false⟩, recheck := some 1 } }
def hRise (slack : Nat) : State := { hBase with cls := { hBase.cls with register := [⟨query 0x050 3, slack, .relay, 5⟩], recheck := some 2 } }
def hRiseOk : State := hRise 1000000
def hRiseBad : State := hRise 7

/-! ### The array -/

def bytesOf (n : Nat) (l : List (Nat × Nat)) : List Byte := toBytes n (packFields l)

/-- A COPY_TRANSFORM that fills 100 sectors from sector 200 of 0x042. -/
def fillDesc : List Byte := toBytes 128 (0x41 + 7 * 2 ^ 16 + 100 * 2 ^ 40 + (0x042 * 2 ^ 40 + 200) * 2 ^ 64 + 100 * 2 ^ 256 + 2 * 2 ^ 296 + 1 * 2 ^ 304)
/-- One that copies 100 sectors from sector 400 on. -/
def copyDesc : List Byte := toBytes 128 (0x41 + 7 * 2 ^ 16 + 100 * 2 ^ 40 + (0x042 * 2 ^ 40 + 200) * 2 ^ 64 + (0x042 * 2 ^ 40 + 400) * 2 ^ 128 + 100 * 2 ^ 256 + 2 * 2 ^ 296)
def opHdr (q tc : Nat) : Hdr := { Hdr.zero with type := 0x08, tc := tc, last := true, dst := 0x042, src := 0x050, aux := q, msgCount := 1, tag := 9, ep := 7, part := 2, len := 4 }
def opPkt (q tc : Nat) (d : List Byte) : Packet := ⟨opHdr q tc, d, []⟩

/-- Queue 3 of an S-side instance: best effort, cluster mask 3, partition 2; queue 5 is a deadline queue of cluster 0. -/
def sArr : State :=
  let q3 := 4 + 2 * 2 ^ 32 + 4 * 2 ^ 48 + 3 * 2 ^ 56 + 8 * 2 ^ 64
  let q5 := 1 + 2 * 2 ^ 32 + 0 * 2 ^ 48 + 1 * 2 ^ 56 + 2 * 2 ^ 64 + 4 * 2 ^ 88 + 1000000 * 2 ^ 96
  let rights := 0x1FF
  let s : State := { sPart with stk := { sPart.stk with access := [(0, 2 ^ 80 + 2 * 2 ^ 40 + 0xFFFFF * 2 ^ 20 + rights * 2 ^ 64)] } }
  ((((s.setEntry .arrQueueCfg 3 q3).setEntry .arrQueueCfg 5 q5).setObj .oprUcodeVer 1).setObj .arrClusterEn 3).clusterCells 0 true |>.clusterCells 1 true

def newDesc (id q : Nat) (bytes : List Byte) (phase : DescPhase) : Desc :=
  { id := id, queue := q, req := opHdr q 4, bytes := bytes, fromLink := false, passes := 1, phase := phase, units := 0, mem := [], fails := [], nextTile := 0,
    merged := 0, ran := 0, rerun := [], results := [], acc := Vals.zero, written := [], issued := [0, 0, 0], okSectors := [], inline := [], info := 0, ou := false,
    rerunFlag := false, dropCpl := false }

def withDescs (l : List Desc) (work : List (Nat × CellWork)) : State := { sArr with arr := { sArr.arr with descs := l, nextDesc := 40, work := work } }

def sSubmit : State := { sArr with arr := { sArr.arr with submits := [(opPkt 3 4 fillDesc, false)] } }
def sSubmitBad : State := { sArr with arr := { sArr.arr with submits := [(opPkt 9 4 fillDesc, false), (opPkt 3 4 fillDesc, false)] } }
def sQueued : State := withDescs [newDesc 20 3 fillDesc .queued] []
def sRunning : State := withDescs [newDesc 20 3 fillDesc .running] []
def sReading : State := withDescs [newDesc 20 3 copyDesc .running] []
def sRunDl : State := withDescs [newDesc 20 5 fillDesc .running] []
def sGated : State := { sRunning with arr := { sRunning.arr with gated := 3 } }
def sIdle : State := sArr.setObj .arrIdleGate 50
/-- Tile 1 done before tile 0; an inline result. -/
def sTile1 : State := withDescs [{ newDesc 20 3 fillDesc .running with nextTile := 2 }] [(4, .tile 20 1), (5, .tile 20 0)]
def inlineDesc : List Byte := toBytes 128 (2 ^ 9 + 7 * 2 ^ 16)
def sInline : State := withDescs [{ newDesc 20 3 inlineDesc .running with nextTile := 2 }] [(4, .tile 20 0)]
def sWaiting : State := withDescs [{ newDesc 20 3 copyDesc .running with nextTile := 1 }] [(4, .tile 20 0)]
def withAccess (a : OpAccess) (s : State) : State := { s with arr := { s.arr with accesses := [a], nextAccess := 9 } }
def sGot : State := withAccess ⟨8, 20, 2 ^ 40 * 0x042 + 400, 1, false, none, some (0, false, List.replicate 64 5)⟩ sReading
def sGotBad : State := withAccess ⟨8, 20, 2 ^ 40 * 0x042 + 400, 1, false, none, some (5, false, zeros 64)⟩ sWaiting
def sWrote : State := withAccess ⟨8, 20, 2 ^ 40 * 0x042 + 200, 1, true, none, some (0, false, [])⟩ sInline
def sFinish : State := withDescs [{ newDesc 20 3 fillDesc .writing with okSectors := (List.range 100).map (2 ^ 40 * 0x042 + 200 + ·), nextTile := 2, merged := 2 }] []
def sEnding : State := withDescs [{ newDesc 20 3 fillDesc .ending with fails := [5, 2], nextTile := 2, merged := 1 }] [(4, .tile 20 1)]

/-! ### Reductions, keys and zeroisation -/

/-- A REDUCE_ON_WRITE of 32 FP32 elements with two contributors, RED_ID 11, to sector 96, and a REDUCE_FLUSH of it. -/
def redDesc : List Byte := toBytes 128 (0x20 + 7 * 2 ^ 16 + 2 * 2 ^ 40 + (0x042 * 2 ^ 40 + 96) * 2 ^ 64 + 32 * 2 ^ 128 + 2 * 2 ^ 160 + 11 * 2 ^ 176)
def flushDesc (abort : Nat) : List Byte := toBytes 128 (0x21 + 7 * 2 ^ 16 + 11 * 2 ^ 128 + abort * 2 ^ 144)

def theRed (state counted endCode : Nat) : Reduction := ⟨11, 0, 2, 3, 20, 96, 32, 2, counted, state, 0, 0, false, false, [], endCode, none⟩
def redHdr : Hdr := { Hdr.zero with type := tRedWr, tc := 4, last := true, dst := 0x042, src := 0x050, addr := 96, aux := 11, msgCount := 1, tag := 3, ep := 7, part := 2, len := 4 }
def redPkt : Packet := ⟨redHdr, List.replicate 128 0x40, []⟩
def withRed (r : Reduction) (phase : DescPhase) (work : List (Nat × CellWork)) : State :=
  { sArr with arr := { sArr.arr with descs := [newDesc 20 3 redDesc phase], reductions := [r], work := work }, pk := { sArr.pk with msgs := [newMsg redHdr] } }

def sRedStart : State := ((withDescs [newDesc 20 3 redDesc .queued] []).setObj .arrScratchRed 4)
def sFlushStart : State := let s := withRed (theRed 1 1 0) .waiting []; { s with arr := { s.arr with descs := s.arr.descs ++ [newDesc 21 3 (flushDesc 0) .queued] } }
def sFlushNone : State := withDescs [newDesc 21 3 (flushDesc 0) .queued] []
def sRedIn : State := let s := withRed (theRed 1 1 0) .waiting []; { s with arr := { s.arr with redIn := [(redPkt, false)] } }
def sRedWait : State := { sRedIn with arr := { sRedIn.arr with gated := 255 } }
def sRedLate : State := let s := withRed (theRed 2 2 0) .waiting []; { s with arr := { s.arr with redIn := [(redPkt, false)] } }
def sRedAdd : State := withRed (theRed 1 1 0) .waiting [(4, .redWr 11 redPkt)]
def sRedStop : State := withRed (theRed 2 2 0) .waiting []
def sRedAbort : State := withRed (theRed 2 1 2) .waiting []

/-- A key message held by the key unit. -/
def withKeyMsg (msg : List Byte) (s : State) : State := { s with mgt := { s.mgt with taken := [⟨4, false, msg⟩] } }
def sKeyLoad : State := withKeyMsg ([1, 9, 1, 0, 0, 0, 0, 0] ++ List.replicate 72 3) sPart
def sKeySelect : State := withKeyMsg [2, 2, 0, 1, 0, 0, 0, 0] sPart
def sKeyClear : State := withKeyMsg [3, 2, 1, 0, 0, 0, 0, 0] sPart
def hKeyClear : State := withKeyMsg [3, 2, 1, 0, 0, 0, 0, 0] hBase
def sStaged : State := (((sPart.setEntry .stkPartTable 2 (2 ^ 80 + 1023 * 2 ^ 40)).setEntry .stkPartTable 3 (2 ^ 80 + 2047 * 2 ^ 40 + 1024)).setObj .lnkState 1).setObj .stkSectors 4096
def sStagedBad : State := sStaged.setEntry .stkPartTable 3 (2 ^ 80 + 2047 * 2 ^ 40 + 1023)
def sDigest : State := (sPart.setObj .stkDigestState 1).setObj .stkDigestGenNow 6
def sDigestDone : State := sPart.setObj .stkDigestState 2
def sZero : State := let s := sPart.setObj .scrZeroise 1; { s with scr := { s.scr with zeroWait := 2 ^ 20 - 1, running := [⟨.secureStore, 0, 0, true⟩] } }
def sZeroDone : State := let s := sRedAdd.setObj .scrZeroise 1; { s with scr := { s.scr with zeroCycled := true } }

/-! ### Mailboxes and locks -/

/-- Messages: an ECHO of 20 bytes, a key command, a mailbox that holds one, and one that awaits a reply. -/
def echoMsg : List Byte := [1, 7, 0, 0, 4, 5, 6, 7, 8, 9, 0, 0, 0, 0, 0, 0, 42, 43, 44, 45]
def fullMbx : Mailbox := { Mailbox.reset with out := echoMsg ++ zeros 236, outFull := true, outLen := 20 }
def hSbOn : State := { hBase with sb := { hBase.sb with synced := true } }
def hMbx : State := { hSbOn with mgt := { hSbOn.mgt with mailboxes := List.replicate 6 fullMbx } }
def hMbxWait : State := { hSbOn with mgt := { hSbOn.mgt with mailboxes := List.replicate 6 { Mailbox.reset with taken := true } } }
def hEcho : State := { hBase with mgt := { hBase.mgt with taken := [⟨0, false, echoMsg⟩], mailboxes := hMbxWait.mgt.mailboxes } }
def hLocks : State := { hBase with mgt := { hBase.mgt with locks := ((hBase.mgt.locks.set 0 (some (.ring 5 false))).set 1 (some .sequencer)).set 2 (some (.port true)), lockFault := 4 } }
def hLockWait : State := { hBase with mgt := { hBase.mgt with seqLockWait := some 1 }, cal := { hBase.cal with stepRate := some 2 } }
def hLockHeld : State := { hLockWait with mgt := { hLocks.mgt with seqLockWait := some 1 } }
def hLockRetire : State := { hBase with mgt := { hBase.mgt with seqLockWait := some 0 }, cal := { hBase.cal with retireDue := [3] } }

/-! ### The ring -/

/-- Position 5 of a loop of 9, on an instance without and with a sideband, that is an event gateway, whose gateway is busy, and whose event record is on its way. -/
def onRing (s : State) : State := s.setObj .mgtRingState (5 + 9 * 2 ^ 8 + 2 ^ 16)
def hRing : State := onRing hLocks
def hRingFree : State := onRing hSbOn
def hRingEvt : State := (onRing (hBase.setObj .mgtEvtEn 1)).setObj .mgtEvtSize 64
def hGwBusy : State := { onRing hBase with mgt := { hBase.mgt with gwBusy := true, gwTag := 300 } }
def hGwReq : State := { onRing hBase with mgt := { hBase.mgt with gwReq := ringMsg 2 0 1 0 0 (3 :: zeros 11) 0 0x4000 2 4 0 ([1, 2, 3, 4] ++ zeros 28) } }
def hEvtOut : State := let s := onRing hBase; { s with mgt := { s.mgt with evtTries := 1, ringTagEvt := 300, events := [EventRec.null] } }
def hBroken : State := hRing.setFld .mgtRingState 17 17 1

/-! ### Engines -/

/-- A frame with number n and one record (word 4 := 9), or none. -/
def contFrame (n nrec : Nat) : List Byte :=
  let body := n * 2 ^ 480 + nrec * 2 ^ 472 + 4 * 2 ^ 438 + 9 * 2 ^ 406
  toBytes 64 (body + crc16 496 body 0xFFFF * 2 ^ 496)
/-- ENG-A leads, ENG-B as said. -/
def eng (s : State) (b : Nat) : State := s.setObj .redEngState (1 + b * 2 ^ 4)
def hStandby : State := eng hBase 2
def hHeld : State := let s := eng hBase 2; { s with eng := { s.eng with held := some (contFrame 6 1), fseq := some 6 } }
def hResync : State := let s := eng hBase 3; { s with eng := { s.eng with chunk := 30720 } }
def hCopying : State := eng hBase 3
def hAlone : State := eng hBase 5
def hGap : State := let s := (hBase.setObj .redEngState (0 + 1 * 2 ^ 4 + 2 ^ 8)).setObj .pwrDomainCtrl (2 ^ 20 - 1); { s with eng := { s.eng with takeover := true } }
def hSeg : State := let s := eng hBase 2; { s with eng := { s.eng with segTest := some 12, nextSeg := 12 } }
def hSegLast : State := let s := eng hBase 2; { s with eng := { s.eng with segTest := some 63, nextSeg := 63 } }
def hPowerFull : State := let s := eng hBase 2; { s with scr := { s.scr with estimate := 40000 } }
def hRetest : State := let s := eng hBase 4; { s with eng := { s.eng with retest := some 1 } }
def hRetestFirst : State := let s := hBase.setObj .redEngState (4 + 5 * 2 ^ 4); { s with eng := { s.eng with retest := some 0 } }
def hRow : State := { hBase with eng := { hBase.eng with rowErrs := [(1, 40)] } }
def hTxOne : State := { hBase with tx := { hBase.tx with queue := [⟨3, rdPkt 0x042 3, 0, 0⟩] } }
def hFenced : State := (hBase.setObj .redFence 1).setObj .redFenceCause 1
def hFencedEng : State := ((hBase.setObj .redFence 1).setObj .redFenceCause 2).setObj .redEngState 0

/-! ### Calibration and ageing -/

def zeroDeskew : List (List Nat × List Nat) := [(List.replicate 72 0, List.replicate 72 5), (List.replicate 72 6, List.replicate 72 7)]
def badDeskew : List (List Nat × List Nat) := List.replicate 3 (List.replicate 72 0, List.replicate 72 5)
def hCal : State := { hMapped.setObj .ageEn 1 with cal := { hMapped.cal with nextRecal := 3, nextScan := 3 } }
/-- Lane 3 is measured; its trim sets stand at 10 for trims 0 and 8, and 0 for the others. -/
def hRecal : State :=
  { hCal with cal := { hCal.cal with recal := some 3, setsNow := (List.range 15).map fun j => (45 + j, 10 + 10 * 2 ^ 64) } }
def goodCodes (s : State) : List Int := (List.range 13).map fun k => s.trimTarget 3 k s.rateNow
def hScan : State := { hCal with cal := { hCal.cal with scan := some 3, monitor := some 65 } }
def hNoSpare : State := let s := hCal.setLanes72 .phyRxFailed (255 * 2 ^ 64); s
def hPlanDown : State := hCal.setObj .lnkState 0
def hSeqOff : State := { hCal with cal := { hCal.cal with seqDown := true } }
def hRetire : State := { hCal with cal := { hCal.cal with retireDue := [3, 5] } }
def hGrace : State := { hCal with cal := { hCal.cal with stepPhase := 2, stepRate := some 1 } }
def hRoQuiet : State := hCal.setObj .ageRoLimit 65535

/-! ### Screen test -/

def sScr : State := (sArr.setObj .scrFieldEn 1).setObj .scrExtraLimit 2000
def sScrBusy : State := { sScr with scr := { sScr.scr with running := [⟨.cluster 1, 1240, 0, true⟩] } }
def sScrScratch : State := { sScr with scr := { sScr.scr with running := [⟨.scratchUnit 40, 0, 0, true⟩] } }
def sScrStore : State := { sScr with scr := { sScr.scr with running := [⟨.secureStore, 0, 0, true⟩] } }
def sScrAnalog : State := { sScr with scr := { sScr.scr with running := [⟨.analog 3, 0, 0, true⟩] } }
def sScrHot : State := { sScr with scr := { sScr.scr with estimate := 19000 } }
def sScrHalt : State := { sScrBusy with scr := { sScrBusy.scr with halted := true } }
def sScrDown : State :=
  let s := (List.range 72).foldl (fun t p => (t.setEntry .phyRxConnect p p).setEntry .phyFarConnect p p) (sScr.setObj .lnkState 0)
  s.setEntry .scrZeroRecord 1 1
def sScrDownHot : State := { sScrDown with scr := { sScrDown.scr with estimate := 19000 } }
def sScrStandby : State := eng sScr 2

/-! ### Images and commits -/

/-- A scene image with one entry, TCL_BUCKET_RATE of VC0 or another object, and a script image without entries. -/
def withCheck (body : List Byte) : List Byte := body ++ toBytes 4 (crc32c body)
def sceneImg (index sub off : Nat) (data : List Byte) : List Byte :=
  withCheck (toBytes 2 2 ++ toBytes 2 1 ++ toBytes 4 (28 + (data.length + 3) / 4 * 4) ++ [b8 3, 0xFF, 0, 0] ++ toBytes 4 77 ++ toBytes 2 index ++ [b8 sub, 0] ++ toBytes 2 off ++ toBytes 2 data.length ++ data ++ zeros ((4 - data.length % 4) % 4))
def scriptImg (fam : Nat) : List Byte := withCheck (toBytes 2 1 ++ toBytes 2 0 ++ toBytes 4 20 ++ [b8 fam, 0xFF, 0, 0] ++ toBytes 4 78)
def putBytes (s : State) (o : Obj) (bs : List Byte) : State := (bs.zipIdx).foldl (fun t x => t.setEntry o x.2 x.1.toNat) s
def lock0 (s : State) : State := { s with mgt := { s.mgt with locks := List.replicate 32 (some .sequencer) } }
def family : Nat := hBase.obj .mgtFamily
def hScript : State := lock0 (putBytes hBase .mgtImage (scriptImg family))
def hScriptBad : State := lock0 (putBytes hBase .mgtImage (zeros 20))
def rateIndex : Nat := (Obj.tclRelayTransit).row.index
def scene0 : List Byte := sceneImg rateIndex (Obj.tclRelayTransit).row.sub 0 (toBytes 2 5)
def hScene : State := lock0 (putBytes hBase .mgtImage scene0)
def hStored : State := let s := lock0 hBase; { s with mgt := { s.mgt with scenes := s.mgt.scenes.set 0 scene0 } }
def hCommit : State := { hStored with mgt := { hStored.mgt with commit := some ⟨1⟩ }, cls := { hStored.cls with walk := some ⟨[], false, false⟩ } }
def hCommitSame : State := { lock0 hBase with mgt := { (lock0 hBase).mgt with commit := some ⟨0⟩ } }
def hCommitBad : State := { hStored with mgt := { hStored.mgt with commit := some ⟨2⟩ } }
def fwImg (ucode ver : Nat) : List Byte := withCheck (toBytes 4 0x5A465701 ++ [b8 family, 0, 0, 0] ++ toBytes 2 ver ++ toBytes 2 ucode ++ toBytes 4 32 ++ toBytes 4 4 ++ zeros 8)
def hFw : State := (putBytes hBase .pwrFwImage (fwImg 3 9)).setObj .pwrBringupState 2
def hFwBad : State := (putBytes hBase .pwrFwImage (zeros 32)).setObj .pwrBringupState 2
def hFwOnline : State := putBytes hBase .pwrFwImage (fwImg 3 9)

/-! ### Events and power -/

def anEvent : EventRec := { EventRec.null with type := 0x51, seq := 7 }
def hGwEvt : State :=
  let s := ((((hBase.setObj .mgtEvtEn 1).setObj .mgtEvtSize 64).setObj .mgtEvtFa 0x050).setObj .mgtEvtBase 4096).setObj .mgtEvtPidx 5
  { s with mgt := { s.mgt with events := [anEvent] } }
def hGwRetry : State := { hGwEvt with mgt := { hGwEvt.mgt with recRetry := true } }
def hGwDrops : State := hGwEvt.setObj .mgtEvtDropped 3
def hInBand : State := let s := (hBase.setObj .mgtEvtFbFa 0x050).setObj .mgtEvtFbBase 64; { s with mgt := { s.mgt with events := [anEvent] } }
def hEvtDone : State := { hGwEvt with pk := { hGwEvt.pk with done := [⟨.eventWrite 5, 0, []⟩] }, mgt := { hGwEvt.mgt with recWriting := true } }
def hEvtFail : State := { hGwEvt with pk := { hGwEvt.pk with done := [⟨.eventWrite 5, 9, []⟩] }, mgt := { hGwEvt.mgt with recWriting := true } }
def hPstate : State := { hGwEvt with mgt := { hGwEvt.mgt with pstateDue := true } }
def hByRing : State :=
  let s := ((onRing hBase).setEntry .mgtEvtPath 0 1).setEntry .mgtEvtPath 1 3
  { s with mgt := { s.mgt with events := [anEvent], evtTries := 1 } }
def hByRing2 : State := { hByRing with mgt := { hByRing.mgt with evtTries := 2 } }
def hProbing : State := { hByRing with mgt := { hByRing.mgt with evtProbe := true } }
def hRingMode : State := { hByRing.setFld .mgtEvtMode 1 1 1 with mgt := { hByRing.mgt with evtTries := 0 } }

/-- Bring-up at a step, with every domain as a write of PWR_DOMAIN_CTRL left it. -/
def atStep (n : Nat) (s : State) : State := s.setObj .pwrBringupState n
def hPower : State := atStep 10 ((hBase.setObj .pwrDomainCtrl (2 ^ 20 - 1)).setObj .lnkState 0)
def hPowerPart : State := let s := atStep 10 ((hBase.setObj .pwrDomainCtrl (2 ^ 20 - 1 - 2 ^ 5)).setObj .lnkState 0); { s with pwr := { s.pwr with powered := 2 ^ 20 - 1 - 2 ^ 5, ready := 2 ^ 20 - 1 - 2 ^ 5 } }
def hUnready : State := let s := atStep 10 (((hBase.setObj .pwrDomainCtrl (2 ^ 20 - 1)).setObj .arrClusterEn 255).setObj .redEngState 0); { s with pwr := { s.pwr with ready := 0 }, cal := { s.cal with seqDown := true } }
def hStep1 : State := { State.reset with aon := { State.reset.aon with up := true } }
def hStep2 : State := atStep 2 hBase
def hStep3 : State := (atStep 3 hBase).setObj .redEngState (1 + 2 * 2 ^ 4)
def hStep5 : State := atStep 5 hBase
def hStep6 : State := atStep 6 hBase
def hClkLost : State := hBase.setFld .pwrClkState 1 0 2
def hSettling : State := { hClkLost.setObj .pwrReset 1 with pwr := { hClkLost.pwr with resetStep := 1 } }

/-! ### Rules of the whole block -/

def hopHdr : Hdr := { rdHdr 0x042 3 with src := 0x045, hops := 15 }
/-- Packets with HOPS 15 for a sibling: a request, a response, and one from the relay for the link. -/
def hHopReq : State := { hMapped with rx := { hMapped.rx with queue := [inp ⟨hopHdr, [], []⟩, inp ⟨{ rspHdr 1 4 true with dst := 0x042, src := 0x045, hops := 15 }, zeros 64, []⟩] } }
def hHopLink : State := let s := hMapped.setEntry .pktRouteA 2 0x40; { s with rl := { s.rl with ingress := [inp ⟨{ hopHdr with dst := 0x080 }, [], []⟩] } }
def hHopSubmit : State := { hMapped with rx := { hMapped.rx with queue := [inp { opPkt 3 4 fillDesc with hdr := { (opPkt 3 4 fillDesc).hdr with dst := 0x042, src := 0x045, hops := 15 } }] } }

/-- The key unit holds a command while a zeroisation record is present. -/
def withRecord (s : State) : State := s.setEntry .scrZeroRecord 1 1
def keyMsg (cmd : Byte) (n : Nat) : State := let s : State := withRecord sBase; { s with mgt := { s.mgt with taken := [⟨4, false, cmd :: List.replicate n 7⟩] } }
def sRecLoad : State := keyMsg 1 79
def sRecSelect : State := keyMsg 2 7
def sRecClear : State := keyMsg 3 7
/-- Zeroisation waits for the march of the key-slot memory. -/
def sMarch : State := { sBase.setObj .scrZeroise 1 with scr := { sBase.scr with running := [⟨.secureStore, 0, 0, true⟩] } }
/-- The dictionary window at sub-index 0 of index 0x4000. -/
def hSubZero : State := { hBase with mgt := { hBase.mgt with dxSel := 0x4000 * 2 ^ 16 } }
def hLockView : State := { hBase with mgt := { hBase.mgt with dxSel := 0x9020 * 2 ^ 16 + 2 ^ 8, dxOffset := 8, locks := (hBase.mgt.locks.set 2 (some (.ring 5 false))).set 3 (some .sequencer), lockFault := 8 } }

/-! ### Parts of values, as lists -/

def hopPort : Hop → List Nat
  | .out _ n => [n]
  | _ => []
def tileOf : CellWork → List Nat
  | .tile _ n => [n]
  | _ => []
def contribOf : CellWork → List Packet
  | .redWr _ p => [p]
  | _ => []
def blockOfUse : OwnUse → List Nat
  | .spillWrite n => [n]
  | .spillRead n => [n]
  | _ => []
def clusterOf : TestUnit → List (Fin 8)
  | .cluster n => [n]
  | _ => []
def scratchOf : TestUnit → List (Fin 128)
  | .scratchUnit n => [n]
  | _ => []
def okOf {ε α : Type} : Except ε α → List α
  | .ok x => [x]
  | .error _ => []
def errorOf {ε α : Type} : Except ε α → List ε
  | .ok _ => []
  | .error x => [x]
def lookBytes (s : State) (f : RxFlit) : List (List Byte) := (s.look f).toList.map fun l => l.out.bytes

/-! ### Further states -/

def hDark : State := dark hBase
def hDiagRuns : State := { hBase with rx := { hBase.rx with diag := some ⟨5, List.replicate 72 0⟩ } }
def hPoor : State := { hBase with sp := { hBase.sp with ingCredits := List.replicate 8 1 } }
def sOneDown : State := sBase.setObj .stkPcState 2
def hStep3NoTrain : State := hStep3.setObj .pwrAutoTrain 0
/-- A write of four sectors from sibling 5, in two flits or beats, and a response of its size. -/
def wrHdr : Hdr := { rdHdr 0x042 3 with type := tWrReq, len := 20, aux := 0, src := 0x045 }
def wrBig : Packet := ⟨wrHdr, zeros 640, []⟩
def rspBig : Packet := ⟨{ rspHdr 1 4 true with len := 20 }, zeros 640, []⟩
def relayOf (p : Packet) : List (List Byte) := p.cut.map fun x => x.relayFlit p.hdr.tc

/-! ### Witnesses: for each statement of Certificates/Slice0/Obligations.lean, states and operands that meet the hypotheses of each of
its clauses, clause by clause in their order -/

set_option maxRecDepth 1000000 in
set_option synthInstance.maxSize 100000 in
set_option synthInstance.maxHeartbeats 2000000 in
/-- States and operands that meet the hypotheses of StepRunsFrontCommand. -/
theorem witness_StepRunsFrontCommand :
    (∃ s : State, s.pending = .bypass :: [.extest]) := by
  exact ⟨{ hBase with pending := [.bypass, .extest] }, rfl⟩

set_option maxRecDepth 1000000 in
set_option synthInstance.maxSize 100000 in
set_option synthInstance.maxHeartbeats 2000000 in
/-- States and operands that meet the hypotheses of IdleStepIsOneTick. -/
theorem witness_IdleStepIsOneTick :
    (∃ s ∈ ([hDark] : List (State)), s.pending = [] ∧ s.aon.up = false) ∧
    (∃ s ∈ ([hBase] : List (State)), s.pending = [] ∧ s.aon.up = true) := by
  refine ⟨?_, ?_⟩ <;> decide +kernel

set_option maxRecDepth 1000000 in
set_option synthInstance.maxSize 100000 in
set_option synthInstance.maxHeartbeats 2000000 in
/-- States and operands that meet the hypotheses of SideAndRclkCount. -/
theorem witness_SideAndRclkCount :
    (∃ t, (∀ strap, Instr.bypass ≠ .aonPowerUp strap) ∧ exec .bypass hBase = .next t) ∧
    (∃ t, hBase.pending = [] ∧ step hBase = .next t) ∧
    (∃ t, (∀ strap, Instr.bypass ≠ .aonPowerUp strap) ∧ exec .bypass hBase = .next t) ∧
    (∃ t, hBase.pending = [] ∧ step hBase = .next t) := by
  refine ⟨⟨_, nofun, rfl⟩, ⟨_, rfl, rfl⟩, ⟨_, nofun, rfl⟩, ⟨_, rfl, rfl⟩⟩

set_option maxRecDepth 1000000 in
set_option synthInstance.maxSize 100000 in
set_option synthInstance.maxHeartbeats 2000000 in
/-- States and operands that meet the hypotheses of WellFormedCommandsEnd. -/
theorem witness_WellFormedCommandsEnd :
    (Instr.WellFormed .bypass = true ∧ hDark.aon.up = false ∧ ∀ strap, Instr.bypass ≠ .aonPowerUp strap) ∧
    (Instr.WellFormed .bypass = true ∧ (∀ strap, Instr.bypass ≠ .aonPowerUp strap) ∧ Instr.bypass ≠ .aonPowerLoss) := by
  refine ⟨⟨by decide, rfl, nofun⟩, ⟨by decide, nofun, nofun⟩⟩

set_option maxRecDepth 1000000 in
set_option synthInstance.maxSize 100000 in
set_option synthInstance.maxHeartbeats 2000000 in
/-- States and operands that meet the hypotheses of StepKeepsInvariant. -/
theorem witness_StepKeepsInvariant :
    (∃ t, hBase.Inv ∧ step hBase = .next t) := by
  exact ⟨_, ⟨hBase.dict.canon.1, fun c h => (hBase.dict.canon.2 c h).1, by decide, by decide⟩, rfl⟩

set_option maxHeartbeats 2000000 in
set_option maxRecDepth 1000000 in
set_option synthInstance.maxSize 100000 in
set_option synthInstance.maxHeartbeats 2000000 in
/-- States and operands that meet the hypotheses of HeaderAndEventRecordRoundTrip. -/
theorem witness_HeaderAndEventRecordRoundTrip :
    (∃ h ∈ ([redHdr] : List (Hdr)), h.wf) ∧
    (∃ r ∈ ([⟨0x90, 2, 0x041, 7, 5, 0x10000200, zeros 16⟩] : List (EventRec)), r.type < 256 ∧ r.sev < 16 ∧ r.src < 4096 ∧ r.seq < 256 ∧ r.rclk < 2 ^ 64 ∧ r.obj < 2 ^ 32 ∧ r.payload.length = 16) := by
  unfold Hdr.wf
  refine ⟨?_, ?_⟩ <;> decide +kernel

set_option maxRecDepth 1000000 in
set_option synthInstance.maxSize 100000 in
set_option synthInstance.maxHeartbeats 2000000 in
/-- States and operands that meet the hypotheses of FlitFecCorrectsOneByte. -/
theorem witness_FlitFecCorrectsOneByte :
    (∃ payload : List Byte, ∃ b : Byte, payload.length = 236 ∧ 0 < 256 ∧ (mkFlit 0 0 payload 0).getD 0 0 ≠ b) := by
  exact ⟨zeros 236, 1, by decide +kernel, by decide, by decide +kernel⟩

set_option maxRecDepth 1000000 in
set_option synthInstance.maxSize 100000 in
set_option synthInstance.maxHeartbeats 2000000 in
/-- States and operands that meet the hypotheses of DictionaryReadsAndRaisedEvents. -/
theorem witness_DictionaryReadsAndRaisedEvents :
    (¬(Obj.pktFa = Obj.lnkState ∧ 0 = 0)) ∧
    (¬(Obj.pktFa = Obj.pktFa ∧ 0 = 1)) ∧
    (hBase.eventRoom = true) ∧
    (∃ s ∈ ([{ hBase with mgt := { hBase.mgt with events := List.replicate 16 EventRec.null } }] : List State), s.evtGateway = false ∧ s.eventRoom = false ∧ s.obj .mgtEvtDropped + 1 < 2 ^ 32) := by
  refine ⟨by decide, by decide, ?_, ?_⟩ <;> decide +kernel

set_option maxRecDepth 1000000 in
set_option synthInstance.maxSize 100000 in
set_option synthInstance.maxHeartbeats 2000000 in
/-- States and operands that meet the hypotheses of SupplyAndTap. -/
theorem witness_SupplyAndTap :
    (∃ strap ∈ ([true] : List (Bool)), ∃ s ∈ ([hBase] : List (State)), True) ∧
    (∃ s ∈ ([hBase] : List (State)), True) ∧
    (∃ s ∈ ([hBase] : List (State)), s.aon.up = true ∧ ∃ pins ∈ ([[true]] : List (List Bool)), ∃ preload ∈ ([[true]] : List (List Bool)), True) ∧
    (∃ s ∈ ([hBase] : List (State)), s.aon.up = true ∧ ∃ mfr ∈ ([0] : List (Fin 2048)), True) ∧
    (∃ s ∈ ([hZeroRecord] : List (State)), s.aon.up = true ∧ s.zeroRecord = true) ∧
    (∃ s ∈ ([hBase] : List (State)), s.aon.up = true ∧ s.zeroRecord = false) := by
  refine ⟨?_, ?_, ?_, ?_, ?_, ?_⟩ <;> decide +kernel

set_option maxRecDepth 1000000 in
set_option synthInstance.maxSize 100000 in
set_option synthInstance.maxHeartbeats 2000000 in
/-- States and operands that meet the hypotheses of ClockFaults. -/
theorem witness_ClockFaults :
    (∃ l ∈ ([family] : List (Nat)), ∃ a ∈ ([family] : List (Nat)), ∃ c ∈ ([family] : List (Nat)), ∃ f ∈ ([rateIndex] : List (Nat)), ∃ h ∈ ([family] : List (Nat)), ∃ m ∈ ([family] : List (Nat)), ∃ s ∈ ([hOff] : List (State)), s.aon.up = true ∧ s.aon.rclkAbsent = false ∧ s.aon.side ≤ 1 ∧ (∀ x ∈ [(0, l), (1, a), (2, c), (3, f), (4, h), (5, m)], x.2 < 2 ^ 32 ∧ s.fld .pwrClkState (2 * x.1 + 1) (2 * x.1) = 0 ∧ (x.1 ≠ 4 → s.clockWatched x.1 = true → s.clockCode x.1 x.2 = 0)) ∧ (s.hSide = true → s.sp.up = true ∧ 120 ≤ s.obj .pktSportFclkDiv ∧ s.obj .pktSportFclkDiv ≤ 160) ∧ (s.sSide = true → s.stk.up = true) ∧ s.clockCode 4 h = 0) ∧
    (∃ l ∈ ([family] : List (Nat)), ∃ a ∈ ([family] : List (Nat)), ∃ c ∈ ([family] : List (Nat)), ∃ f ∈ ([rateIndex] : List (Nat)), ∃ h ∈ ([0] : List (Nat)), ∃ m ∈ ([family] : List (Nat)), ∃ s ∈ ([hOff] : List (State)), s.aon.up = true ∧ s.aon.rclkAbsent = false ∧ s.aon.side ≤ 1 ∧ (∀ x ∈ [(0, l), (1, a), (2, c), (3, f), (4, h), (5, m)], x.2 < 2 ^ 32 ∧ s.fld .pwrClkState (2 * x.1 + 1) (2 * x.1) = 0 ∧ (x.1 ≠ 4 → s.clockWatched x.1 = true → s.clockCode x.1 x.2 = 0)) ∧ (s.hSide = true → s.sp.up = true ∧ 120 ≤ s.obj .pktSportFclkDiv ∧ s.obj .pktSportFclkDiv ≤ 160) ∧ (s.sSide = true → s.stk.up = true) ∧ h = 0) ∧
    (∃ s ∈ ([hBase] : List (State)), s.aon.up = true ∧ s.poweredDom 19 = true ∧ s.fld .pwrClkState 11 10 ≠ 2) ∧
    (∃ s ∈ ([hBase] : List (State)), s.aon.up = true ∧ s.clockWatched 1 = true ∧ s.fld .pwrClkState 3 2 ≠ 2 ∧ s.arr.descs = [] ∧ s.arr.work = [] ∧ s.arr.redAgain = [] ∧ s.arr.redIn = [] ∧ s.arr.submits = []) ∧
    (∃ s ∈ ([hOff] : List (State)), s.aon.up = true ∧ s.poweredDom 19 = false) ∧
    (∃ s ∈ ([hLinkOff] : List (State)), s.aon.up = true ∧ s.aon.rclkAbsent = false ∧ s.linkUp = false) ∧
    (∃ s ∈ ([hNoRclk] : List (State)), s.aon.up = true ∧ s.aon.rclkAbsent = true) := by
  refine ⟨?_, ?_, ?_, ?_, ?_, ?_, ?_⟩ <;> decide +kernel

set_option maxRecDepth 1000000 in
set_option synthInstance.maxSize 100000 in
set_option synthInstance.maxHeartbeats 2000000 in
/-- States and operands that meet the hypotheses of RestartWrites. -/
theorem witness_RestartWrites :
    (∃ r ∈ ([.port true] : List (Requester)), ∃ s ∈ ([hMclkStop] : List (State)), s.aon.up = true ∧ s.heard r = true ∧ s.pwr.mclkStop = true ∧ s.clockOk 5 = true ∧ s.cal.planDue = false) ∧
    (∃ r ∈ ([.port true] : List (Requester)), ∃ s ∈ ([hMclkOut] : List (State)), s.aon.up = true ∧ s.heard r = true ∧ s.pwr.mclkStop = true ∧ s.clockOk 5 = false) ∧
    (∃ r ∈ ([.port true] : List (Requester)), ∃ s ∈ ([hBase] : List (State)), s.aon.up = true ∧ s.heard r = true ∧ s.pwr.mclkStop = false) ∧
    (∃ r ∈ ([.port true] : List (Requester)), ∃ s ∈ ([hArrStop] : List (State)), s.aon.up = true ∧ s.heard r = true ∧ s.arr.clkFence = true ∧ s.clockOk 1 = true) ∧
    (∃ r ∈ ([.port true] : List (Requester)), ∃ s ∈ ([hArrOut] : List (State)), s.aon.up = true ∧ s.heard r = true ∧ s.arr.clkFence = true ∧ s.clockOk 1 = false) ∧
    (∃ r ∈ ([.port true] : List (Requester)), ∃ s ∈ ([hBase] : List (State)), s.aon.up = true ∧ s.heard r = true ∧ s.arr.clkFence = false) ∧
    (∃ r ∈ ([.port true] : List (Requester)), ∃ s ∈ ([hBase] : List (State)), s.aon.up = true ∧ s.heard r = true ∧ s.hSide = true ∧ s.streamCan = true ∧ s.sp.ingress = [] ∧ s.sp.egress = [] ∧ s.sp.sending = [none, none] ∧ s.obj .pktSportLockEn = 0 ∧ s.obj .pktFa ≠ 0xFFF) ∧
    (∃ r ∈ ([.port true] : List (Requester)), ∃ s ∈ ([hPortBad] : List (State)), s.aon.up = true ∧ s.heard r = true ∧ s.hSide = true ∧ s.readyDom 18 = true ∧ s.streamCan = false) ∧
    (∃ r ∈ ([.port true] : List (Requester)), ∃ s ∈ ([sPortBad] : List (State)), s.aon.up = true ∧ s.heard r = true ∧ s.sSide = true ∧ s.readyDom 18 = true ∧ s.stackCan = false) ∧
    (∃ r ∈ ([.port true] : List (Requester)), ∃ s ∈ ([sBase] : List (State)), s.aon.up = true ∧ s.heard r = true ∧ s.sSide = true ∧ s.stackCan = true ∧ s.stk.jobs = [] ∧ s.stk.pcs = List.replicate 32 Pc.reset) := by
  refine ⟨?_, ?_, ?_, ?_, ?_, ?_, ?_, ?_, ?_, ?_⟩ <;> decide +kernel

set_option maxRecDepth 1000000 in
set_option synthInstance.maxSize 100000 in
set_option synthInstance.maxHeartbeats 2000000 in
/-- States and operands that meet the hypotheses of PortLockSequence. -/
theorem witness_PortLockSequence :
    (∃ p ∈ ([.stream] : List (Port)), ∃ s ∈ ([hBase] : List (State)), s.aon.up = true ∧ ∃ r ∈ ([.port true] : List (Requester)), s.heard r = true ∧ s.portUp p = true ∧ s.obj (lockObj p) = 0) ∧
    (∃ p ∈ ([.stream] : List (Port)), ∃ s ∈ ([hDraining] : List (State)), s.aon.up = true ∧ ∃ onGrid ∈ ([true] : List (Bool)), ∃ moved ∈ ([true] : List (Bool)), s.portUp p = true ∧ s.lockPhase p = .draining ∧ s.portEmpty p = true) ∧
    (∃ p ∈ ([.stream] : List (Port)), ∃ s ∈ ([hMeasured] : List (State)), s.aon.up = true ∧ s.lockPhase p = .measured) ∧
    (∃ p ∈ ([.stream] : List (Port)), ∃ s ∈ ([hLockFailed] : List (State)), s.aon.up = true ∧ s.lockPhase p = .failed) ∧
    (∃ p ∈ ([.stream] : List (Port)), ∃ s ∈ ([hIsLocked] : List (State)), s.aon.up = true ∧ s.lockPhase p = .locked) ∧
    (∃ p ∈ ([.stream] : List (Port)), ∃ s ∈ ([hDraining] : List (State)), s.aon.up = true ∧ ∃ r ∈ ([.port true] : List (Requester)), s.heard r = true ∧ s.lockPhase p ≠ .off) ∧
    (∃ p ∈ ([.stream] : List (Port)), ∃ s ∈ ([hLeaving] : List (State)), s.aon.up = true ∧ s.lockPhase p = .leaving) := by
  refine ⟨?_, ?_, ?_, ?_, ?_, ?_, ?_⟩ <;> decide +kernel

set_option maxHeartbeats 2000000 in
set_option maxRecDepth 1000000 in
set_option synthInstance.maxSize 100000 in
set_option synthInstance.maxHeartbeats 2000000 in
/-- States and operands that meet the hypotheses of StreamIngress. -/
theorem witness_StreamIngress :
    (∃ s ∈ ([hBase] : List (State)), ∃ sub ∈ ([0] : List (Fin 2)), ∃ vc ∈ ([0] : List (Fin 8)), ∃ bytes ∈ ([fillDesc] : List (List Byte)), ∃ poison ∈ ([[]] : List (List Nat)), ∃ bad ∈ ([[]] : List (List Nat)), s.aon.up = true ∧ bytes ≠ [] ∧ s.hSide = true ∧ s.sp.up = true ∧ beatsOf bytes.length ≤ s.sp.ingCredits.getD vc 0 ∧ (∀ b ∈ bad, beatsOf bytes.length ≤ b)) ∧
    (∃ s ∈ ([hPoor] : List (State)), ∃ sub ∈ ([0] : List (Fin 2)), ∃ vc ∈ ([0] : List (Fin 8)), ∃ bytes ∈ ([wrBig.streamBytes] : List (List Byte)), ∃ poison ∈ ([[]] : List (List Nat)), ∃ bad ∈ ([[]] : List (List Nat)), s.aon.up = true ∧ bytes ≠ [] ∧ s.hSide = true ∧ s.sp.up = true ∧ s.sp.ingCredits.getD vc 0 < beatsOf bytes.length ∧ s.obj .pktSportErrs + 1 < 2 ^ 32) ∧
    (∃ s ∈ ([hBase] : List (State)), ∃ sub ∈ ([0] : List (Fin 2)), ∃ vc ∈ ([0] : List (Fin 8)), ∃ bytes ∈ ([fillDesc] : List (List Byte)), ∃ poison ∈ ([[]] : List (List Nat)), ∃ bad ∈ ([[0]] : List (List Nat)), s.aon.up = true ∧ bytes ≠ [] ∧ s.hSide = true ∧ s.sp.up = true ∧ beatsOf bytes.length ≤ s.sp.ingCredits.getD vc 0 ∧ 0 ∈ bad ∧ s.obj .pktSportErrs + 1 < 2 ^ 32) ∧
    (∃ s ∈ ([hBase] : List (State)), ∃ sub ∈ ([0] : List (Fin 2)), ∃ vc ∈ ([0] : List (Fin 8)), ∃ bytes ∈ ([wrBig.streamBytes] : List (List Byte)), ∃ poison ∈ ([[]] : List (List Nat)), ∃ bad ∈ ([[1]] : List (List Nat)), s.aon.up = true ∧ bytes ≠ [] ∧ s.hSide = true ∧ s.sp.up = true ∧ beatsOf bytes.length ≤ s.sp.ingCredits.getD vc 0 ∧ 0 ∉ bad ∧ (∃ b ∈ bad, b < beatsOf bytes.length) ∧ s.obj .pktSportErrs + 1 < 2 ^ 32 ∧ isRequest (Hdr.ofBytes bytes).type = true ∧ ∃ port ∈ ([5] : List (Nat)), port < 64 ∧ s.repliesBy (Hdr.ofBytes bytes) port) ∧
    (∃ s ∈ ([hBase] : List (State)), ∃ sub ∈ ([0] : List (Fin 2)), ∃ vc ∈ ([0] : List (Fin 8)), ∃ bytes ∈ ([rspBig.streamBytes] : List (List Byte)), ∃ poison ∈ ([[]] : List (List Nat)), ∃ bad ∈ ([[1]] : List (List Nat)), s.aon.up = true ∧ bytes ≠ [] ∧ s.hSide = true ∧ s.sp.up = true ∧ beatsOf bytes.length ≤ s.sp.ingCredits.getD vc 0 ∧ 0 ∉ bad ∧ (∃ b ∈ bad, b < beatsOf bytes.length) ∧ s.obj .pktSportErrs + 1 < 2 ^ 32 ∧ isRequest (Hdr.ofBytes bytes).type = false) ∧
    (∃ s ∈ ([sBase] : List (State)), ∃ sub ∈ ([0] : List (Fin 2)), ∃ vc ∈ ([0] : List (Fin 8)), ∃ bytes ∈ ([fillDesc] : List (List Byte)), ∃ poison ∈ ([[]] : List (List Nat)), ∃ bad ∈ ([[]] : List (List Nat)), s.aon.up = true ∧ bytes ≠ [] ∧ (s.hSide = false ∨ s.sp.up = false)) := by
  unfold State.repliesBy
  refine ⟨?_, ?_, ?_, ?_, ?_, ?_⟩ <;> decide +kernel

set_option maxRecDepth 1000000 in
set_option synthInstance.maxSize 100000 in
set_option synthInstance.maxHeartbeats 2000000 in
/-- States and operands that meet the hypotheses of StreamEgressAndHeldPackets. -/
theorem witness_StreamEgressAndHeldPackets :
    (∃ s ∈ ([hBase] : List (State)), ∃ sub ∈ ([0] : List (Fin 2)), s.aon.up = true ∧ ∃ vc ∈ ([0] : List (Fin 8)), ∃ n ∈ ([0] : List (Fin 16)), s.hSide = true ∧ s.sp.up = true) ∧
    (∃ s ∈ ([hStream] : List (State)), ∃ sub ∈ ([0] : List (Fin 2)), s.aon.up = true ∧ s.hSide = true ∧ s.sp.up = true ∧ s.sp.lock.pauses = false ∧ s.eng.takeover = false ∧ s.sp.sending.getD sub none = none ∧ (∃ v : Nat, v < 8 ∧ s.streamEligible v = true)) ∧
    (∃ s ∈ ([hBase] : List (State)), ∃ sub ∈ ([0] : List (Fin 2)), s.aon.up = true ∧ (∀ v : Nat, v < 8 → s.streamEligible v = false)) ∧
    (∃ s ∈ ([hStream] : List (State)), ∃ sub ∈ ([1] : List (Fin 2)), s.aon.up = true ∧ ∃ q ∈ (s.sp.sending.getD sub none).toList, s.sp.sending.getD sub none = some q) ∧
    (∃ s ∈ ([hHold] : List (State)), ∃ slot ∈ ([3] : List (Fin 32)), s.aon.up = true ∧ ∃ q ∈ (s.pk.hold.getD slot none).toList, s.pk.hold.getD slot none = some q ∧ ∃ m ∈ (s.findMsg q.pkt.hdr).toList, s.findMsg q.pkt.hdr = some m ∧ q.pkt.hdr.msgCount - 1 ≤ m.forwarded ∧ s.sp.up = true) ∧
    (∃ s ∈ ([hStream] : List (State)), ∃ slot ∈ ([3] : List (Fin 32)), s.aon.up = true ∧ ∃ q ∈ (s.pk.hold.getD slot none).toList, s.pk.hold.getD slot none = some q ∧ ∃ m ∈ (s.findMsg q.pkt.hdr).toList, s.findMsg q.pkt.hdr = some m ∧ m.forwarded < q.pkt.hdr.msgCount - 1) := by
  refine ⟨?_, ?_, ?_, ?_, ?_, ?_⟩ <;> decide +kernel

set_option maxHeartbeats 2000000 in
set_option maxRecDepth 1000000 in
set_option synthInstance.maxSize 100000 in
set_option synthInstance.maxHeartbeats 2000000 in
/-- States and operands that meet the hypotheses of RelayTransfers. -/
theorem witness_RelayTransfers :
    (∃ s ∈ ([hBase] : List (State)), s.aon.up = true ∧ s.linkCore = true ∧ ∃ vc ∈ ([0] : List (Fin 8)), ∃ flits ∈ ([relayOf wrBig] : List (List (List Byte))), ∃ bad ∈ ([[]] : List (List Nat)), flits ≠ [] ∧ (flits.all fun f => f.length == 256) = true ∧ (∀ b ∈ bad, flits.length ≤ b)) ∧
    (∃ s ∈ ([hBase] : List (State)), s.aon.up = true ∧ s.linkCore = true ∧ ∃ vc ∈ ([0] : List (Fin 8)), ∃ flits ∈ ([relayOf wrBig] : List (List (List Byte))), ∃ bad ∈ ([[0]] : List (List Nat)), flits ≠ [] ∧ (flits.all fun f => f.length == 256) = true ∧ 0 ∈ bad ∧ s.obj .pktRelayErrs + 1 < 2 ^ 32) ∧
    (∃ s ∈ ([hBase] : List (State)), s.aon.up = true ∧ s.linkCore = true ∧ ∃ vc ∈ ([0] : List (Fin 8)), ∃ flits ∈ ([relayOf wrBig] : List (List (List Byte))), ∃ bad ∈ ([[1]] : List (List Nat)), flits ≠ [] ∧ (flits.all fun f => f.length == 256) = true ∧ 0 ∉ bad ∧ (∃ b ∈ bad, b < flits.length) ∧ s.obj .pktRelayErrs + 1 < 2 ^ 32 ∧ isRequest (relayPacket vc flits).hdr.type = true ∧ ∃ port ∈ ([5] : List (Nat)), port < 64 ∧ s.repliesBy (relayPacket vc flits).hdr port) ∧
    (∃ s ∈ ([hBase] : List (State)), s.aon.up = true ∧ s.linkCore = true ∧ ∃ vc ∈ ([0] : List (Fin 8)), ∃ flits ∈ ([relayOf rspBig] : List (List (List Byte))), ∃ bad ∈ ([[1]] : List (List Nat)), flits ≠ [] ∧ (flits.all fun f => f.length == 256) = true ∧ 0 ∉ bad ∧ (∃ b ∈ bad, b < flits.length) ∧ s.obj .pktRelayErrs + 1 < 2 ^ 32 ∧ isRequest (relayPacket vc flits).hdr.type = false) ∧
    (∃ s ∈ ([hBase] : List (State)), s.aon.up = true ∧ s.linkCore = true ∧ ∃ vc ∈ ([0] : List (Fin 8)), ∃ n ∈ ([0] : List (Fin 16)), True) ∧
    (∃ s ∈ ([hRelay] : List (State)), s.aon.up = true ∧ s.linkCore = true ∧ s.rl.lock.pauses = false ∧ s.eng.takeover = false ∧ (∃ v : Nat, v < 8 ∧ s.relayEligible v = true)) ∧
    (∃ s ∈ ([hBase] : List (State)), s.aon.up = true ∧ s.linkCore = true ∧ (∀ v : Nat, v < 8 → s.relayEligible v = false)) ∧
    (∃ s ∈ ([hBase] : List (State)), s.aon.up = true ∧ s.linkCore = true ∧ ∃ bits ∈ ([family] : List (Nat)), True) ∧
    (∃ s ∈ ([hRelay] : List (State)), s.aon.up = true ∧ s.linkCore = true ∧ ∃ e ∈ ((s.rl.holds).take 1).map fun x => x.1, ∃ stamp ∈ ((s.rl.holds).take 1).map fun x => x.2, ∃ rest ∈ [(s.rl.holds).drop 1], s.rl.holds = (e, stamp) :: rest) := by
  unfold State.repliesBy
  refine ⟨?_, ?_, ?_, ?_, ?_, ?_, ?_, ?_, ?_⟩ <;> decide +kernel

set_option maxRecDepth 1000000 in
set_option synthInstance.maxSize 100000 in
set_option synthInstance.maxHeartbeats 2000000 in
/-- States and operands that meet the hypotheses of StackCommands. -/
theorem witness_StackCommands :
    (∃ share ∈ ([family] : List (Nat)), ∃ arrUsed ∈ ([family] : List (Nat)), ∃ pktUsed ∈ ([family] : List (Nat)), ∃ l ∈ ([[{ rdOp 1 2 (.packet 0 0) 0 with tc := 1 }]] : List (List StkOp)), (∃ o ∈ l, o.arr = false ∧ o.walks = false ∧ isDl o.tc = true)) ∧
    (∃ share ∈ ([family] : List (Nat)), ∃ arrUsed ∈ ([0] : List (Nat)), ∃ pktUsed ∈ ([family] : List (Nat)), ∃ l ∈ ([[{ rdOp 1 2 (.access 0) 0 with tc := 2, arr := true }]] : List (List StkOp)), (∀ o ∈ l, o.arr = false → o.walks = false → isDl o.tc = false) ∧ (∃ o ∈ l, o.arr = true ∧ isDl o.tc = true) ∧ arrUsed < share) ∧
    (∃ share ∈ ([family] : List (Nat)), ∃ arrUsed ∈ ([family] : List (Nat)), ∃ pktUsed ∈ ([family] : List (Nat)), ∃ l ∈ ([[{ rdOp 1 2 (.packet 0 0) 0 with tc := 1 }]] : List (List StkOp)), l ≠ []) ∧
    (∃ share ∈ ([family] : List (Nat)), ∃ arrUsed ∈ ([family] : List (Nat)), ∃ pktUsed ∈ ([family] : List (Nat)), ∃ l ∈ ([[]] : List (List StkOp)), l = []) ∧
    (∃ s ∈ ([sStack] : List (State)), ∃ p ∈ ([3] : List (Fin 32)), s.aon.up = true ∧ ∃ op ∈ (arbitrate (s.obj .arrStackShare) (s.pc p).arrUsed (s.pc p).pktUsed (s.issuable (s.pc p) [] (s.pc p).waiting)).toList, arbitrate (s.obj .arrStackShare) (s.pc p).arrUsed (s.pc p).pktUsed (s.issuable (s.pc p) [] (s.pc p).waiting) = some op ∧ ∃ tag ∈ ((s.pc p).freeTag).toList, (s.pc p).freeTag = some tag ∧ s.stackRuns = true ∧ s.stk.lock.pauses = false ∧ (s.obj .stkPcState).testBit p = false ∧ (s.pc p).queue.length < 16 ∧ op.step = .read ∧ s.stk.pcs.length = 32) ∧
    (∃ s ∈ ([sOneDown] : List (State)), ∃ p ∈ ([1] : List (Fin 32)), s.aon.up = true ∧ (s.obj .stkPcState).testBit p = true) ∧
    (∃ s ∈ ([sStack] : List (State)), ∃ p ∈ ([4] : List (Fin 32)), s.aon.up = true ∧ ∃ op ∈ ((s.pc p).queue).take 1, ∃ rest ∈ [((s.pc p).queue).drop 1], (s.pc p).queue = op :: rest ∧ s.sSide = true ∧ s.stk.up = true ∧ s.poweredDom 18 = true) := by
  refine ⟨?_, ?_, ?_, ?_, ?_, ?_, ?_⟩ <;> decide +kernel

set_option maxRecDepth 1000000 in
set_option synthInstance.maxSize 100000 in
set_option synthInstance.maxHeartbeats 2000000 in
/-- States and operands that meet the hypotheses of StackResponses. -/
theorem witness_StackResponses :
    (∃ s ∈ ([sStack] : List (State)), ∃ p ∈ ([5] : List (Fin 32)), ∃ tag ∈ ([1] : List (Fin 256)), s.aon.up = true ∧ s.sSide = true ∧ s.stk.up = true ∧ s.poweredDom 18 = true ∧ ∃ op ∈ (((s.pc p).outstanding.find? fun o => o.tag == tag.val)).toList, ((s.pc p).outstanding.find? fun o => o.tag == tag.val) = some op ∧ ∃ j ∈ s.stk.jobs, (s.stk.jobs.find? fun x => x.id == j.id) = some j ∧ ∃ idx ∈ ([0] : List (Nat)), op.use = .packet j.id idx ∧ op.rmw = false ∧ 1 < j.left ∧ ∃ data ∈ ([zeros 64] : List (List Byte)), data.length = 64 ∧ ∃ md ∈ ([metaOf (zeros 64) 2 0 0 false] : List (Nat)), ∃ key ∈ ((s.slot op.part).named (metaKsel md)).toList, op.step = .read ∧ md < 2 ^ 64 ∧ metaTag md = op.part ∧ outerFix data md = some (data, md % 2 ^ 32, 0) ∧ metaFault md = false ∧ metaForm md = 0 ∧ metaPoison md = 0 ∧ (s.slot op.part).named (metaKsel md) = some key) ∧
    (∃ s ∈ ([sStack] : List (State)), ∃ p ∈ ([5] : List (Fin 32)), ∃ tag ∈ ([1] : List (Fin 256)), s.aon.up = true ∧ s.sSide = true ∧ s.stk.up = true ∧ s.poweredDom 18 = true ∧ ∃ op ∈ (((s.pc p).outstanding.find? fun o => o.tag == tag.val)).toList, ((s.pc p).outstanding.find? fun o => o.tag == tag.val) = some op ∧ ∃ j ∈ s.stk.jobs, (s.stk.jobs.find? fun x => x.id == j.id) = some j ∧ ∃ idx ∈ ([0] : List (Nat)), op.use = .packet j.id idx ∧ op.rmw = false ∧ 1 < j.left ∧ ∃ data ∈ ([zeros 64] : List (List Byte)), data.length = 64 ∧ ∃ md ∈ ([metaOf (zeros 64) 7 0 0 false] : List (Nat)), op.step = .read ∧ md < 2 ^ 64 ∧ metaTag md ≠ op.part ∧ s.obj .stkTagMismatch + 1 < 2 ^ 32 ∧ s.obj .stkDenied + 1 < 2 ^ 32) ∧
    (∃ s ∈ ([sStack] : List (State)), ∃ p ∈ ([5] : List (Fin 32)), ∃ tag ∈ ([2] : List (Fin 256)), s.aon.up = true ∧ s.sSide = true ∧ s.stk.up = true ∧ s.poweredDom 18 = true ∧ ∃ op ∈ (((s.pc p).outstanding.find? fun o => o.tag == tag.val)).toList, ((s.pc p).outstanding.find? fun o => o.tag == tag.val) = some op ∧ ∃ j ∈ s.stk.jobs, (s.stk.jobs.find? fun x => x.id == j.id) = some j ∧ ∃ idx ∈ ([0] : List (Nat)), op.use = .packet j.id idx ∧ op.rmw = false ∧ 1 < j.left ∧ ∃ data ∈ ([zeros 64] : List (List Byte)), data.length = 64 ∧ ∃ md ∈ ([metaOf (zeros 64) 2 0 0 false] : List (Nat)), ∃ err ∈ ([0] : List (Fin 4)), op.step = .write) ∧
    (∃ s ∈ ([sStack] : List (State)), ∃ p ∈ ([5] : List (Fin 32)), ∃ tag ∈ ([1] : List (Fin 256)), s.aon.up = true ∧ s.sSide = true ∧ s.stk.up = true ∧ s.poweredDom 18 = true ∧ ∃ op ∈ (((s.pc p).outstanding.find? fun o => o.tag == tag.val)).toList, ((s.pc p).outstanding.find? fun o => o.tag == tag.val) = some op ∧ ∃ j ∈ s.stk.jobs, (s.stk.jobs.find? fun x => x.id == j.id) = some j ∧ ∃ idx ∈ ([0] : List (Nat)), op.use = .packet j.id idx ∧ op.rmw = false ∧ 1 < j.left ∧ op.step = .read) ∧
    (∃ s ∈ ([sBase] : List (State)), ∃ p ∈ ([0] : List (Fin 32)), ∃ tag ∈ ([0] : List (Fin 256)), s.aon.up = true ∧ s.sSide = true ∧ s.stk.up = true ∧ s.poweredDom 18 = true ∧ ((s.pc p).outstanding.find? fun o => o.tag == tag.val) = none ∧ s.obj .stkLateRsp + 1 < 2 ^ 32 ∧ ∃ data ∈ ([zeros 64] : List (List Byte)), data.length = 64 ∧ ∃ md ∈ ([metaOf (zeros 64) 2 0 0 false] : List (Nat)), ∃ err ∈ ([0] : List (Fin 4)), True) := by
  refine ⟨?_, ?_, ?_, ?_, ?_⟩ <;> decide +kernel

set_option maxRecDepth 1000000 in
set_option synthInstance.maxSize 100000 in
set_option synthInstance.maxHeartbeats 2000000 in
/-- States and operands that meet the hypotheses of StackWalksAndPinDown. -/
theorem witness_StackWalksAndPinDown :
    (∃ s ∈ ([sBase] : List (State)), ∃ p ∈ ([0] : List (Fin 32)), s.aon.up = true ∧ s.sSide = true ∧ s.stk.downPins.testBit p = false ∧ s.stk.pcs.length = 32 ∧ (s.pc p).queue = [] ∧ (s.pc p).waiting = [] ∧ ((s.pc p).outstanding = [] ∨ ∃ op ∈ (s.pc p).outstanding, (s.pc p).outstanding = [op] ∧ op.step = .read ∧ op.rmw = false ∧ ∃ a ∈ s.arr.accesses, op.use = .access a.id)) ∧
    (∃ s ∈ ([hBase] : List (State)), ∃ p ∈ ([0] : List (Fin 32)), s.aon.up = true ∧ ∃ level ∈ ([true] : List (Bool)), s.sSide = false) ∧
    (∃ s ∈ ([sScrub] : List (State)), s.aon.up = true ∧ s.stackRuns = true ∧ s.stk.pcs.length = 32 ∧ s.obj .stkPcState = 0 ∧ s.obj .stkScrubEn = 1 ∧ s.stk.scrubBusy = false ∧ s.rekeyPending = false ∧ s.partValid (s.fld .stkScrubPos 47 40) = true ∧ s.partBase (s.fld .stkScrubPos 47 40) ≤ s.fld .stkScrubPos 39 0 ∧ s.fld .stkScrubPos 39 0 ≤ s.partLimit (s.fld .stkScrubPos 47 40)) ∧
    (∃ s ∈ ([sRekey] : List (State)), s.aon.up = true ∧ s.stackRuns = true ∧ s.stk.pcs.length = 32 ∧ s.obj .stkPcState = 0 ∧ s.rekeyPending = true) ∧
    (∃ s ∈ ([sRekey] : List (State)), s.aon.up = true ∧ s.stackRuns = true ∧ s.stk.pcs.length = 32 ∧ s.obj .stkPcState = 0 ∧ ∃ slot ∈ ([2] : List (Nat)), slot < 256 ∧ ∃ a ∈ ((s.slot slot).walk).toList, (s.slot slot).walk = some a ∧ (∀ q : Nat, q < slot → (s.slot q).walk = none) ∧ s.stk.rekeyBusy = false ∧ a ≤ s.partLimit slot) ∧
    (∃ s ∈ ([sRekeyEnd] : List (State)), s.aon.up = true ∧ s.stackRuns = true ∧ s.stk.pcs.length = 32 ∧ s.obj .stkPcState = 0 ∧ ∃ slot ∈ ([2] : List (Nat)), slot < 256 ∧ ∃ a ∈ ((s.slot slot).walk).toList, (s.slot slot).walk = some a ∧ (∀ q : Nat, q < slot → (s.slot q).walk = none) ∧ s.stk.rekeyBusy = false ∧ s.partLimit slot < a ∧ s.obj .stkDigestGenNow + 1 < 2 ^ 32) := by
  refine ⟨?_, ?_, ?_, ?_, ?_, ?_⟩ <;> decide +kernel

set_option maxRecDepth 1000000 in
set_option synthInstance.maxSize 100000 in
set_option synthInstance.maxHeartbeats 2000000 in
/-- States and operands that meet the hypotheses of ObjectAccesses. -/
theorem witness_ObjectAccesses :
    (∃ r ∈ ([.port true] : List (Requester)), ∃ s ∈ ([hBase] : List (State)), s.aon.up = true ∧ s.heard r = true ∧ ∃ o ∈ ([.pktOwnEp] : List (Obj)), o ∈ [Obj.pktOwnEp, .pktAdaptBias, .lnkIdleLimit, .tclSampleLog] ∧ ∃ v ∈ ([family] : List (Nat)), v < 2 ^ (8 * o.row.layout.bytes) ∧ o.valid 0 (o.fit 0 v) = true) ∧
    (∃ r ∈ ([.port true] : List (Requester)), ∃ s ∈ ([hBase] : List (State)), s.aon.up = true ∧ s.heard r = true ∧ ∃ o ∈ ([.tclSampleLog] : List (Obj)), o ∈ [Obj.pktOwnEp, .pktAdaptBias, .lnkIdleLimit, .tclSampleLog] ∧ ∃ v ∈ ([family] : List (Nat)), v < 2 ^ (8 * o.row.layout.bytes) ∧ o.valid 0 (o.fit 0 v) = false) ∧
    (∃ r ∈ ([.port true] : List (Requester)), ∃ s ∈ ([hBase] : List (State)), s.aon.up = true ∧ s.heard r = true ∧ ∃ o ∈ ([.lnkState] : List (Obj)), o.row.access = .ro ∧ s.holderOn o = true ∧ ∃ b ∈ ([0] : List (Byte)), True) ∧
    (∃ r ∈ ([.port true] : List (Requester)), ∃ s ∈ ([hBase] : List (State)), s.aon.up = true ∧ s.heard r = true ∧ ∃ o ∈ ([.pktOwnEp] : List (Obj)), s.mayWrite o r = true ∧ s.holderOn o = true ∧ ∃ b ∈ ([0] : List (Byte)), True) ∧
    (∃ r ∈ ([.port true] : List (Requester)), ∃ s ∈ ([hBase] : List (State)), s.aon.up = true ∧ s.heard r = true ∧ ∃ index ∈ ([family] : List (Nat)), ∃ sub ∈ ([family] : List (Nat)), ∃ off ∈ ([family] : List (Nat)), ∃ data ∈ ([fillDesc] : List (List Byte)), objAt index sub = none) ∧
    (∃ sec ∈ ([true] : List (Bool)), ∃ s ∈ ([hBase] : List (State)), s.aon.up = true ∧ s.pwr.hclkStop = false ∧ ∃ value ∈ ([family] : List (Nat)), True) ∧
    (∃ sec ∈ ([true] : List (Bool)), ∃ s ∈ ([hDxEp] : List (State)), s.aon.up = true ∧ s.pwr.hclkStop = false ∧ ∃ o ∈ ([.pktOwnEp] : List (Obj)), o ∈ [Obj.pktOwnEp, .pktFa, .lnkState, .tclSampleLog] ∧ s.holderOn o = true ∧ s.mgt.dxSel = o.row.index * 2 ^ 16 + o.row.sub * 2 ^ 8 ∧ s.mgt.dxOffset = 0 ∧ o = .pktOwnEp ∧ ∃ v ∈ ([family] : List (Nat)), v < 2 ^ 20) ∧
    (∃ sec ∈ ([true] : List (Bool)), ∃ s ∈ ([hDxLnk] : List (State)), s.aon.up = true ∧ s.pwr.hclkStop = false ∧ ∃ o ∈ ([.lnkState] : List (Obj)), o ∈ [Obj.pktOwnEp, .pktFa, .lnkState, .tclSampleLog] ∧ s.holderOn o = true ∧ s.mgt.dxSel = o.row.index * 2 ^ 16 + o.row.sub * 2 ^ 8 ∧ s.mgt.dxOffset = 0 ∧ o = .lnkState ∧ ∃ v ∈ ([family] : List (Nat)), True) ∧
    (∃ s ∈ ([hObjRead] : List (State)), ∃ tag ∈ ([1] : List (Byte)), s.aon.up = true ∧ s.seqRuns = true ∧ s.mgt.mailboxes.length = 6 ∧ (s.mbx 0).inFull = false ∧ s.mgt.taken = [⟨0, false, [2, tag, 0, 0, 0x00, 0x40, 1, 0, 0, 0, 2, 0, 0, 0, 0, 0]⟩]) ∧
    (∃ s ∈ ([hObjWrite] : List (State)), ∃ tag ∈ ([1] : List (Byte)), s.aon.up = true ∧ s.seqRuns = true ∧ s.mgt.mailboxes.length = 6 ∧ (s.mbx 0).inFull = false ∧ ∃ v ∈ ([300] : List (Nat)), v < 2 ^ 20 ∧ s.mgt.taken = [⟨0, false, [3, tag, 0, 0, 0x00, 0x40, 2, 0, 0, 0, 4, 0, 0, 0, 0, 0] ++ toBytes 4 v⟩]) := by
  refine ⟨?_, ?_, ?_, ?_, ?_, ?_, ?_, ?_, ?_, ?_⟩ <;> decide +kernel

set_option maxRecDepth 1000000 in
set_option synthInstance.maxSize 100000 in
set_option synthInstance.maxHeartbeats 2000000 in
/-- States and operands that meet the hypotheses of PacketConfigurationWrites. -/
theorem witness_PacketConfigurationWrites :
    (∃ r ∈ ([.port true] : List (Requester)), ∃ s ∈ ([hQuiet] : List (State)), ∃ v ∈ ([family] : List (Nat)), s.aon.up = true ∧ s.heard r = true ∧ s.obj .mgtSeal = 0 ∧ s.pk.ownWait = [] ∧ s.sp.up = false ∧ s.sbUp = true ∧ s.idlePackets = true ∧ v < 2 ^ 12) ∧
    (∃ r ∈ ([.port true] : List (Requester)), ∃ s ∈ ([hStream] : List (State)), ∃ v ∈ ([family] : List (Nat)), s.aon.up = true ∧ s.heard r = true ∧ s.obj .mgtSeal = 0 ∧ s.pk.ownWait = [] ∧ s.idlePackets = false) ∧
    (∃ r ∈ ([.port true] : List (Requester)), ∃ s ∈ ([hBase] : List (State)), ∃ v ∈ ([1] : List (Nat)), s.aon.up = true ∧ s.heard r = true ∧ s.obj .mgtSeal = 0 ∧ s.pk.ownWait = [] ∧ v ≤ 1 ∧ s.epochNow ≠ v ∧ s.flowsUsed = [] ∧ (∀ i : Nat, i < 256 → s.entry .tclFlowState i = 0) ∧ s.obj .pktRouteFlips + 1 < 2 ^ 32) ∧
    (∃ r ∈ ([.port true] : List (Requester)), ∃ s ∈ ([hBase] : List (State)), ∃ v ∈ ([family] : List (Nat)), s.aon.up = true ∧ s.heard r = true ∧ s.obj .mgtSeal = 0 ∧ s.pk.ownWait = [] ∧ ∃ table ∈ ([1] : List (Fin 2)), ∃ die ∈ ([0] : List (Fin 64)), v < 2 ^ 16 ∧ s.epochNow ≠ table.val ∧ s.drain table.val = 0) ∧
    (∃ r ∈ ([.port true] : List (Requester)), ∃ s ∈ ([hBase] : List (State)), ∃ v ∈ ([family] : List (Nat)), s.aon.up = true ∧ s.heard r = true ∧ s.obj .mgtSeal = 0 ∧ s.pk.ownWait = [] ∧ ∃ table ∈ ([0] : List (Fin 2)), ∃ die ∈ ([0] : List (Fin 64)), v < 2 ^ 16 ∧ (s.epochNow = table.val ∨ s.drain table.val ≠ 0)) ∧
    (∃ r ∈ ([.port true] : List (Requester)), ∃ s ∈ ([hBase] : List (State)), ∃ v ∈ ([0] : List (Nat)), s.aon.up = true ∧ s.heard r = true ∧ s.obj .mgtSeal = 0 ∧ s.pk.ownWait = [] ∧ v ≤ 2) ∧
    (∃ r ∈ ([.port true] : List (Requester)), ∃ s ∈ ([hBase] : List (State)), ∃ v ∈ ([0] : List (Nat)), s.aon.up = true ∧ s.heard r = true ∧ s.obj .mgtSeal = 0 ∧ s.pk.ownWait = [] ∧ v < 2 ^ 32 ∧ s.cidxBad v = false) ∧
    (∃ r ∈ ([.port true] : List (Requester)), ∃ s ∈ ([hBase] : List (State)), ∃ v ∈ ([family] : List (Nat)), s.aon.up = true ∧ s.heard r = true ∧ s.obj .mgtSeal = 0 ∧ s.pk.ownWait = [] ∧ v < 2 ^ 32 ∧ s.cidxBad v = true) := by
  refine ⟨?_, ?_, ?_, ?_, ?_, ?_, ?_, ?_⟩ <;> decide +kernel

set_option maxRecDepth 1000000 in
set_option synthInstance.maxSize 100000 in
set_option synthInstance.maxHeartbeats 2000000 in
/-- States and operands that meet the hypotheses of SealGroupAndSpill. -/
theorem witness_SealGroupAndSpill :
    (∃ r ∈ ([.port true] : List (Requester)), ∃ s ∈ ([hBase] : List (State)), s.aon.up = true ∧ s.heard r = true ∧ isSecure r = true) ∧
    (∃ r ∈ ([.port false] : List (Requester)), ∃ s ∈ ([hBase] : List (State)), s.aon.up = true ∧ s.heard r = true ∧ isSecure r = false ∧ ∃ v ∈ ([family] : List (Nat)), True) ∧
    (∃ r ∈ ([.port true] : List (Requester)), ∃ s ∈ ([hSealed] : List (State)), s.aon.up = true ∧ s.heard r = true ∧ s.obj .mgtSeal = 1 ∧ ∃ o ∈ ([.stkSectors] : List (Obj)), o.row.access = .rwLocked ∧ ∃ b ∈ ([0] : List (Byte)), True) ∧
    (∃ r ∈ ([.port true] : List (Requester)), ∃ s ∈ ([hNoRclk] : List (State)), s.aon.up = true ∧ s.heard r = true ∧ ∃ g ∈ ([family] : List (Nat)), g < 8 ∧ s.obj .phyGroupOff = 0 ∧ s.linkUp = false ∧ s.groupActive g = false ∧ s.cal.recal = none ∧ s.cal.scan = none ∧ s.cal.monitor = none ∧ s.scr.running = []) ∧
    (∃ r ∈ ([.port true] : List (Requester)), ∃ s ∈ ([hMapped] : List (State)), s.aon.up = true ∧ s.heard r = true ∧ ∃ g ∈ ([family] : List (Nat)), g < 8 ∧ s.obj .phyGroupOff = 0 ∧ s.groupActive g = true) ∧
    (∃ r ∈ ([.port true] : List (Requester)), ∃ s ∈ ([hBase] : List (State)), s.aon.up = true ∧ s.heard r = true ∧ ∃ v ∈ ([0] : List (Nat)), v < 2) ∧
    (∃ s ∈ ([hReplay] : List (State)), s.aon.up = true ∧ s.linkUp = true ∧ s.inFlight ≠ 0 ∧ s.tx.spilled = [] ∧ s.obj .lnkTimeoutReplays + 1 < 2 ^ 32) ∧
    (∃ s ∈ ([hBase] : List (State)), s.aon.up = true ∧ s.inFlight = 0) ∧
    (∃ s ∈ ([sFull] : List (State)), s.aon.up = true ∧ s.sSide = true ∧ s.linkUp = true ∧ s.obj .lnkSpillEn = 1 ∧ s.fld .lnkSpillState 1 1 = 0 ∧ 64 ≤ s.onChip.length ∧ s.tx.spillKey ≠ none ∧ s.obj .stkPcState = 0 ∧ s.stk.pcs.length = 32 ∧ ∃ b ∈ (s.onChip.find? (fun b => !s.tx.writing.contains b)).toList, s.onChip.find? (fun b => !s.tx.writing.contains b) = some b) ∧
    (∃ s ∈ ([hFull] : List (State)), s.aon.up = true ∧ s.hSide = true ∧ s.linkUp = true ∧ s.obj .lnkSpillEn = 1 ∧ s.fld .lnkSpillState 1 1 = 0 ∧ 64 ≤ s.onChip.length ∧ s.fenced = false ∧ s.fa ≠ 0xFFF ∧ s.sp.up = true ∧ s.pk.own = [] ∧ s.pk.ownWait = [] ∧ ∃ k ∈ (s.tx.spillKey).toList, s.tx.spillKey = some k ∧ ∃ b ∈ (s.onChip.find? (fun b => !s.tx.writing.contains b)).toList, s.onChip.find? (fun b => !s.tx.writing.contains b) = some b) ∧
    (∃ s ∈ ([hBase] : List (State)), s.aon.up = true ∧ s.onChip.length < 64) ∧
    (∃ s ∈ ([sFull] : List (State)), s.aon.up = true ∧ ∃ d ∈ s.pk.done, ∃ b ∈ blockOfUse (d.use), d.use = .spillWrite b ∧ s.pk.done.find? (fun x => x.use == d.use && x.status == d.status) = some d ∧ s.tx.writing.contains b = true ∧ d.status = 0 ∧ s.obj .lnkSpillWrites + 1 < 2 ^ 32) ∧
    (∃ s ∈ ([sSpillFail] : List (State)), s.aon.up = true ∧ ∃ d ∈ s.pk.done, ∃ b ∈ blockOfUse (d.use), d.use = .spillWrite b ∧ s.pk.done.find? (fun x => x.use == d.use && x.status == d.status) = some d ∧ s.tx.writing.contains b = true ∧ d.status ≠ 0) ∧
    (∃ s ∈ ([sSpillRead] : List (State)), s.aon.up = true ∧ ∃ d ∈ s.pk.done, ∃ b ∈ blockOfUse (d.use), d.use = .spillRead b ∧ d.status = 0 ∧ s.pk.done.find? (fun x => x.use == d.use && x.status == d.status) = some d ∧ s.tx.reading.contains b = true ∧ s.sSide = true) := by
  refine ⟨?_, ?_, ?_, ?_, ?_, ?_, ?_, ?_, ?_, ?_, ?_, ?_, ?_, ?_⟩ <;> decide +kernel

set_option maxRecDepth 1000000 in
set_option synthInstance.maxSize 100000 in
set_option synthInstance.maxHeartbeats 2000000 in
/-- States and operands that meet the hypotheses of SidebandLanesAndFrames. -/
theorem witness_SidebandLanesAndFrames :
    (∃ s ∈ ([hBase] : List (State)), s.aon.up = true ∧ ∃ lane ∈ ([0] : List (Fin 2)), s.sb.rxUsable = 3 ∧ s.sb.farUsable ≠ 0) ∧
    (∃ s ∈ ([hSbOne] : List (State)), s.aon.up = true ∧ ∃ lane ∈ ([1] : List (Fin 2)), s.sb.rxUsable = 2 - lane.val) ∧
    (∃ s ∈ ([hBase] : List (State)), s.aon.up = true ∧ ∃ lane ∈ ([0] : List (Fin 2)), s.sb.rxUsable.testBit lane = true) ∧
    (∃ s ∈ ([hQuiet] : List (State)), s.aon.up = true ∧ s.sb.synced = true ∧ s.sb.farUsable ≠ 0) ∧
    (∃ s ∈ ([hQuiet] : List (State)), s.aon.up = true ∧ ∃ bits ∈ ([family] : List (Nat)), s.sb.synced = true ∧ s.sb.rxUsable ≠ 0 ∧ bits % 4 ≠ 0) ∧
    (∃ s ∈ ([hIdleLink] : List (State)), s.aon.up = true ∧ ∃ bits ∈ ([rateIndex] : List (Nat)), s.sb.synced = true ∧ s.sb.rxUsable ≠ 0 ∧ bits % 4 = 0 ∧ s.sb.farUsable ≠ 0 ∧ s.linkUp = false) ∧
    (∃ s ∈ ([hBase] : List (State)), s.aon.up = true ∧ ∃ type ∈ ([family] : List (Nat)), ∃ len ∈ ([rateIndex] : List (Nat)), s.obj .phySbErrs + 1 < 2 ^ 32 ∧ (frameKnown type = false ∨ 64 < len) ∧ ∃ crcOk ∈ ([true] : List (Bool)), True) ∧
    (∃ s ∈ ([hBase] : List (State)), s.aon.up = true ∧ ∃ type ∈ ([family] : List (Nat)), ∃ len ∈ ([family] : List (Nat)), frameKnown type = true ∧ len ≤ 64) ∧
    (∃ s ∈ ([hQuiet] : List (State)), s.aon.up = true ∧ ∃ bytes ∈ ([List.replicate 48 9] : List (List Byte)), bytes.length = 48 ∧ s.sbUp = true ∧ s.trn.running = false) ∧
    (∃ s ∈ ([hBase] : List (State)), s.aon.up = true ∧ s.trn.running = false) := by
  refine ⟨?_, ?_, ?_, ?_, ?_, ?_, ?_, ?_, ?_, ?_⟩ <;> decide +kernel

set_option maxRecDepth 1000000 in
set_option synthInstance.maxSize 100000 in
set_option synthInstance.maxHeartbeats 2000000 in
/-- States and operands that meet the hypotheses of Training. -/
theorem witness_Training :
    (∃ r ∈ ([.port true] : List (Requester)), ∃ s ∈ ([hNoRclk] : List (State)), s.aon.up = true ∧ s.heard r = true ∧ (s.obj .lnkState = 0 ∨ s.obj .lnkState = 4) ∧ s.mayTrain = true ∧ ∃ c ∈ (s.rateLeft (s.obj .phyRateMax)).toList, s.rateLeft (s.obj .phyRateMax) = some c) ∧
    (∃ r ∈ ([.port true] : List (Requester)), ∃ s ∈ ([hBase] : List (State)), s.aon.up = true ∧ s.heard r = true ∧ s.obj .lnkState ≠ 0 ∧ s.obj .lnkState ≠ 4) ∧
    (∃ r ∈ ([.port true] : List (Requester)), ∃ s ∈ ([hBase] : List (State)), s.aon.up = true ∧ s.heard r = true ∧ s.obj .lnkState = 2 ∧ s.scr.running = [] ∧ ∃ c ∈ (s.rateLeft (s.obj .phyRateMax)).toList, s.rateLeft (s.obj .phyRateMax) = some c) ∧
    (∃ r ∈ ([.port true] : List (Requester)), ∃ s ∈ ([hNoRclk] : List (State)), s.aon.up = true ∧ s.heard r = true ∧ s.obj .lnkState ≠ 2) ∧
    (∃ s ∈ ([hConnect] : List (State)), s.aon.up = true ∧ s.trn.running = true ∧ s.trn.bootWait = false ∧ s.trn.planned = false ∧ s.obj .phyTrnState < 8 ∧ s.trn.attempts < 3) ∧
    (∃ s ∈ ([hConnect4] : List (State)), s.aon.up = true ∧ s.trn.running = true ∧ s.trn.bootWait = false ∧ s.trn.planned = false ∧ s.obj .phyTrnState < 8 ∧ s.trn.attempts = 3) ∧
    (∃ s ∈ ([hIdleLink] : List (State)), s.aon.up = true ∧ ∃ f ∈ ([⟨0, true, 0, 1, [], [], 0, 0, []⟩] : List (TrainFrame)), s.sbUp = true ∧ s.linkCore = true ∧ f.state = 0 ∧ s.linkUp = false) ∧
    (∃ s ∈ ([hConnect] : List (State)), s.aon.up = true ∧ ∃ f ∈ ([⟨3, true, 0, 0, [1, 2, 3], [], 0, 0, []⟩] : List (TrainFrame)), s.sbUp = true ∧ s.linkCore = true ∧ f.state = 3 ∧ f.done = true ∧ s.trn.running = true ∧ s.trn.holding = false ∧ s.obj .phyTrnState = 3 ∧ s.trn.done = false ∧ (∀ x ∈ f.connect, x < 256)) ∧
    (∃ s ∈ ([hRepeat] : List (State)), s.aon.up = true ∧ ∃ f ∈ (s.trn.lastFrame).toList, s.trn.lastFrame = some f ∧ s.sbUp = true ∧ s.trn.farState ≤ f.state ∧ (f.state = 9 → s.trn.farState ≠ 9)) ∧
    (∃ s ∈ ([hBase] : List (State)), s.aon.up = true ∧ s.trn.lastFrame = none) ∧
    (∃ s ∈ ([hConnect] : List (State)), s.aon.up = true ∧ s.trn.running = true ∧ s.trn.done = false ∧ s.trn.farDone < s.obj .phyTrnState ∧ ∃ table ∈ ([[]] : List (List Nat)), s.obj .phyTrnState = 3 ∧ (∀ x ∈ table, x < 256)) ∧
    (∃ s ∈ ([hEqualise] : List (State)), s.aon.up = true ∧ s.trn.running = true ∧ s.trn.done = false ∧ s.trn.farDone < s.obj .phyTrnState ∧ ∃ codes ∈ ([[]] : List (List Nat)), s.obj .phyTrnState = 4) ∧
    (∃ s ∈ ([hLaneCheck] : List (State)), s.aon.up = true ∧ s.trn.running = true ∧ s.trn.done = false ∧ s.trn.farDone < s.obj .phyTrnState ∧ ∃ errors ∈ ([[]] : List (List Nat)), ∃ noLock ∈ ([[]] : List (List Nat)), s.obj .phyTrnState = 5) := by
  refine ⟨?_, ?_, ?_, ?_, ?_, ?_, ?_, ?_, ?_, ?_, ?_, ?_, ?_⟩ <;> decide +kernel

set_option maxRecDepth 1000000 in
set_option synthInstance.maxSize 100000 in
set_option synthInstance.maxHeartbeats 2000000 in
/-- States and operands that meet the hypotheses of LinkComesUp. -/
theorem witness_LinkComesUp :
    (∃ s ∈ ([hFlitSync] : List (State)), s.aon.up = true ∧ s.trn.running = true ∧ s.obj .phyTrnState = 7 ∧ s.trn.planned = false) ∧
    (∃ s ∈ ([hLatDone] : List (State)), s.aon.up = true ∧ s.trn.running = true ∧ s.inLatency = true ∧ s.lat.settled = true ∧ s.linkHeld = false ∧ s.trn.rate < 256 ∧ s.gateCount 1 = 0 ∧ s.gateCount 2 = 0 ∧ (s.trn.activeRate = none ∨ s.trn.activeRate = some s.trn.rate) ∧ s.locked = true) ∧
    (∃ s ∈ ([hLatOpen] : List (State)), s.aon.up = true ∧ s.trn.running = true ∧ s.inLatency = true ∧ s.lat.settled = true ∧ s.linkHeld = false ∧ s.trn.rate < 256 ∧ s.gateCount 1 = 0 ∧ s.gateCount 2 = 0 ∧ (s.trn.activeRate = none ∨ s.trn.activeRate = some s.trn.rate) ∧ s.locked = false ∧ s.cls.register = [] ∧ s.tx.queue = []) ∧
    (∃ s ∈ ([hBase] : List (State)), s.aon.up = true ∧ s.linkCore = true ∧ s.linkUp = true) := by
  refine ⟨?_, ?_, ?_, ?_⟩ <;> decide +kernel

set_option maxRecDepth 1000000 in
set_option synthInstance.maxSize 100000 in
set_option synthInstance.maxHeartbeats 2000000 in
/-- States and operands that meet the hypotheses of LaneFaults. -/
theorem witness_LaneFaults :
    (∃ s ∈ ([hFec] : List (State)), ∃ p ∈ ([7] : List (Fin 72)), s.aon.up = true ∧ s.cal.recal = none ∧ s.cal.scan = none ∧ s.cal.monitor = none ∧ s.scr.running = [] ∧ s.tooNarrow (s.lanes72 .phyRxFailed ||| 2 ^ p.val) = false ∧ s.rxFailed p = false ∧ s.linkUp = true ∧ s.rxActive p = true ∧ s.obj .phyLaneFailErrs ≤ s.fecCount p) ∧
    (∃ s ∈ ([hBase] : List (State)), ∃ p ∈ ([0] : List (Fin 72)), s.aon.up = true ∧ s.cal.recal = none ∧ s.cal.scan = none ∧ s.cal.monitor = none ∧ s.scr.running = [] ∧ s.tooNarrow (s.lanes72 .phyRxFailed ||| 2 ^ p.val) = false ∧ s.rxFailed p = false ∧ ∃ r ∈ ([.port true] : List (Requester)), s.heard r = true) ∧
    (∃ s ∈ ([hBase] : List (State)), ∃ p ∈ ([0] : List (Fin 72)), s.aon.up = true ∧ s.cal.recal = none ∧ s.cal.scan = none ∧ s.cal.monitor = none ∧ s.scr.running = [] ∧ s.tooNarrow (s.lanes72 .phyRxFailed ||| 2 ^ p.val) = false ∧ s.rxFailed p = false ∧ s.rxActive p = false) ∧
    (∃ s ∈ ([hBase] : List (State)), ∃ p ∈ ([0] : List (Fin 72)), s.aon.up = true ∧ s.cal.recal = none ∧ s.cal.scan = none ∧ s.cal.monitor = none ∧ s.scr.running = [] ∧ s.tooNarrow (s.lanes72 .phyRxFailed ||| 2 ^ p.val) = false ∧ s.rxFailed p = false ∧ ∃ r ∈ ([.port true] : List (Requester)), ∃ lane ∈ ([rateIndex] : List (Nat)), s.heard r = true ∧ 71 < lane) ∧
    (∃ s ∈ ([hIdleLink] : List (State)), s.aon.up = true ∧ s.sbUp = true ∧ ∃ lanes ∈ ([family] : List (Nat)), ∃ reason ∈ ([family] : List (Nat)), lanes < 2 ^ 72 ∧ reason < 256 ∧ s.linkUp = false) ∧
    (∃ s ∈ ([hQuiet] : List (State)), s.aon.up = true ∧ s.sbUp = true ∧ ∃ lanes ∈ ([family] : List (Nat)), ∃ reason ∈ ([family] : List (Nat)), lanes < 2 ^ 72 ∧ reason < 256 ∧ s.linkUp = true ∧ s.lanes.txPlan = none ∧ s.obj .phyRepairEn = 1 ∧ s.tooNarrow (s.lanes72 .phyTxFailed ||| lanes) = false) := by
  refine ⟨?_, ?_, ?_, ?_, ?_, ?_⟩ <;> decide +kernel

set_option maxRecDepth 1000000 in
set_option synthInstance.maxSize 100000 in
set_option synthInstance.maxHeartbeats 2000000 in
/-- States and operands that meet the hypotheses of RepairMapUsesGoodLanes. -/
theorem witness_RepairMapUsesGoodLanes :
    (∃ limit ∈ ([64] : List (Nat)), ∃ width ∈ ([64] : List (Nat)), ∃ failed ∈ ([8] : List (Nat)), ∃ map ∈ ([List.range 64] : List (List Nat)), width ∈ [16, 32, 48, 64] ∧ limit ∈ [16, 32, 48, 64] ∧ map.length = 64 ∧ ((map.take width).all fun t => t < 72) = true ∧ (map.take width).Nodup ∧ width ≤ limit ∧ (72 - popcount 72 failed < width + 16 ∨ width = limit) ∧ ∃ w ∈ [(newMap limit width failed map).1], ∃ m ∈ [(newMap limit width failed map).2], newMap limit width failed map = (w, m)) := by
  decide +kernel

set_option maxHeartbeats 2000000 in
set_option maxRecDepth 1000000 in
set_option synthInstance.maxSize 100000 in
set_option synthInstance.maxHeartbeats 2000000 in
/-- States and operands that meet the hypotheses of Splices. -/
theorem witness_Splices :
    (∃ s ∈ ([hPrepare] : List (State)), s.aon.up = true ∧ s.splices = true ∧ s.lanes.txPlan = none ∧ s.lanes.prepareDue = true ∧ s.lanes.retryDue = false) ∧
    (∃ s ∈ ([hRetry] : List (State)), s.aon.up = true ∧ s.splices = true ∧ s.lanes.txPlan = none ∧ s.lanes.retryDue = true) ∧
    (∃ s ∈ ([hBase] : List (State)), s.aon.up = true ∧ s.lanes.prepareDue = false) ∧
    (∃ s ∈ ([hBase] : List (State)), s.aon.up = true ∧ s.lanes.retryDue = false) ∧
    (∃ s ∈ ([hPlanReady] : List (State)), s.aon.up = true ∧ ∃ p ∈ (s.lanes.txPlan).toList, s.lanes.txPlan = some p ∧ s.linkSends = true ∧ s.txSlots ≠ [] ∧ s.lanes.readySeen = some p.gen ∧ (∀ x ∈ p.map, x < 256) ∧ p.width < 256 ∧ s.obj .phySpliceCount + 1 < 2 ^ 32) ∧
    (∃ s ∈ ([hPlan] : List (State)), s.aon.up = true ∧ ∃ p ∈ (s.lanes.txPlan).toList, s.lanes.txPlan = some p ∧ s.lanes.readySeen ≠ some p.gen) ∧
    (∃ s ∈ ([hPlan] : List (State)), s.aon.up = true ∧ ∃ p ∈ (s.lanes.txPlan).toList, s.lanes.txPlan = some p ∧ s.splices = true ∧ s.lanes.readySeen ≠ some p.gen ∧ s.lanes.planFails < 2 ∧ s.obj .phySpliceFails + 1 < 2 ^ 32) ∧
    (∃ s ∈ ([hMapped] : List (State)), s.aon.up = true ∧ ∃ f ∈ ([fPrepare] : List (RxFlit)), ∃ bs ∈ [f.bytes], QuietFlit s f .prepare bs ∧ s.prepareOk (flitPayload bs) = true ∧ s.cal.monitor = none ∧ s.scr.running = [] ∧ ({ s with lanes := { s.lanes with rxPlan := some ⟨spliceGen (flitPayload bs), 16 * (spliceWidth (flitPayload bs) + 1), spliceMap (flitPayload bs), false⟩ } }).pendingAdds = []) ∧
    (∃ s ∈ ([hMapped] : List (State)), s.aon.up = true ∧ ∃ f ∈ ([fPrepareBad] : List (RxFlit)), ∃ bs ∈ [f.bytes], QuietFlit s f .prepare bs ∧ s.prepareOk (flitPayload bs) = false ∧ s.obj .phySpliceFails + 1 < 2 ^ 32) ∧
    (∃ s ∈ ([hPending] : List (State)), s.aon.up = true ∧ ∃ f ∈ ([fCommit] : List (RxFlit)), ∃ bs ∈ [f.bytes], QuietFlit s f .commit bs ∧ ∃ p ∈ (s.lanes.rxPlan).toList, s.lanes.rxPlan = some p ∧ p.ready = true ∧ p.gen = spliceGen (flitPayload bs) ∧ p.width < 256) ∧
    (∃ s ∈ ([hMapped] : List (State)), s.aon.up = true ∧ ∃ f ∈ ([fCancel] : List (RxFlit)), ∃ bs ∈ [f.bytes], QuietFlit s f .cancel bs) ∧
    (∃ s ∈ ([hBase] : List (State)), s.aon.up = true ∧ ∃ f ∈ ([fPrepare] : List (RxFlit)), ∃ bs ∈ ([fillDesc] : List (List Byte)), flitOk f = true ∧ s.look f = none) ∧
    (∃ s ∈ ([hPending] : List (State)), s.aon.up = true ∧ ∃ p ∈ (s.lanes.rxPlan).toList, s.lanes.rxPlan = some p ∧ s.linkUp = true) := by
  unfold QuietFlit
  refine ⟨?_, ?_, ?_, ?_, ?_, ?_, ?_, ?_, ?_, ?_, ?_, ?_, ?_⟩ <;> decide +kernel

set_option maxHeartbeats 2000000 in
set_option maxRecDepth 1000000 in
set_option synthInstance.maxSize 100000 in
set_option synthInstance.maxHeartbeats 2000000 in
/-- States and operands that meet the hypotheses of LatencyLock. -/
theorem witness_LatencyLock :
    (∃ s ∈ ([hAnswer] : List (State)), s.aon.up = true ∧ s.inLatency = true ∧ s.measures = false ∧ s.txSlots ≠ [] ∧ ∃ f ∈ ([fMarker 1 0 0] : List (RxFlit)), ∃ bs ∈ [f.bytes], QuietFlit s f .measure bs) ∧
    (∃ s ∈ ([hAnswer] : List (State)), s.aon.up = true ∧ s.inLatency = true ∧ s.measures = false ∧ s.txSlots ≠ [] ∧ ∃ f ∈ ([fMarker 3 0 0] : List (RxFlit)), ∃ bs ∈ [f.bytes], QuietFlit s f .set bs) ∧
    (∃ s ∈ ([hAnswer] : List (State)), s.aon.up = true ∧ s.inLatency = true ∧ s.measures = false ∧ s.txSlots ≠ [] ∧ ∃ f ∈ ([fMarker 4 0 0] : List (RxFlit)), ∃ bs ∈ [f.bytes], QuietFlit s f .verify bs ∧ lccDiff s.lat.lcc (Marker.parse (flitPayload bs)).lcc = (Marker.parse (flitPayload bs)).target) ∧
    (∃ s ∈ ([hAnswer] : List (State)), s.aon.up = true ∧ s.inLatency = true ∧ s.measures = false ∧ s.txSlots ≠ [] ∧ ∃ f ∈ ([fMarker 4 0 9] : List (RxFlit)), ∃ bs ∈ [f.bytes], QuietFlit s f .verify bs ∧ lccDiff s.lat.lcc (Marker.parse (flitPayload bs)).lcc ≠ (Marker.parse (flitPayload bs)).target) ∧
    (∃ s ∈ ([hMeasure] : List (State)), s.aon.up = true ∧ s.measures = true ∧ s.txSlots ≠ [] ∧ s.trn.target < 256 ∧ s.lat.lcc < 2 ^ 48 ∧ ∃ f ∈ ([fMarker 2 0 0] : List (RxFlit)), ∃ bs ∈ [f.bytes], s.inLatency = true ∧ s.lat.waiting = true ∧ QuietFlit s f .ret bs ∧ (Marker.parse (flitPayload bs)).seq = s.lat.seq ∧ ∃ rt ∈ [lccDiff s.lat.lcc s.lat.sentAt - 4], rt = lccDiff s.lat.lcc s.lat.sentAt - 4 ∧ rt < 2 ^ 16 ∧ s.lat.rts = []) ∧
    (∃ s ∈ ([hMeasure2] : List (State)), s.aon.up = true ∧ s.measures = true ∧ s.txSlots ≠ [] ∧ s.trn.target < 256 ∧ s.lat.lcc < 2 ^ 48 ∧ ∃ f ∈ ([fMarker 2 0 0] : List (RxFlit)), ∃ bs ∈ [f.bytes], s.inLatency = true ∧ s.lat.waiting = true ∧ QuietFlit s f .ret bs ∧ (Marker.parse (flitPayload bs)).seq = s.lat.seq ∧ ∃ rt ∈ [lccDiff s.lat.lcc s.lat.sentAt - 4], rt = lccDiff s.lat.lcc s.lat.sentAt - 4 ∧ rt < 2 ^ 16 ∧ s.lat.rts = [rt] ∧ ceilDiv rt 2 ≤ s.trn.target) ∧
    (∃ s ∈ ([hMeasureBad] : List (State)), s.aon.up = true ∧ s.measures = true ∧ s.txSlots ≠ [] ∧ s.trn.target < 256 ∧ s.lat.lcc < 2 ^ 48 ∧ ∃ f ∈ ([fMarker 2 0 0] : List (RxFlit)), ∃ bs ∈ [f.bytes], s.inLatency = true ∧ s.lat.waiting = true ∧ QuietFlit s f .ret bs ∧ (Marker.parse (flitPayload bs)).seq = s.lat.seq ∧ ∃ rt ∈ [lccDiff s.lat.lcc s.lat.sentAt - 4], rt = lccDiff s.lat.lcc s.lat.sentAt - 4 ∧ rt < 2 ^ 16 ∧ s.lat.rts = [rt + 1] ∧ s.lat.attempt < 3) ∧
    (∃ s ∈ ([hVerifying] : List (State)), s.aon.up = true ∧ s.measures = true ∧ s.txSlots ≠ [] ∧ s.trn.target < 256 ∧ s.lat.lcc < 2 ^ 48 ∧ ∃ f ∈ ([fMarker 5 1 0] : List (RxFlit)), ∃ bs ∈ [f.bytes], s.inLatency = true ∧ s.lat.waiting = true ∧ QuietFlit s f .verifyReturn bs ∧ s.lat.rts.length = 2 ∧ lccDiff s.lat.lcc (Marker.parse (flitPayload bs)).lcc = s.trn.target ∧ (Marker.parse (flitPayload bs)).seq.testBit 0 = true) ∧
    (∃ s ∈ ([hMeasure1] : List (State)), s.aon.up = true ∧ s.measures = true ∧ s.txSlots ≠ [] ∧ s.trn.target < 256 ∧ s.lat.lcc < 2 ^ 48 ∧ ∃ a ∈ (s.lat.rts).take 1, s.lat.rts = [a] ∧ s.inLatency = true ∧ s.lat.waiting = false ∧ s.lat.settled = false) ∧
    (∃ s ∈ ([hLocked] : List (State)), s.aon.up = true ∧ s.measures = true ∧ s.txSlots ≠ [] ∧ s.trn.target < 256 ∧ s.lat.lcc < 2 ^ 48 ∧ s.linkSends = true ∧ s.linkCarries = true ∧ s.locked = true ∧ s.obj .phyLatCheckInt ≠ 0 ∧ s.lat.waiting = false) ∧
    (∃ s ∈ ([hMeasure] : List (State)), s.aon.up = true ∧ s.measures = true ∧ s.txSlots ≠ [] ∧ s.trn.target < 256 ∧ s.lat.lcc < 2 ^ 48 ∧ s.flitsRun = true ∧ s.inLatency = true ∧ s.lat.waiting = true ∧ s.lat.attempt < 3) ∧
    (∃ s ∈ ([hMeasure3] : List (State)), s.aon.up = true ∧ s.measures = true ∧ s.txSlots ≠ [] ∧ s.trn.target < 256 ∧ s.lat.lcc < 2 ^ 48 ∧ s.flitsRun = true ∧ s.inLatency = true ∧ s.lat.waiting = true ∧ s.lat.attempt = 3) := by
  unfold QuietFlit
  refine ⟨?_, ?_, ?_, ?_, ?_, ?_, ?_, ?_, ?_, ?_, ?_, ?_⟩ <;> decide +kernel

set_option maxHeartbeats 2000000 in
set_option maxRecDepth 1000000 in
set_option synthInstance.maxSize 100000 in
set_option synthInstance.maxHeartbeats 2000000 in
/-- States and operands that meet the hypotheses of ReceivedFlits. -/
theorem witness_ReceivedFlits :
    (∃ s ∈ ([hMapped] : List (State)), s.aon.up = true ∧ ∃ f ∈ ([fData] : List (RxFlit)), ∃ bs ∈ [f.bytes], QuietFlit s f .data bs ∧ bit (flitHead bs) 7 = true ∧ bit (flitHead bs) 6 = true ∧ 32 * (Hdr.ofBytes (flitPayload bs)).len ≤ 212 ∧ isRequest (Hdr.ofBytes (flitPayload bs)).type = true ∧ s.regionFree (flitVc bs) ≠ 0) ∧
    (∃ s ∈ ([hMapped] : List (State)), s.aon.up = true ∧ ∃ f ∈ ([fIdle] : List (RxFlit)), ∃ bs ∈ [f.bytes], QuietFlit s f .idle bs) ∧
    (∃ s ∈ ([hMapped] : List (State)), s.aon.up = true ∧ ∃ f ∈ ([fProto] : List (RxFlit)), ∃ bs ∈ [f.bytes], QuietFlit s f .proto bs ∧ s.obj .lnkProtoErrs + 1 < 2 ^ 32) ∧
    (∃ s ∈ ([hMapped] : List (State)), s.aon.up = true ∧ ∃ f ∈ ([fBad] : List (RxFlit)), ∃ bs ∈ ([fillDesc] : List (List Byte)), flitOk f = true ∧ s.flitsRun = true ∧ s.eng.takeover = false ∧ s.trn.holding = false ∧ s.rx.discard = false ∧ s.rx.window ≠ [] ∧ ∃ l ∈ (s.look f).toList, s.look f = some l ∧ l.pass = false ∧ l.viaPending = false ∧ s.rx.window.sum + 1 < s.obj .lnkDown ∧ s.obj .lnkCrcErrs + 1 < 2 ^ 32 ∧ s.obj .lnkFecUncorr + l.out.bad < 2 ^ 32 ∧ s.obj .lnkFecCorr + l.out.fixed.length < 2 ^ 32) ∧
    (∃ s ∈ ([hBase] : List (State)), s.aon.up = true ∧ ∃ f ∈ ([fPrepare] : List (RxFlit)), ∃ bs ∈ ([fillDesc] : List (List Byte)), flitOk f = true ∧ s.look f = none ∧ ∃ c ∈ [Instr.dataFlit f, .idleFlit f, .flitFail f, .flitProtoErr f, .measureMarker f, .verifyMarker f], True) ∧
    (∃ s ∈ ([hTakeover] : List (State)), s.aon.up = true ∧ ∃ f ∈ ([fData] : List (RxFlit)), ∃ bs ∈ ([fillDesc] : List (List Byte)), flitOk f = true ∧ s.flitsRun = true ∧ s.eng.takeover = true ∧ s.classFlit f = some (some .data) ∧ s.rx.log.length < 128) ∧
    (∃ s ∈ ([hDiscard] : List (State)), s.aon.up = true ∧ s.flitsRun = true ∧ s.rx.discard = true) ∧
    (∃ s ∈ ([hBase] : List (State)), s.aon.up = true ∧ s.rx.discard = false) := by
  unfold QuietFlit
  refine ⟨?_, ?_, ?_, ?_, ?_, ?_, ?_, ?_⟩ <;> decide +kernel

set_option maxRecDepth 1000000 in
set_option synthInstance.maxSize 100000 in
set_option synthInstance.maxHeartbeats 2000000 in
/-- States and operands that meet the hypotheses of LinkPacketsAndReplays. -/
theorem witness_LinkPacketsAndReplays :
    (∃ s ∈ ([hQueue1] : List (State)), s.aon.up = true ∧ s.linkSends = true ∧ s.txSlots ≠ [] ∧ s.linkCarries = true ∧ ∃ q ∈ s.tx.queue, (s.tx.queue.find? (fun x => x.pkt.hdr.tc == 1) = some q ∨ s.tx.queue = [q]) ∧ s.tx.replay = none ∧ s.trn.holding = false ∧ s.linkEligible q.pkt.hdr.tc = true ∧ s.conforms q.pkt.hdr.tc q.pkt.flits = true ∧ q.pkt.hdr.tc < 8) ∧
    (∃ s ∈ ([hMapped] : List (State)), s.aon.up = true ∧ s.linkSends = true ∧ s.txSlots ≠ [] ∧ s.linkCarries = true ∧ s.tx.queue = [] ∧ s.tx.replay = none) ∧
    (∃ s ∈ ([hReplay] : List (State)), s.aon.up = true ∧ s.linkSends = true ∧ s.txSlots ≠ [] ∧ s.linkCarries = true ∧ ∃ v ∈ (s.tx.replay).toList, s.tx.replay = some v ∧ v < 65536 ∧ s.txN = (v + 1) % 65536 ∧ ∃ r ∈ (s.stored v).toList, s.stored v = some r ∧ s.obj .lnkReplayFlits + 1 < 2 ^ 32) := by
  refine ⟨?_, ?_, ?_⟩ <;> decide +kernel

set_option maxRecDepth 1000000 in
set_option synthInstance.maxSize 100000 in
set_option synthInstance.maxHeartbeats 2000000 in
/-- States and operands that meet the hypotheses of LinkDownAndDiagnosis. -/
theorem witness_LinkDownAndDiagnosis :
    (∃ s ∈ ([hBase] : List (State)), s.aon.up = true ∧ s.linkUp = true ∧ s.tx.queue = [] ∧ s.tx.unacked = [] ∧ s.crossings = [] ∧ s.stk.jobs = [] ∧ s.arr.descs = [] ∧ s.arr.submits = [] ∧ s.arr.redIn = [] ∧ s.arr.work = [] ∧ s.arr.redAgain = [] ∧ s.rx.queue = [] ∧ s.pk.msgs = [] ∧ s.pk.own = [] ∧ s.pk.ownWait = [] ∧ s.pk.done = [] ∧ s.cls.register = [] ∧ s.scr.running = [] ∧ s.obj .lnkDownCount + 1 < 2 ^ 32 ∧ s.obj .mgtFaultCount + 1 < 2 ^ 32 ∧ s.heard .sequencer = true ∧ s.heard (.port false) = true ∧ ∃ x ∈ [(Instr.idleLimitTimeout, 2), (.ackStallTimeout, 3), (.lnkForceDown .sequencer, 10), (.lnkForceDown (.port false), 10)], (x.2 = 3 → s.inFlight ≠ 0)) ∧
    (∃ s ∈ ([hNoRclk] : List (State)), s.aon.up = true ∧ s.linkUp = false ∧ ∃ r ∈ ([.port true] : List (Requester)), s.heard r = true) ∧
    (∃ s ∈ ([hWarn] : List (State)), s.aon.up = true ∧ s.linkUp = true ∧ s.rx.diag = none ∧ s.obj .lnkWarn ≤ s.rx.window.sum) ∧
    (∃ s ∈ ([hBase] : List (State)), s.aon.up = true ∧ s.rx.window.sum < s.obj .lnkWarn) ∧
    (∃ s ∈ ([hDiagRuns] : List (State)), s.aon.up = true ∧ ∃ d ∈ (s.rx.diag).toList, s.rx.diag = some d ∧ s.rx.window.sum < s.obj .lnkWarn ∧ d.slotsLeft ≠ 0) ∧
    (∃ s ∈ ([hDiagSpare] : List (State)), s.aon.up = true ∧ ∃ d ∈ (s.rx.diag).toList, s.rx.diag = some d ∧ s.rx.window.sum < s.obj .lnkWarn ∧ d.slotsLeft = 0 ∧ ∃ p ∈ (namedLane d.scores).toList, namedLane d.scores = some p ∧ s.rxActive p = false) ∧
    (∃ s ∈ ([hDiagLane] : List (State)), s.aon.up = true ∧ ∃ d ∈ (s.rx.diag).toList, s.rx.diag = some d ∧ s.rx.window.sum < s.obj .lnkWarn ∧ d.slotsLeft = 0 ∧ ∃ p ∈ (namedLane d.scores).toList, namedLane d.scores = some p ∧ s.linkUp = true ∧ s.rxActive p = true ∧ s.rxFailed p = false ∧ s.cal.recal = none ∧ s.cal.scan = none ∧ s.cal.monitor = none ∧ s.scr.running = [] ∧ s.tooNarrow (s.lanes72 .phyRxFailed ||| 2 ^ p) = false) ∧
    (∃ s ∈ ([hDiagNone] : List (State)), s.aon.up = true ∧ ∃ d ∈ (s.rx.diag).toList, s.rx.diag = some d ∧ s.rx.window.sum < s.obj .lnkWarn ∧ d.slotsLeft = 0 ∧ namedLane d.scores = none) := by
  refine ⟨?_, ?_, ?_, ?_, ?_, ?_, ?_, ?_⟩ <;> decide +kernel

set_option maxRecDepth 1000000 in
set_option synthInstance.maxSize 100000 in
set_option synthInstance.maxHeartbeats 2000000 in
/-- States and operands that meet the hypotheses of PacketsAreTakenOn. -/
theorem witness_PacketsAreTakenOn :
    (∃ s ∈ ([hBase] : List (State)), ∃ vc ∈ ([0] : List (Fin 8)), s.aon.up = true ∧ s.linkCore = true ∧ ∃ src ∈ ([.link] : List (Ingress)), (∀ p ∈ s.ingressOf src, p.vc ≠ vc.val)) ∧
    (∃ s ∈ ([hTransit] : List (State)), ∃ vc ∈ ([3] : List (Fin 8)), s.aon.up = true ∧ s.linkCore = true ∧ ∃ p ∈ ((s.rx.queue.find? fun x => x.vc == vc.val)).toList, (s.rx.queue.find? fun x => x.vc == vc.val) = some p ∧ s.fa ≠ 0xFFF ∧ s.fenced = false ∧ s.pk.routeFenced = false ∧ s.waits .link p = false ∧ malformed p.pkt p.vc (s.hSide && p.pkt.hdr.dst = s.fa) = false ∧ ∃ port ∈ hopPort (s.route p.pkt.hdr), port < 64 ∧ s.route p.pkt.hdr = .out .relay port ∧ p.pkt.hdr.hops < 15) ∧
    (∃ s ∈ ([hTransit] : List (State)), ∃ vc ∈ ([4] : List (Fin 8)), s.aon.up = true ∧ s.linkCore = true ∧ ∃ p ∈ ((s.rx.queue.find? fun x => x.vc == vc.val)).toList, (s.rx.queue.find? fun x => x.vc == vc.val) = some p ∧ s.fa ≠ 0xFFF ∧ s.fenced = false ∧ s.pk.routeFenced = false ∧ s.waits .link p = false ∧ malformed p.pkt p.vc (s.hSide && p.pkt.hdr.dst = s.fa) = false ∧ s.hSide = true ∧ s.sp.up = true ∧ isRequest p.pkt.hdr.type = false ∧ p.pkt.hdr.dst = s.fa ∧ p.pkt.hdr.ep ≠ s.obj .pktOwnEp ∧ p.pkt.hdr.msgCount = 1 ∧ p.pkt.hdr.synth = false ∧ p.pkt.hdr.type ≠ tErrCpl ∧ s.pk.closed = []) ∧
    (∃ s ∈ ([sRead] : List (State)), ∃ vc ∈ ([3] : List (Fin 8)), s.aon.up = true ∧ s.linkCore = true ∧ ∃ p ∈ ((s.rx.queue.find? fun x => x.vc == vc.val)).toList, (s.rx.queue.find? fun x => x.vc == vc.val) = some p ∧ s.fa ≠ 0xFFF ∧ s.fenced = false ∧ s.pk.routeFenced = false ∧ s.waits .link p = false ∧ malformed p.pkt p.vc (s.hSide && p.pkt.hdr.dst = s.fa) = false ∧ s.sSide = true ∧ p.pkt.hdr.dst = s.fa ∧ p.pkt.hdr.type = tRdReq ∧ p.pkt.hdr.msgCount = 1 ∧ s.pk.closed = [] ∧ s.obj .stkPcState = 0 ∧ s.stk.pcs.length = 32 ∧ s.accessStatus p.pkt.hdr p.pkt.hdr.aux = stOk) ∧
    (∃ s ∈ ([hTransit] : List (State)), ∃ vc ∈ ([5] : List (Fin 8)), s.aon.up = true ∧ s.linkCore = true ∧ ∃ p ∈ ((s.rx.queue.find? fun x => x.vc == vc.val)).toList, (s.rx.queue.find? fun x => x.vc == vc.val) = some p ∧ s.fa ≠ 0xFFF ∧ s.fenced = false ∧ s.pk.routeFenced = false ∧ s.waits .link p = false ∧ malformed p.pkt p.vc (s.hSide && p.pkt.hdr.dst = s.fa) = true ∧ isRequest p.pkt.hdr.type = false ∧ s.obj .pktMalformed + 1 < 2 ^ 32) ∧
    (∃ s ∈ ([hNoFa] : List (State)), ∃ vc ∈ ([3] : List (Fin 8)), s.aon.up = true ∧ s.linkCore = true ∧ ∃ p ∈ ((s.rx.queue.find? fun x => x.vc == vc.val)).toList, (s.rx.queue.find? fun x => x.vc == vc.val) = some p ∧ s.fa = 0xFFF ∧ s.obj .pktNoroute + 1 < 2 ^ 32) ∧
    (∃ s ∈ ([hToLink] : List (State)), ∃ vc ∈ ([3] : List (Fin 8)), s.aon.up = true ∧ s.linkCore = true ∧ ∃ p ∈ ((s.rl.ingress.find? fun x => x.vc == vc.val)).toList, (s.rl.ingress.find? fun x => x.vc == vc.val) = some p ∧ s.fa ≠ 0xFFF ∧ s.fenced = false ∧ s.pk.routeFenced = false ∧ s.waits .relay p = false ∧ malformed p.pkt p.vc (s.hSide && p.pkt.hdr.dst = s.fa) = false ∧ s.route p.pkt.hdr = .out .link 0 ∧ p.pkt.hdr.hops < 15 ∧ isDl p.pkt.hdr.tc = false) ∧
    (∃ s ∈ ([hNoFa] : List (State)), ∃ vc ∈ ([0] : List (Fin 8)), s.aon.up = true ∧ s.linkCore = true ∧ s.fa = 0xFFF) := by
  refine ⟨?_, ?_, ?_, ?_, ?_, ?_, ?_, ?_⟩ <;> decide +kernel

set_option maxRecDepth 1000000 in
set_option synthInstance.maxSize 100000 in
set_option synthInstance.maxHeartbeats 2000000 in
/-- States and operands that meet the hypotheses of PacketTimeouts. -/
theorem witness_PacketTimeouts :
    (∃ s ∈ ([hOwn] : List (State)), s.aon.up = true ∧ s.obj .pktTimeouts + 1 < 2 ^ 32 ∧ ∃ tag ∈ ([5] : List (Fin 4096)), s.pk.ownWait = [] ∧ ∃ r ∈ ((s.pk.own.find? fun r => r.tag == tag.val)).toList, (s.pk.own.find? fun r => r.tag == tag.val) = some r ∧ r.use ≠ .discard ∧ r.use ≠ .pstateWrite ∧ r.use.isAccess = false) ∧
    (∃ s ∈ ([hBase] : List (State)), s.aon.up = true ∧ s.obj .pktTimeouts + 1 < 2 ^ 32 ∧ ∃ tag ∈ ([0] : List (Fin 4096)), s.pk.ownWait = [] ∧ (s.pk.own.find? fun r => r.tag == tag.val) = none) ∧
    (∃ s ∈ ([hHold] : List (State)), s.aon.up = true ∧ s.obj .pktTimeouts + 1 < 2 ^ 32 ∧ ∃ n ∈ ([0] : List (Nat)), ∃ m ∈ (s.pk.msgs[n]?).toList, s.pk.msgs[n]? = some m ∧ m.complete = true) ∧
    (∃ s ∈ ([hMsg] : List (State)), s.aon.up = true ∧ s.obj .pktTimeouts + 1 < 2 ^ 32 ∧ ∃ n ∈ ([0] : List (Nat)), ∃ m ∈ (s.pk.msgs[n]?).toList, s.pk.msgs[n]? = some m ∧ m.complete = false ∧ 1 < m.hdr.msgCount ∧ s.pk.hold = List.replicate 32 none ∧ s.pk.closed = [] ∧ isRequest m.hdr.type = false ∧ m.hdr.type ≠ tOpCpl ∧ s.sp.up = true) ∧
    (∃ s ∈ ([sMsg] : List (State)), s.aon.up = true ∧ s.obj .pktTimeouts + 1 < 2 ^ 32 ∧ ∃ n ∈ ([0] : List (Nat)), ∃ m ∈ (s.pk.msgs[n]?).toList, s.pk.msgs[n]? = some m ∧ m.complete = false ∧ 1 < m.hdr.msgCount ∧ s.pk.hold = List.replicate 32 none ∧ s.pk.closed = [] ∧ isRequest m.hdr.type = true ∧ s.fenced = false ∧ s.fa ≠ 0xFFF ∧ ∃ port ∈ hopPort (s.route (synthetic m.hdr 0 stTimeout false s.epochNow).hdr), port < 64 ∧ s.route (synthetic m.hdr 0 stTimeout false s.epochNow).hdr = .out .relay port) := by
  refine ⟨?_, ?_, ?_, ?_, ?_⟩ <;> decide +kernel

set_option maxHeartbeats 2000000 in
set_option maxRecDepth 1000000 in
set_option synthInstance.maxSize 100000 in
set_option synthInstance.maxHeartbeats 2000000 in
/-- States and operands that meet the hypotheses of HopLimit. -/
theorem witness_HopLimit :
    (∃ s ∈ ([hHopReq] : List (State)), ∃ src ∈ ([.link] : List (Ingress)), ∃ vc ∈ ([4] : List (Fin 8)), s.aon.up = true ∧ s.linkCore = true ∧ src ≠ .stream ∧ s.fa ≠ 0xFFF ∧ s.fenced = false ∧ s.pk.routeFenced = false ∧ ∃ p ∈ (((s.ingressOf src).find? fun x => x.vc == vc.val)).toList, ((s.ingressOf src).find? fun x => x.vc == vc.val) = some p ∧ s.waits src p = false ∧ malformed p.pkt p.vc (s.hSide && p.pkt.hdr.dst = s.fa) = false ∧ p.pkt.hdr.hops = 15 ∧ (∃ e ∈ [Egress.link, .relay], ∃ port : Nat, port < 64 ∧ s.route p.pkt.hdr = .out e port) ∧ s.obj .pktHopDrops + 1 < 2 ^ 32 ∧ isRequest p.pkt.hdr.type = false) ∧
    (∃ s ∈ ([hHopReq] : List (State)), ∃ src ∈ ([.link] : List (Ingress)), ∃ vc ∈ ([3] : List (Fin 8)), s.aon.up = true ∧ s.linkCore = true ∧ src ≠ .stream ∧ s.fa ≠ 0xFFF ∧ s.fenced = false ∧ s.pk.routeFenced = false ∧ ∃ p ∈ (((s.ingressOf src).find? fun x => x.vc == vc.val)).toList, ((s.ingressOf src).find? fun x => x.vc == vc.val) = some p ∧ s.waits src p = false ∧ malformed p.pkt p.vc (s.hSide && p.pkt.hdr.dst = s.fa) = false ∧ p.pkt.hdr.hops = 15 ∧ (∃ e ∈ [Egress.link, .relay], ∃ port : Nat, port < 64 ∧ s.route p.pkt.hdr = .out e port) ∧ s.obj .pktHopDrops + 1 < 2 ^ 32 ∧ isRequest p.pkt.hdr.type = true ∧ ∃ back ∈ ([5] : List (Nat)), back < 64 ∧ s.repliesBy p.pkt.hdr back) := by
  unfold State.repliesBy
  refine ⟨?_, ?_⟩ <;> decide +kernel

set_option maxRecDepth 1000000 in
set_option synthInstance.maxSize 100000 in
set_option synthInstance.maxHeartbeats 2000000 in
/-- States and operands that meet the hypotheses of GatesSamplesAndCounters. -/
theorem witness_GatesSamplesAndCounters :
    (∃ s ∈ ([hGate] : List (State)), s.aon.up = true ∧ ∃ vc ∈ ([1] : List (Fin 8)), (vc.val = 1 ∨ vc.val = 2) ∧ s.locked = true ∧ (s.gate vc).waiting = true ∧ s.cls.gates.length = 2) ∧
    (∃ s ∈ ([hBase] : List (State)), s.aon.up = true ∧ s.linkCore = true) ∧
    (∃ s ∈ ([hBase] : List (State)), s.aon.up = true ∧ ∃ r ∈ ([.port true] : List (Requester)), s.heard r = true ∧ s.linkCore = true ∧ ∃ e ∈ ([.link] : List (Egress)), True) ∧
    (∃ s ∈ ([hOff] : List (State)), s.aon.up = true ∧ ∃ r ∈ ([.port true] : List (Requester)), s.heard r = true ∧ s.linkCore = false ∧ ∃ e ∈ ([.link] : List (Egress)), True) := by
  refine ⟨?_, ?_, ?_, ?_⟩ <;> decide +kernel

set_option maxRecDepth 1000000 in
set_option synthInstance.maxSize 100000 in
set_option synthInstance.maxHeartbeats 2000000 in
/-- States and operands that meet the hypotheses of AdmissionAndRegister. -/
theorem witness_AdmissionAndRegister :
    (∃ s ∈ ([hBase] : List (State)), s.aon.up = true ∧ s.linkCore = true ∧ ∃ q ∈ ([query 0x050 3] : List (HopQuery)), s.fa ≠ 0xFFF ∧ s.fenced = false ∧ ∃ e ∈ (s.flowHop q).toList, s.flowHop q = some e) ∧
    (∃ s ∈ ([hWalk] : List (State)), s.aon.up = true ∧ s.linkCore = true ∧ ∃ w ∈ (s.cls.walk).toList, s.cls.walk = some w) ∧
    (∃ s ∈ ([hBase] : List (State)), s.aon.up = true ∧ s.linkCore = true ∧ s.cls.walk = none) ∧
    (∃ s ∈ ([hBase] : List (State)), s.aon.up = true ∧ s.linkCore = true ∧ ∃ q ∈ ([query 0x050 3] : List (HopQuery)), ∃ slack ∈ ([family] : List (Nat)), ∃ e ∈ (s.flowHop q).toList, s.flowHop q = some e ∧ (∀ x ∈ s.cls.register, sameFlow x.q q = false) ∧ s.cls.register.length + 1 < 2 ^ 16) ∧
    (∃ s ∈ ([hBase] : List (State)), s.aon.up = true ∧ s.linkCore = true ∧ ∃ home ∈ ([family] : List (Nat)), ∃ index ∈ ([family] : List (Nat)), ∃ slack ∈ ([family] : List (Nat)), True) ∧
    (∃ s ∈ ([hBase] : List (State)), s.aon.up = true ∧ s.linkCore = true ∧ ∃ home ∈ ([family] : List (Nat)), ∃ index ∈ ([family] : List (Nat)), index < 256) ∧
    (∃ s ∈ ([hBase] : List (State)), s.aon.up = true ∧ s.linkCore = true ∧ s.cls.register = []) ∧
    (∃ s ∈ ([hRiseOk] : List (State)), s.aon.up = true ∧ s.linkCore = true ∧ ∃ x ∈ s.cls.register, s.cls.register = [x] ∧ x.q.home ≠ s.fa ∧ x.term < s.flowTerm x.q x.egress s.lclk ∧ s.flowTerm x.q x.egress s.lclk - x.term ≤ x.slack) ∧
    (∃ s ∈ ([hRiseBad] : List (State)), s.aon.up = true ∧ s.linkCore = true ∧ ∃ x ∈ s.cls.register, s.cls.register = [x] ∧ x.q.home ≠ s.fa ∧ x.slack < s.flowTerm x.q x.egress s.lclk - x.term) ∧
    (∃ s ∈ ([hWalk] : List (State)), s.aon.up = true ∧ s.linkCore = true ∧ ∃ rate ∈ (s.cls.recheck).toList, s.cls.recheck = some rate ∧ s.cal.stepRate = none ∧ (s.wouldWithdraw rate).length ≤ 1) ∧
    (∃ s ∈ ([hBase] : List (State)), s.aon.up = true ∧ s.linkCore = true ∧ s.cls.recheck = none) := by
  refine ⟨?_, ?_, ?_, ?_, ?_, ?_, ?_, ?_, ?_, ?_, ?_⟩ <;> decide +kernel

set_option maxHeartbeats 2000000 in
set_option maxRecDepth 1000000 in
set_option synthInstance.maxSize 100000 in
set_option synthInstance.maxHeartbeats 2000000 in
/-- States and operands that meet the hypotheses of DescriptorsAreTakenAndStarted. -/
theorem witness_DescriptorsAreTakenAndStarted :
    (∃ s ∈ ([sSubmit] : List (State)), s.aon.up = true ∧ ∃ p ∈ ((s.arr.submits).take 1).map fun x => x.1, ∃ fl ∈ ((s.arr.submits).take 1).map fun x => x.2, ∃ rest ∈ [(s.arr.submits).drop 1], s.arr.submits = (p, fl) :: rest ∧ (s.submitStatus p).1 = stOk ∧ s.obj .oprPassSplits + 1 < 2 ^ 32) ∧
    (∃ s ∈ ([sSubmitBad] : List (State)), s.aon.up = true ∧ ∃ p ∈ ((s.arr.submits).take 1).map fun x => x.1, ∃ fl ∈ ((s.arr.submits).take 1).map fun x => x.2, ∃ rest ∈ [(s.arr.submits).drop 1], s.arr.submits = (p, fl) :: rest ∧ (s.submitStatus p).1 ≠ stOk ∧ s.obj .arrSubmitRefused + 1 < 2 ^ 32 ∧ ∃ port ∈ ([16] : List (Nat)), port < 64 ∧ s.repliesBy p.hdr port) ∧
    (∃ s ∈ ([hBase] : List (State)), s.aon.up = true ∧ s.arr.submits = []) ∧
    (∃ s ∈ ([sQueued] : List (State)), s.aon.up = true ∧ ∃ q ∈ ([3] : List (Fin 64)), ∃ d ∈ (s.nextStart q).toList, s.nextStart q = some d ∧ s.arrayFenced = false ∧ d.op ≠ opReduce ∧ d.op ≠ opFlush) ∧
    (∃ s ∈ ([hBase] : List (State)), s.aon.up = true ∧ ∃ q ∈ ([0] : List (Fin 64)), s.nextStart q = none) ∧
    (∃ s ∈ ([hBase] : List (State)), s.aon.up = true ∧ ∃ k ∈ ([0] : List (Fin 8)), (s.obj .arrClusterEn).testBit k = true ∧ s.readyDom (10 + k) = true ∧ s.obj .arrIdleGate ≠ 0 ∧ s.deadlineMask.testBit k = false ∧ (∀ w ∈ s.arr.work, w.1 / 17 ≠ k.val)) ∧
    (∃ s ∈ ([sArr] : List (State)), s.aon.up = true ∧ ∃ k ∈ ([0] : List (Fin 8)), s.deadlineMask.testBit k = true) ∧
    (∃ s ∈ ([sGated] : List (State)), s.aon.up = true ∧ ∃ k ∈ ([0] : List (Fin 8)), s.arr.gated.testBit k = true ∧ s.wanted k = true) ∧
    (∃ s ∈ ([hBase] : List (State)), s.aon.up = true ∧ ∃ k ∈ ([0] : List (Fin 8)), s.wanted k = false) ∧
    (∃ s ∈ ([hBase] : List (State)), s.aon.up = true ∧ s.cls.register = []) := by
  unfold State.repliesBy
  refine ⟨?_, ?_, ?_, ?_, ?_, ?_, ?_, ?_, ?_, ?_⟩ <;> decide +kernel

set_option maxRecDepth 1000000 in
set_option synthInstance.maxSize 100000 in
set_option synthInstance.maxHeartbeats 2000000 in
/-- States and operands that meet the hypotheses of TilesRunAndMerge. -/
theorem witness_TilesRunAndMerge :
    (∃ s ∈ ([sRunDl] : List (State)), s.aon.up = true ∧ ∃ cell ∈ ([0] : List (Fin 136)), s.arrayFenced = false ∧ s.cellFree cell = true ∧ s.arr.redAgain = [] ∧ ∃ q ∈ ((s.readyQueues (cell / 17)).1).take 1, ∃ rest ∈ [((s.readyQueues (cell / 17)).1).drop 1], (s.readyQueues (cell / 17)).1 = q :: rest ∧ ∃ x ∈ (s.queueTile q).toList, s.queueTile q = some x ∧ x.1.rerun = [] ∧ x.1.phase = .running ∧ s.findDesc x.1.id = some x.1 ∧ ∃ res ∈ okOf (s.tileResult x.1 x.2), s.tileResult x.1 x.2 = .ok res) ∧
    (∃ s ∈ ([sRunning] : List (State)), s.aon.up = true ∧ ∃ cell ∈ ([0] : List (Fin 136)), s.arrayFenced = false ∧ s.cellFree cell = true ∧ s.arr.redAgain = [] ∧ ∃ q ∈ (s.readyQueues (cell / 17)).2, s.readyQueues (cell / 17) = ([], [q]) ∧ s.arr.shares.getD q 0 < qWeight (s.queueCfg q) ∧ ∃ x ∈ (s.queueTile q).toList, s.queueTile q = some x ∧ x.1.rerun = [] ∧ x.1.phase = .running ∧ s.findDesc x.1.id = some x.1 ∧ ((errorOf (s.tileResult x.1 x.2)).all fun e => match e with | .need _ => true | .bad _ => false) = true ∧ s.sSide = true ∧ s.arr.accesses = []) ∧
    (∃ s ∈ ([hBase] : List (State)), s.aon.up = true ∧ ∃ cell ∈ ([0] : List (Fin 136)), s.arrayFenced = false ∧ s.cellFree cell = true ∧ s.arr.redAgain = [] ∧ s.readyQueues (cell / 17) = ([], [])) ∧
    (∃ s ∈ ([sWaiting] : List (State)), s.aon.up = true ∧ ∃ cell ∈ ([4] : List (Fin 136)), ∃ w ∈ (s.arr.work.find? (fun w => w.1 == cell.val)).toList, s.arr.work.find? (fun w => w.1 == cell.val) = some w ∧ w.1 = cell.val ∧ ∃ d ∈ s.arr.descs, s.findDesc d.id = some d ∧ ∃ n ∈ tileOf (w.2), w.2 = .tile d.id n ∧ s.arrayFenced = false ∧ ∃ e ∈ errorOf (s.tileResult d n), s.tileResult d n = .error e) ∧
    (∃ s ∈ ([sTile1] : List (State)), s.aon.up = true ∧ ∃ cell ∈ ([4] : List (Fin 136)), ∃ w ∈ (s.arr.work.find? (fun w => w.1 == cell.val)).toList, s.arr.work.find? (fun w => w.1 == cell.val) = some w ∧ w.1 = cell.val ∧ ∃ d ∈ s.arr.descs, s.findDesc d.id = some d ∧ ∃ n ∈ tileOf (w.2), w.2 = .tile d.id n ∧ s.arrayFenced = false ∧ ∃ res ∈ okOf (s.tileResult d n), s.tileResult d n = .ok res ∧ d.merged ≠ n ∧ (∀ x ∈ d.results, x.1 ≠ d.merged) ∧ d.merged ≠ tileCount d.v) ∧
    (∃ s ∈ ([sInline] : List (State)), s.aon.up = true ∧ ∃ cell ∈ ([4] : List (Fin 136)), ∃ w ∈ (s.arr.work.find? (fun w => w.1 == cell.val)).toList, s.arr.work.find? (fun w => w.1 == cell.val) = some w ∧ w.1 = cell.val ∧ ∃ d ∈ s.arr.descs, s.findDesc d.id = some d ∧ ∃ n ∈ tileOf (w.2), w.2 = .tile d.id n ∧ s.arrayFenced = false ∧ ∃ res ∈ okOf (s.tileResult d n), s.tileResult d n = .ok res ∧ d.merged = n ∧ d.results = [] ∧ d.phase = .running ∧ n + 1 ≠ tileCount d.v ∧ dInline d.v = true ∧ d.op ≠ opReduce) ∧
    (∃ s ∈ ([sTile1] : List (State)), s.aon.up = true ∧ ∃ cell ∈ ([4] : List (Fin 136)), ∃ w ∈ (s.arr.work.find? (fun w => w.1 == cell.val)).toList, s.arr.work.find? (fun w => w.1 == cell.val) = some w ∧ w.1 = cell.val ∧ ∃ d ∈ s.arr.descs, s.findDesc d.id = some d ∧ ∃ n ∈ tileOf (w.2), w.2 = .tile d.id n ∧ s.entry .arrCellState cell = 0 ∧ s.entry .arrCellState (17 * (cell / 17) + 16) = 1 ∧ (∀ i : Nat, i < 16 → s.entry .arrCellState (17 * (cell / 17) + i) ≠ 1) ∧ (∀ y ∈ s.arr.descs, ∃ x ∈ s.countedCells (qMask (s.queueCfg y.queue)), x ≠ cell.val) ∧ s.obj .arrCellFails + 1 < 2 ^ 32 ∧ s.obj .oprTileReruns + 1 < 2 ^ 32) := by
  refine ⟨?_, ?_, ?_, ?_, ?_, ?_, ?_⟩ <;> decide +kernel

set_option maxHeartbeats 2000000 in
set_option maxRecDepth 1000000 in
set_option synthInstance.maxSize 100000 in
set_option synthInstance.maxHeartbeats 2000000 in
/-- States and operands that meet the hypotheses of AccessesAndCompletion. -/
theorem witness_AccessesAndCompletion :
    (∃ s ∈ ([sGot] : List (State)), s.aon.up = true ∧ ∃ a ∈ s.arr.accesses, s.arr.accesses.find? (fun x => x.id == a.id && x.done.isSome) = some a ∧ s.pk.ownWait = [] ∧ ∃ d ∈ s.arr.descs, d.id = a.desc ∧ s.findDesc d.id = some d ∧ d.phase ≠ .ending ∧ ∃ r ∈ (a.done).toList, a.done = some r ∧ r.1 = stOk ∧ a.write = false ∧ a.patch = none ∧ s.tilesOf d.id = []) ∧
    (∃ s ∈ ([sWrote] : List (State)), s.aon.up = true ∧ ∃ a ∈ s.arr.accesses, s.arr.accesses.find? (fun x => x.id == a.id && x.done.isSome) = some a ∧ s.pk.ownWait = [] ∧ ∃ d ∈ s.arr.descs, d.id = a.desc ∧ s.findDesc d.id = some d ∧ d.phase ≠ .ending ∧ ∃ r ∈ (a.done).toList, a.done = some r ∧ r.1 = stOk ∧ a.write = true ∧ d.op ≠ opCopy) ∧
    (∃ s ∈ ([sGotBad] : List (State)), s.aon.up = true ∧ ∃ a ∈ s.arr.accesses, s.arr.accesses.find? (fun x => x.id == a.id && x.done.isSome) = some a ∧ s.pk.ownWait = [] ∧ ∃ d ∈ s.arr.descs, d.id = a.desc ∧ s.findDesc d.id = some d ∧ d.phase ≠ .ending ∧ ∃ r ∈ (a.done).toList, a.done = some r ∧ r.1 ≠ stOk ∧ a.write = false ∧ a.patch = none) ∧
    (∃ s ∈ ([hBase] : List (State)), s.aon.up = true ∧ ∃ id ∈ ([family] : List (Nat)), s.arr.accesses = []) ∧
    (∃ s ∈ ([sFinish] : List (State)), s.aon.up = true ∧ ∃ q ∈ ([3] : List (Fin 64)), ∃ d ∈ ((s.inQueue q).find? s.finishable).toList, (s.inQueue q).find? s.finishable = some d ∧ s.arr.reductions = [] ∧ d.dropCpl = false ∧ (dInline d.v = false ∨ d.phase = .ending) ∧ s.obj .oprDescDone + 1 < 2 ^ 32 ∧ ∃ port ∈ ([16] : List (Nat)), port < 64 ∧ s.repliesBy d.req port) ∧
    (∃ s ∈ ([hBase] : List (State)), s.aon.up = true ∧ ∃ q ∈ ([0] : List (Fin 64)), (s.inQueue q).find? s.finishable = none) := by
  unfold State.repliesBy
  refine ⟨?_, ?_, ?_, ?_, ?_, ?_⟩ <;> decide +kernel

set_option maxHeartbeats 2000000 in
set_option maxRecDepth 1000000 in
set_option synthInstance.maxSize 100000 in
set_option synthInstance.maxHeartbeats 2000000 in
/-- States and operands that meet the hypotheses of ReductionLife. -/
theorem witness_ReductionLife :
    (∃ s ∈ ([sRedStart] : List (State)), s.aon.up = true ∧ ∃ q ∈ ([3] : List (Fin 64)), ∃ d ∈ (s.nextStart q).toList, s.nextStart q = some d ∧ s.arrayFenced = false ∧ s.findDesc d.id = some d ∧ d.op = opReduce ∧ s.findRed (reduceOf d.v).redId = none ∧ s.arr.reductions = []) ∧
    (∃ s ∈ ([sFlushNone] : List (State)), s.aon.up = true ∧ ∃ q ∈ ([3] : List (Fin 64)), ∃ d ∈ (s.nextStart q).toList, s.nextStart q = some d ∧ s.arrayFenced = false ∧ s.findDesc d.id = some d ∧ d.op = opFlush ∧ s.findRed (flushId d.v) = none) ∧
    (∃ s ∈ ([sFlushStart] : List (State)), s.aon.up = true ∧ ∃ q ∈ ([3] : List (Fin 64)), ∃ d ∈ (s.nextStart q).toList, s.nextStart q = some d ∧ s.arrayFenced = false ∧ s.findDesc d.id = some d ∧ ∃ r ∈ (s.findRed (flushId d.v)).toList, s.findRed (flushId d.v) = some r ∧ d.op = opFlush ∧ s.redOpen r = true ∧ r.part = qPart (s.queueCfg d.queue)) ∧
    (∃ s ∈ ([sRedIn] : List (State)), s.aon.up = true ∧ ∃ p ∈ ((s.arr.redIn).take 1).map fun x => x.1, ∃ fl ∈ ((s.arr.redIn).take 1).map fun x => x.2, ∃ rest ∈ [(s.arr.redIn).drop 1], s.arr.redIn = (p, fl) :: rest ∧ ∃ r ∈ (s.findRed p.hdr.aux).toList, s.findRed p.hdr.aux = some r ∧ s.redStatus p = stOk ∧ ∃ x ∈ (s.freeCell (qMask (s.queueCfg r.queue))).toList, s.freeCell (qMask (s.queueCfg r.queue)) = some x) ∧
    (∃ s ∈ ([sRedWait] : List (State)), s.aon.up = true ∧ ∃ p ∈ ((s.arr.redIn).take 1).map fun x => x.1, ∃ fl ∈ ((s.arr.redIn).take 1).map fun x => x.2, ∃ rest ∈ [(s.arr.redIn).drop 1], s.arr.redIn = (p, fl) :: rest ∧ ∃ r ∈ (s.findRed p.hdr.aux).toList, s.findRed p.hdr.aux = some r ∧ s.redStatus p = stOk ∧ s.freeCell (qMask (s.queueCfg r.queue)) = none) ∧
    (∃ s ∈ ([sRedLate] : List (State)), s.aon.up = true ∧ ∃ p ∈ ((s.arr.redIn).take 1).map fun x => x.1, ∃ fl ∈ ((s.arr.redIn).take 1).map fun x => x.2, ∃ rest ∈ [(s.arr.redIn).drop 1], s.arr.redIn = (p, fl) :: rest ∧ s.redStatus p = stRefused ∧ p.hdr.type = tRedWr ∧ s.obj .redRefused + 1 < 2 ^ 32 ∧ ∃ m ∈ (s.findMsg p.hdr).toList, s.findMsg p.hdr = some m ∧ m.hdr.msgCount ≤ m.performed + 1 ∧ m.dropped = false ∧ m.status = stOk ∧ ∃ port ∈ ([16] : List (Nat)), port < 64 ∧ s.repliesBy p.hdr port) ∧
    (∃ s ∈ ([hBase] : List (State)), s.aon.up = true ∧ s.arr.redIn = []) ∧
    (∃ s ∈ ([sRedAdd] : List (State)), s.aon.up = true ∧ ∃ x ∈ s.arr.work, s.arr.work = [x] ∧ ∃ p ∈ contribOf (x.2), x.2 = .redWr p.hdr.aux p ∧ ∃ r ∈ (s.findRed p.hdr.aux).toList, s.findRed p.hdr.aux = some r ∧ ∃ m ∈ (s.findMsg p.hdr).toList, s.findMsg p.hdr = some m ∧ p.hdr.type = tRedWr ∧ m.hdr.msgCount ≤ m.performed + 1 ∧ m.dropped = false ∧ m.status = stOk ∧ s.arr.reductions = [r] ∧ r.state = 1 ∧ ∃ port ∈ ([16] : List (Nat)), port < 64 ∧ s.repliesBy p.hdr port) ∧
    (∃ s ∈ ([hBase] : List (State)), s.aon.up = true ∧ s.arr.work = []) ∧
    (∃ s ∈ ([sRedAbort] : List (State)), s.aon.up = true ∧ ∃ r ∈ s.arr.reductions, s.findRed r.id = some r ∧ ∃ d ∈ (s.findDesc r.desc).toList, s.findDesc r.desc = some d ∧ r.state = 2 ∧ s.redQuiet r = true ∧ s.arrayFenced = false ∧ r.endCode = 2) ∧
    (∃ s ∈ ([sRedLate] : List (State)), s.aon.up = true ∧ ∃ r ∈ s.arr.reductions, s.findRed r.id = some r ∧ ∃ d ∈ (s.findDesc r.desc).toList, s.findDesc r.desc = some d ∧ r.state = 2 ∧ s.redQuiet r = true ∧ s.arrayFenced = false ∧ r.endCode ≠ 2 ∧ s.sSide = true ∧ s.arr.reductions = [r] ∧ d.op = opReduce) ∧
    (∃ s ∈ ([hBase] : List (State)), s.aon.up = true ∧ ∃ id ∈ ([family] : List (Nat)), s.arr.reductions = []) := by
  unfold State.repliesBy
  refine ⟨?_, ?_, ?_, ?_, ?_, ?_, ?_, ?_, ?_, ?_, ?_, ?_⟩ <;> decide +kernel

set_option maxRecDepth 1000000 in
set_option synthInstance.maxSize 100000 in
set_option synthInstance.maxHeartbeats 2000000 in
/-- States and operands that meet the hypotheses of KeyCommands. -/
theorem witness_KeyCommands :
    (∃ s ∈ ([sKeyLoad] : List (State)), s.aon.up = true ∧ ∃ part ∈ ([9] : List (Byte)), ∃ pos ∈ ([1] : List (Byte)), ∃ flags ∈ ([0] : List (Byte)), ∃ wrap ∈ ([List.replicate 72 3] : List (List Byte)), pos.toNat ≤ 1 ∧ s.mgt.mailboxes.length = 6 ∧ (s.mbx 4).inFull = false ∧ s.obj .stkKeyCmds + 1 < 2 ^ 32 ∧ s.obj .stkKeyRefused + 1 < 2 ^ 32 ∧ s.obj .stkDigestGenNow + 1 < 2 ^ 32 ∧ s.noKeys = false ∧ s.mgt.taken = [⟨4, false, [1, part, pos, flags, 0, 0, 0, 0] ++ wrap⟩] ∧ wrap.length = 72 ∧ s.partValid part.toNat = false) ∧
    (∃ s ∈ ([sKeySelect] : List (State)), s.aon.up = true ∧ ∃ part ∈ ([2] : List (Byte)), ∃ pos ∈ ([0] : List (Byte)), ∃ flags ∈ ([1] : List (Byte)), ∃ wrap ∈ ([List.replicate 72 3] : List (List Byte)), pos.toNat ≤ 1 ∧ s.mgt.mailboxes.length = 6 ∧ (s.mbx 4).inFull = false ∧ s.obj .stkKeyCmds + 1 < 2 ^ 32 ∧ s.obj .stkKeyRefused + 1 < 2 ^ 32 ∧ s.obj .stkDigestGenNow + 1 < 2 ^ 32 ∧ s.noKeys = false ∧ s.mgt.taken = [⟨4, false, [2, part, pos, flags, 0, 0, 0, 0]⟩] ∧ ((s.slot part.toNat).key pos.toNat).isSome = true) ∧
    (∃ s ∈ ([sKeyClear] : List (State)), s.aon.up = true ∧ ∃ part ∈ ([2] : List (Byte)), ∃ pos ∈ ([1] : List (Byte)), ∃ flags ∈ ([0] : List (Byte)), ∃ wrap ∈ ([List.replicate 72 3] : List (List Byte)), pos.toNat ≤ 1 ∧ s.mgt.mailboxes.length = 6 ∧ (s.mbx 4).inFull = false ∧ s.obj .stkKeyCmds + 1 < 2 ^ 32 ∧ s.obj .stkKeyRefused + 1 < 2 ^ 32 ∧ s.obj .stkDigestGenNow + 1 < 2 ^ 32 ∧ s.noKeys = false ∧ s.mgt.taken = [⟨4, false, [3, part, pos, flags, 0, 0, 0, 0]⟩] ∧ (s.slot part.toNat).writeKey ≠ pos.toNat ∧ (s.slot part.toNat).walk = none) ∧
    (∃ s ∈ ([hKeyClear] : List (State)), s.aon.up = true ∧ ∃ part ∈ ([2] : List (Byte)), ∃ pos ∈ ([1] : List (Byte)), ∃ flags ∈ ([0] : List (Byte)), ∃ wrap ∈ ([List.replicate 72 3] : List (List Byte)), pos.toNat ≤ 1 ∧ s.mgt.mailboxes.length = 6 ∧ (s.mbx 4).inFull = false ∧ s.obj .stkKeyCmds + 1 < 2 ^ 32 ∧ s.obj .stkKeyRefused + 1 < 2 ^ 32 ∧ s.obj .stkDigestGenNow + 1 < 2 ^ 32 ∧ s.noKeys = true ∧ s.mgt.taken = [⟨4, false, [3, part, pos, flags, 0, 0, 0, 0]⟩]) ∧
    (∃ s ∈ ([hBase] : List (State)), s.aon.up = true ∧ ∃ part ∈ ([2] : List (Byte)), ∃ pos ∈ ([0] : List (Byte)), ∃ flags ∈ ([0] : List (Byte)), ∃ wrap ∈ ([List.replicate 72 3] : List (List Byte)), pos.toNat ≤ 1 ∧ s.mgt.mailboxes.length = 6 ∧ (s.mbx 4).inFull = false ∧ s.obj .stkKeyCmds + 1 < 2 ^ 32 ∧ s.obj .stkKeyRefused + 1 < 2 ^ 32 ∧ s.obj .stkDigestGenNow + 1 < 2 ^ 32 ∧ s.mgt.taken = []) := by
  refine ⟨?_, ?_, ?_, ?_, ?_⟩ <;> decide +kernel

set_option maxRecDepth 1000000 in
set_option synthInstance.maxSize 100000 in
set_option synthInstance.maxHeartbeats 2000000 in
/-- States and operands that meet the hypotheses of PartitionsDigestAndZeroisation. -/
theorem witness_PartitionsDigestAndZeroisation :
    (∃ r ∈ ([.port true] : List (Requester)), ∃ s ∈ ([hBase] : List (State)), s.aon.up = true ∧ s.heard r = true ∧ isSecure r = true ∧ s.applyCheck = none ∧ s.obj .stkPcState = 0 ∧ s.obj .stkDigestGenNow + 1 < 2 ^ 32) ∧
    (∃ r ∈ ([.port true] : List (Requester)), ∃ s ∈ ([sBase] : List (State)), s.aon.up = true ∧ s.heard r = true ∧ isSecure r = true ∧ ∃ e ∈ (s.applyCheck).toList, s.applyCheck = some e) ∧
    (∃ r ∈ ([.port true] : List (Requester)), ∃ s ∈ ([hBase] : List (State)), s.aon.up = true ∧ s.heard r = true ∧ isSecure r = true ∧ s.obj .scrZeroise = 0) ∧
    (∃ r ∈ ([.port false] : List (Requester)), ∃ s ∈ ([hBase] : List (State)), s.aon.up = true ∧ s.heard r = true ∧ isSecure r = false) ∧
    (∃ r ∈ ([.port true] : List (Requester)), ∃ s ∈ ([sDigest] : List (State)), s.aon.up = true ∧ s.obj .stkDigestState = 1 ∧ s.stk.selfTestFailed = false) ∧
    (∃ r ∈ ([.port true] : List (Requester)), ∃ s ∈ ([sDigestDone] : List (State)), s.aon.up = true ∧ s.obj .stkDigestState = 2) ∧
    (∃ r ∈ ([.port true] : List (Requester)), ∃ s ∈ ([sZero] : List (State)), s.aon.up = true ∧ ∃ d ∈ ([0] : List (Fin 20)), s.obj .scrZeroise = 1 ∧ s.scr.zeroWait.testBit d = true) ∧
    (∃ r ∈ ([.port true] : List (Requester)), ∃ s ∈ ([hBase] : List (State)), s.aon.up = true ∧ s.obj .scrZeroise = 0 ∧ ∃ d ∈ ([0] : List (Fin 20)), True) ∧
    (∃ r ∈ ([.port true] : List (Requester)), ∃ s ∈ ([sZeroDone] : List (State)), s.aon.up = true ∧ s.obj .scrZeroise = 1 ∧ s.scr.running = [] ∧ s.pwr.resetWaits = false ∧ s.obj .mgtFaultCount + 1 < 2 ^ 32) := by
  refine ⟨?_, ?_, ?_, ?_, ?_, ?_, ?_, ?_, ?_⟩ <;> decide +kernel

set_option maxRecDepth 1000000 in
set_option synthInstance.maxSize 100000 in
set_option synthInstance.maxHeartbeats 2000000 in
/-- States and operands that meet the hypotheses of MailboxesAndTunnel. -/
theorem witness_MailboxesAndTunnel :
    (∃ s ∈ ([hBase] : List (State)), s.aon.up = true ∧ ∃ sec ∈ ([true] : List (Bool)), ∃ j ∈ ([0] : List (Fin 6)), s.portRuns = true ∧ (mbxSecure j = true → sec = true) ∧ ∃ len ∈ ([family] : List (Nat)), (j.val ≤ 1 → s.readyDom 19 = true) ∧ (mbxFar j = true → s.sbUp = true) ∧ 0 < len ∧ len ≤ 256 ∧ (s.mbx j).outFull = false) ∧
    (∃ s ∈ ([hMbx] : List (State)), s.aon.up = true ∧ ∃ sec ∈ ([true] : List (Bool)), ∃ j ∈ ([0] : List (Fin 6)), s.portRuns = true ∧ (mbxSecure j = true → sec = true) ∧ ∃ len ∈ ([family] : List (Nat)), (j.val ≤ 1 → s.readyDom 19 = true) ∧ (mbxFar j = true → s.sbUp = true) ∧ 0 < len ∧ len ≤ 256 ∧ (s.mbx j).outFull = true) ∧
    (∃ s ∈ ([hBase] : List (State)), s.aon.up = true ∧ ∃ sec ∈ ([true] : List (Bool)), ∃ j ∈ ([0] : List (Fin 6)), s.portRuns = true ∧ (mbxSecure j = true → sec = true) ∧ ∃ len ∈ ([rateIndex] : List (Nat)), (j.val ≤ 1 → s.readyDom 19 = true) ∧ (mbxFar j = true → s.sbUp = true) ∧ 256 < len ∧ (s.mbx j).outFull = false) ∧
    (∃ s ∈ ([hBase] : List (State)), s.aon.up = true ∧ ∃ sec ∈ ([true] : List (Bool)), ∃ j ∈ ([0] : List (Fin 6)), s.portRuns = true ∧ (mbxSecure j = true → sec = true) ∧ ∃ offset ∈ ([family] : List (Nat)), ∃ value ∈ ([family] : List (Nat)), offset < 256 ∧ (s.mbx j).outFull = false) ∧
    (∃ s ∈ ([hMbx] : List (State)), s.aon.up = true ∧ ∃ sec ∈ ([true] : List (Bool)), ∃ j ∈ ([0] : List (Fin 6)), s.portRuns = true ∧ (mbxSecure j = true → sec = true) ∧ ∃ offset ∈ ([family] : List (Nat)), ∃ value ∈ ([family] : List (Nat)), offset < 256 ∧ (s.mbx j).outFull = true) ∧
    (∃ s ∈ ([hBase] : List (State)), s.aon.up = true ∧ ∃ sec ∈ ([false] : List (Bool)), ∃ j ∈ ([4] : List (Fin 6)), s.portRuns = true ∧ mbxSecure j = true ∧ sec = false ∧ ∃ n ∈ ([family] : List (Nat)), True) ∧
    (∃ s ∈ ([hBase] : List (State)), s.aon.up = true ∧ ∃ j ∈ ([0] : List (Fin 6)), (s.mbx j).outFull = false) ∧
    (∃ s ∈ ([hMbx] : List (State)), s.aon.up = true ∧ ∃ j ∈ ([0] : List (Fin 6)), (s.mbx j).outFull = true ∧ (s.mbx j).taken = false ∧ j.val ≤ 1 ∧ s.seqRuns = true ∧ seqMalformed ((s.mbx j).out.take (s.mbx j).outLen) = false) ∧
    (∃ s ∈ ([hMbx] : List (State)), s.aon.up = true ∧ ∃ j ∈ ([2] : List (Fin 6)), (s.mbx j).outFull = true ∧ (s.mbx j).taken = false ∧ mbxFar j = true ∧ s.sbUp = true) ∧
    (∃ s ∈ ([hMbxWait] : List (State)), s.aon.up = true ∧ s.sbUp = true ∧ s.mgt.tunnels = [] ∧ ∃ d ∈ ([echoMsg] : List (List Byte)), d.length ≤ 58 ∧ ∃ j ∈ ([family] : List (Nat)), 2 ≤ j ∧ j ≤ 3 ∧ (s.mbx j).taken = true ∧ ∃ st ∈ ([0] : List (Byte)), True) ∧
    (∃ s ∈ ([hQuiet] : List (State)), s.aon.up = true ∧ s.sbUp = true ∧ s.mgt.tunnels = [] ∧ ∃ d ∈ ([echoMsg] : List (List Byte)), d.length ≤ 58 ∧ ∃ j ∈ ([family] : List (Nat)), 2 ≤ j ∧ j ≤ 3 ∧ s.seqRuns = true ∧ seqMalformed d = false) ∧
    (∃ s ∈ ([hMbxWait] : List (State)), s.aon.up = true ∧ s.sbUp = true ∧ s.mgt.tunnels = [] ∧ ∃ d ∈ ([echoMsg] : List (List Byte)), d.length ≤ 58 ∧ (s.mbx 5).taken = true ∧ ∃ st ∈ ([0] : List (Byte)), True) ∧
    (∃ s ∈ ([hQuiet] : List (State)), s.aon.up = true ∧ s.sbUp = true ∧ s.mgt.tunnels = [] ∧ ∃ d ∈ ([echoMsg] : List (List Byte)), d.length ≤ 58 ∧ ∃ cmd ∈ ([1] : List (Byte)), 1 ≤ cmd.toNat ∧ cmd.toNat ≤ 3 ∧ d.length < 58) ∧
    (∃ s ∈ ([hMbxWait] : List (State)), s.aon.up = true ∧ ∃ j ∈ ([2] : List (Fin 6)), mbxFar j = true ∧ (s.mbx j).taken = true ∧ (s.mbx j).inFull = false) ∧
    (∃ s ∈ ([hBase] : List (State)), s.aon.up = true ∧ ∃ j ∈ ([0] : List (Fin 6)), (s.mbx j).taken = false) ∧
    (∃ s ∈ ([hEcho] : List (State)), s.aon.up = true ∧ ∃ m ∈ s.mgt.taken, s.seqMsg 1 = some m ∧ m.far = false) ∧
    (∃ s ∈ ([hBase] : List (State)), s.aon.up = true ∧ s.seqMsg 1 = none) := by
  refine ⟨?_, ?_, ?_, ?_, ?_, ?_, ?_, ?_, ?_, ?_, ?_, ?_, ?_, ?_, ?_, ?_, ?_⟩ <;> decide +kernel

set_option maxRecDepth 1000000 in
set_option synthInstance.maxSize 100000 in
set_option synthInstance.maxHeartbeats 2000000 in
/-- States and operands that meet the hypotheses of Locks. -/
theorem witness_Locks :
    (∃ r ∈ ([.port true] : List (Requester)), ∃ s ∈ ([hBase] : List (State)), s.aon.up = true ∧ s.mgt.locks.length = 32 ∧ s.heard r = true ∧ ∃ n ∈ ([0] : List (Fin 32)), s.lockCode n = 0) ∧
    (∃ r ∈ ([.port true] : List (Requester)), ∃ s ∈ ([hLocks] : List (State)), s.aon.up = true ∧ s.mgt.locks.length = 32 ∧ s.heard r = true ∧ ∃ n ∈ ([0] : List (Fin 32)), s.lockCode n ≠ 0) ∧
    (∃ r ∈ ([.port true] : List (Requester)), ∃ s ∈ ([hLocks] : List (State)), s.aon.up = true ∧ s.mgt.locks.length = 32 ∧ s.heard r = true ∧ ∃ n ∈ ([2] : List (Fin 32)), s.mgt.lockFault.testBit n = true) ∧
    (∃ r ∈ ([.port true] : List (Requester)), ∃ s ∈ ([hBase] : List (State)), s.aon.up = true ∧ s.mgt.locks.length = 32 ∧ s.heard r = true ∧ ∃ n ∈ ([0] : List (Fin 32)), s.mgt.locks[n.val]? = some none) ∧
    (∃ r ∈ ([.sequencer] : List (Requester)), ∃ s ∈ ([hLocks] : List (State)), s.aon.up = true ∧ s.mgt.locks.length = 32 ∧ s.heard r = true ∧ ∃ n ∈ ([1] : List (Fin 32)), ∃ o ∈ (s.mgt.locks[n.val]?).toList.flatMap Option.toList, s.mgt.locks[n.val]? = some (some o) ∧ s.mgt.lockFault.testBit n = false ∧ rankOf o = rankOf r ∧ gwOf o = gwOf r) ∧
    (∃ r ∈ ([.port true] : List (Requester)), ∃ s ∈ ([hLocks] : List (State)), s.aon.up = true ∧ s.mgt.locks.length = 32 ∧ s.heard r = true ∧ ∃ n ∈ ([0] : List (Fin 32)), ∃ o ∈ (s.mgt.locks[n.val]?).toList.flatMap Option.toList, s.mgt.locks[n.val]? = some (some o) ∧ s.mgt.lockFault.testBit n = false ∧ (¬(rankOf o = rankOf r ∧ gwOf o = gwOf r))) ∧
    (∃ r ∈ ([.port true] : List (Requester)), ∃ s ∈ ([hBase] : List (State)), s.aon.up = true ∧ s.mgt.locks.length = 32 ∧ ∃ n ∈ ([0] : List (Fin 32)), ∃ o ∈ (s.mgt.locks[n.val]?).toList, s.mgt.locks[n.val]? = some o) ∧
    (∃ r ∈ ([.port true] : List (Requester)), ∃ s ∈ ([hLockView] : List (State)), s.aon.up = true ∧ s.mgt.locks.length = 32 ∧ ∃ sec ∈ ([true] : List (Bool)), ∃ n ∈ ([2] : List (Fin 32)), s.pwr.hclkStop = false ∧ s.mgt.dxSel = 0x9020 * 2 ^ 16 + 2 ^ 8 ∧ s.mgt.dxOffset = 4 * n.val ∧ s.mgt.capPort.obj = none) ∧
    (∃ r ∈ ([.port true] : List (Requester)), ∃ s ∈ ([hBase] : List (State)), s.aon.up = true ∧ s.mgt.locks.length = 32 ∧ s.heard r = true ∧ isSecure r = true ∧ ∃ v ∈ ([family] : List (Nat)), v < 2 ^ 32) ∧
    (∃ r ∈ ([.port false] : List (Requester)), ∃ s ∈ ([hBase] : List (State)), s.aon.up = true ∧ s.mgt.locks.length = 32 ∧ s.heard r = true ∧ isSecure r = false ∧ ∃ v ∈ ([family] : List (Nat)), True) := by
  refine ⟨?_, ?_, ?_, ?_, ?_, ?_, ?_, ?_, ?_, ?_⟩ <;> decide +kernel

set_option maxRecDepth 1000000 in
set_option synthInstance.maxSize 100000 in
set_option synthInstance.maxHeartbeats 2000000 in
/-- States and operands that meet the hypotheses of RingMessages. -/
theorem witness_RingMessages :
    (∃ s ∈ ([hRing] : List (State)), s.aon.up = true ∧ ∃ input ∈ ([.nrIn] : List (RingInput)), ∃ sec ∈ ([true] : List (Bool)), ∃ p ∈ ([1] : List (Nat)), ∃ tag ∈ ([5] : List (Nat)), ∃ rest ∈ ([zeros 11] : List (List Byte)), p < s.ringLen ∧ p < 64 ∧ tag < 2 ^ 16 ∧ rest.length = 11 ∧ ∃ o ∈ ([.pktOwnEp] : List (Obj)), o ∈ [Obj.pktOwnEp, .pktFa, .lnkState, .tclSampleLog] ∧ s.holderOn o = true) ∧
    (∃ s ∈ ([hRing] : List (State)), s.aon.up = true ∧ ∃ input ∈ ([.nrIn] : List (RingInput)), ∃ sec ∈ ([true] : List (Bool)), ∃ p ∈ ([1] : List (Nat)), ∃ tag ∈ ([5] : List (Nat)), ∃ rest ∈ ([zeros 11] : List (List Byte)), p < s.ringLen ∧ p < 64 ∧ tag < 2 ^ 16 ∧ rest.length = 11 ∧ ∃ gw ∈ ([5] : List (Nat)), ∃ v ∈ ([0x12345] : List (Nat)), v < 2 ^ 20) ∧
    (∃ s ∈ ([hRing] : List (State)), s.aon.up = true ∧ ∃ input ∈ ([.nrIn] : List (RingInput)), ∃ sec ∈ ([true] : List (Bool)), ∃ p ∈ ([1] : List (Nat)), ∃ tag ∈ ([5] : List (Nat)), ∃ rest ∈ ([zeros 11] : List (List Byte)), p < s.ringLen ∧ p < 64 ∧ tag < 2 ^ 16 ∧ rest.length = 11 ∧ ∃ gw ∈ ([5] : List (Nat)), ∃ n ∈ ([3] : List (Nat)), gw < 4096 ∧ n < 32 ∧ s.lockCode n = 0) ∧
    (∃ s ∈ ([hRing] : List (State)), s.aon.up = true ∧ ∃ input ∈ ([.nrIn] : List (RingInput)), ∃ sec ∈ ([true] : List (Bool)), ∃ p ∈ ([1] : List (Nat)), ∃ tag ∈ ([5] : List (Nat)), ∃ rest ∈ ([zeros 11] : List (List Byte)), p < s.ringLen ∧ p < 64 ∧ tag < 2 ^ 16 ∧ rest.length = 11 ∧ ∃ gw ∈ ([5] : List (Nat)), ∃ n ∈ ([0] : List (Nat)), gw < 4096 ∧ n < 32 ∧ s.lockCode n ≠ 0) ∧
    (∃ s ∈ ([hRing] : List (State)), s.aon.up = true ∧ ∃ input ∈ ([.nrIn] : List (RingInput)), ∃ sec ∈ ([false] : List (Bool)), ∃ p ∈ ([1] : List (Nat)), ∃ tag ∈ ([5] : List (Nat)), ∃ rest ∈ ([zeros 11] : List (List Byte)), p < s.ringLen ∧ p < 64 ∧ tag < 2 ^ 16 ∧ rest.length = 11 ∧ ∃ gw ∈ ([5] : List (Nat)), ∃ n ∈ ([0] : List (Nat)), gw < 4096 ∧ n < 32 ∧ s.mgt.locks[n]? = some (some (.ring gw sec)) ∧ s.mgt.lockFault.testBit n = false) ∧
    (∃ s ∈ ([hRing] : List (State)), s.aon.up = true ∧ ∃ input ∈ ([.nrIn] : List (RingInput)), ∃ sec ∈ ([true] : List (Bool)), ∃ p ∈ ([1] : List (Nat)), ∃ tag ∈ ([5] : List (Nat)), ∃ rest ∈ ([zeros 11] : List (List Byte)), p < s.ringLen ∧ p < 64 ∧ tag < 2 ^ 16 ∧ rest.length = 11 ∧ ∃ gw ∈ ([5] : List (Nat)), ∃ n ∈ ([3] : List (Nat)), gw < 4096 ∧ n < 32 ∧ s.mgt.locks[n]? = some none) ∧
    (∃ s ∈ ([hRingEvt] : List (State)), s.aon.up = true ∧ ∃ input ∈ ([.nrIn] : List (RingInput)), ∃ sec ∈ ([true] : List (Bool)), ∃ p ∈ ([1] : List (Nat)), ∃ tag ∈ ([5] : List (Nat)), ∃ rest ∈ ([zeros 11] : List (List Byte)), p < s.ringLen ∧ p < 64 ∧ tag < 2 ^ 16 ∧ rest.length = 11 ∧ ∃ d ∈ ([zeros 32] : List (List Byte)), d.length = 32 ∧ s.evtGateway = true ∧ s.evtHeld ≠ s.obj .mgtEvtSize ∧ s.mgt.events.length < 64) ∧
    (∃ s ∈ ([hRing] : List (State)), s.aon.up = true ∧ ∃ input ∈ ([.nrIn] : List (RingInput)), ∃ sec ∈ ([true] : List (Bool)), ∃ p ∈ ([1] : List (Nat)), ∃ tag ∈ ([5] : List (Nat)), ∃ rest ∈ ([zeros 11] : List (List Byte)), p < s.ringLen ∧ p < 64 ∧ tag < 2 ^ 16 ∧ rest.length = 11 ∧ ∃ d ∈ ([zeros 32] : List (List Byte)), d.length = 32 ∧ s.evtGateway = false) ∧
    (∃ s ∈ ([hRingFree] : List (State)), s.aon.up = true ∧ ∃ input ∈ ([.nrIn] : List (RingInput)), ∃ p ∈ ([1] : List (Nat)), ∃ tag ∈ ([5] : List (Nat)), ∃ kind ∈ ([1] : List (Nat)), ∃ rest ∈ ([zeros 10] : List (List Byte)), p < s.ringLen ∧ p < 64 ∧ tag < 2 ^ 16 ∧ 1 ≤ kind ∧ kind ≤ 4 ∧ rest.length = 10 ∧ s.sbUp = true) ∧
    (∃ s ∈ ([hRing] : List (State)), s.aon.up = true ∧ ∃ input ∈ ([.nrIn] : List (RingInput)), ∃ p ∈ ([1] : List (Nat)), ∃ tag ∈ ([5] : List (Nat)), ∃ kind ∈ ([1] : List (Nat)), ∃ rest ∈ ([zeros 10] : List (List Byte)), p < s.ringLen ∧ p < 64 ∧ tag < 2 ^ 16 ∧ 1 ≤ kind ∧ kind ≤ 4 ∧ rest.length = 10 ∧ s.sbUp = false) ∧
    (∃ s ∈ ([hGwBusy] : List (State)), s.aon.up = true ∧ ∃ input ∈ ([.nrIn] : List (RingInput)), ∃ p ∈ ([1] : List (Nat)), ∃ tag ∈ ([300] : List (Nat)), ∃ kind ∈ ([1] : List (Nat)), ∃ rest ∈ ([zeros 10] : List (List Byte)), p < s.ringLen ∧ p < 64 ∧ tag < 2 ^ 16 ∧ 1 ≤ kind ∧ kind ≤ 4 ∧ rest.length = 10 ∧ ∃ st ∈ ([0] : List (Nat)), st < 256 ∧ ∃ d ∈ ([zeros 4] : List (List Byte)), d.length = 4 ∧ s.mgt.gwBusy = true ∧ tag = s.mgt.gwTag) ∧
    (∃ s ∈ ([hEvtOut] : List (State)), s.aon.up = true ∧ ∃ input ∈ ([.nrIn] : List (RingInput)), ∃ p ∈ ([1] : List (Nat)), ∃ tag ∈ ([300] : List (Nat)), ∃ kind ∈ ([1] : List (Nat)), ∃ rest ∈ ([zeros 10] : List (List Byte)), p < s.ringLen ∧ p < 64 ∧ tag < 2 ^ 16 ∧ 1 ≤ kind ∧ kind ≤ 4 ∧ rest.length = 10 ∧ s.mgt.evtTries ≠ 0 ∧ tag = s.mgt.ringTagEvt ∧ ∃ e ∈ s.mgt.events, s.mgt.events = [e]) ∧
    (∃ s ∈ ([hRing] : List (State)), s.aon.up = true ∧ ∃ input ∈ ([.nrIn] : List (RingInput)), ∃ p ∈ ([1] : List (Nat)), ∃ tag ∈ ([5] : List (Nat)), ∃ kind ∈ ([1] : List (Nat)), ∃ rest ∈ ([zeros 10] : List (List Byte)), p < s.ringLen ∧ p < 64 ∧ tag < 2 ^ 16 ∧ 1 ≤ kind ∧ kind ≤ 4 ∧ rest.length = 10 ∧ s.mgt.gwBusy = false ∧ s.mgt.evtTries = 0) ∧
    (∃ s ∈ ([hBase] : List (State)), s.aon.up = true ∧ s.fld .mgtRingState 17 17 = 0) ∧
    (∃ s ∈ ([hBroken] : List (State)), s.aon.up = true ∧ s.fld .mgtRingState 17 17 = 1) := by
  refine ⟨?_, ?_, ?_, ?_, ?_, ?_, ?_, ?_, ?_, ?_, ?_, ?_, ?_, ?_, ?_⟩ <;> decide +kernel

set_option maxRecDepth 1000000 in
set_option synthInstance.maxSize 100000 in
set_option synthInstance.maxHeartbeats 2000000 in
/-- States and operands that meet the hypotheses of EnginesTakeOver. -/
theorem witness_EnginesTakeOver :
    (∃ s ∈ ([hStandby] : List (State)), s.aon.up = true ∧ s.lead ≤ 1 ∧ ∃ frame ∈ ([contFrame 7 1] : List (List Byte)), frame.length = 64 ∧ s.engineLeads = true ∧ s.obj .redFrameErrs + 1 < 2 ^ 32 ∧ s.eng.held = none ∧ s.frameBad (ofBytes frame) = false ∧ (s.engState s.other = 2 ∨ s.engState s.other = 3)) ∧
    (∃ s ∈ ([hStandby] : List (State)), s.aon.up = true ∧ s.lead ≤ 1 ∧ ∃ frame ∈ ([zeros 64] : List (List Byte)), frame.length = 64 ∧ s.engineLeads = true ∧ s.obj .redFrameErrs + 1 < 2 ^ 32 ∧ s.eng.held = none ∧ s.frameBad (ofBytes frame) = true ∧ s.engState s.other = 2) ∧
    (∃ s ∈ ([hResync] : List (State)), s.aon.up = true ∧ s.lead ≤ 1 ∧ ∃ frame ∈ ([zeros 64] : List (List Byte)), frame.length = 64 ∧ s.engineLeads = true ∧ s.obj .redFrameErrs + 1 < 2 ^ 32 ∧ s.eng.held = none ∧ s.frameBad (ofBytes frame) = true ∧ s.engState s.other = 3) ∧
    (∃ s ∈ ([hHeld] : List (State)), s.aon.up = true ∧ s.lead ≤ 1 ∧ ∃ f ∈ (s.eng.held).toList, s.eng.held = some f ∧ ∃ frame ∈ ([contFrame 7 1] : List (List Byte)), frame.length = 64 ∧ s.engineLeads = true ∧ s.engState s.other = 2 ∧ s.frameBad (ofBytes frame) = false ∧ frameCopy (ofBytes f) = false ∧ frameNrec (ofBytes f) = 1 ∧ (frameRecord (ofBytes f) 0).1 < 245760) ∧
    (∃ s ∈ ([hResync] : List (State)), s.aon.up = true ∧ s.lead ≤ 1 ∧ s.engState s.other = 3 ∧ s.eng.held = none ∧ s.obj .redResyncs + 1 < 2 ^ 32 ∧ s.eng.chunk = 30720) ∧
    (∃ s ∈ ([hBase] : List (State)), s.aon.up = true ∧ s.lead ≤ 1 ∧ s.eng.held = none ∧ s.eng.chunk < 30720) ∧
    (∃ s ∈ ([hStandby] : List (State)), s.aon.up = true ∧ s.lead ≤ 1 ∧ ∃ code ∈ ([1] : List (Fin 5)), code ≠ 0 ∧ s.engState s.lead = 1 ∧ s.engState s.other = 2 ∧ s.eng.yields = [] ∧ 1 < s.obj .redYieldLimit ∧ s.obj .redTakeovers + 1 < 2 ^ 32) ∧
    (∃ s ∈ ([hBase] : List (State)), s.aon.up = true ∧ s.lead ≤ 1 ∧ ∃ code ∈ ([1] : List (Fin 5)), code ≠ 0 ∧ s.engState s.lead = 1 ∧ s.engState s.other ≠ 2 ∧ s.fenced = false) ∧
    (∃ s ∈ ([hTakeover] : List (State)), s.aon.up = true ∧ s.lead ≤ 1 ∧ s.eng.takeover = true ∧ s.rx.log = [] ∧ s.engState s.other = 0 ∧ (s.obj .pwrDomainCtrl).testBit s.other = true) ∧
    (∃ s ∈ ([hBase] : List (State)), s.aon.up = true ∧ s.lead ≤ 1 ∧ s.eng.takeover = false) := by
  refine ⟨?_, ?_, ?_, ?_, ?_, ?_, ?_, ?_, ?_, ?_⟩ <;> decide +kernel

set_option maxRecDepth 1000000 in
set_option synthInstance.maxSize 100000 in
set_option synthInstance.maxHeartbeats 2000000 in
/-- States and operands that meet the hypotheses of EngineTests. -/
theorem witness_EngineTests :
    (∃ s ∈ ([hStandby] : List (State)), s.aon.up = true ∧ s.lead ≤ 1 ∧ s.seqRuns = true ∧ s.engState s.other = 2 ∧ s.eng.segTest = none ∧ s.eng.retest = none ∧ s.powerFits 640 = true) ∧
    (∃ s ∈ ([hPowerFull] : List (State)), s.aon.up = true ∧ s.lead ≤ 1 ∧ s.seqRuns = true ∧ s.engState s.other = 2 ∧ s.eng.segTest = none ∧ s.eng.retest = none ∧ s.powerFits 640 = false) ∧
    (∃ s ∈ ([hSeg] : List (State)), s.aon.up = true ∧ s.lead ≤ 1 ∧ ∃ g ∈ (s.eng.segTest).toList, s.eng.segTest = some g ∧ g < 64 ∧ s.scr.halted = false ∧ s.eng.passRun = false) ∧
    (∃ s ∈ ([hBase] : List (State)), s.aon.up = true ∧ s.lead ≤ 1 ∧ s.eng.segTest = none) ∧
    (∃ s ∈ ([hRetest] : List (State)), s.aon.up = true ∧ s.lead ≤ 1 ∧ ∃ e ∈ (s.eng.retest).toList, s.eng.retest = some e ∧ e ≤ 1 ∧ s.engState e = 4 ∧ s.scr.halted = false ∧ s.readyDom (1 - e) = true ∧ s.engState (1 - e) ≠ 0 ∧ s.engineLeads = true) ∧
    (∃ s ∈ ([hRetestFirst] : List (State)), s.aon.up = true ∧ s.lead ≤ 1 ∧ ∃ e ∈ (s.eng.retest).toList, s.eng.retest = some e ∧ e ≤ 1 ∧ s.engState e = 4 ∧ s.scr.halted = false ∧ s.readyDom (1 - e) = true ∧ s.engState (1 - e) ≠ 0 ∧ s.engineLeads = false) ∧
    (∃ s ∈ ([hBase] : List (State)), s.aon.up = true ∧ s.lead ≤ 1 ∧ s.eng.retest = none) := by
  refine ⟨?_, ?_, ?_, ?_, ?_, ?_, ?_⟩ <;> decide +kernel

set_option maxRecDepth 1000000 in
set_option synthInstance.maxSize 100000 in
set_option synthInstance.maxHeartbeats 2000000 in
/-- States and operands that meet the hypotheses of SharedStorageFenceAndChecks. -/
theorem witness_SharedStorageFenceAndChecks :
    (∃ s ∈ ([hBase] : List (State)), s.aon.up = true ∧ s.linkCore = true ∧ ∃ e ∈ ([⟨1, 40, true, false, 3, 0⟩] : List (EccError)), s.obj .redSharedCorr + 1 < 2 ^ 32 ∧ s.obj .redSharedUncorr + 1 < 2 ^ 32 ∧ e.corrected = true ∧ e.array ≠ 0 ∧ (∀ x ∈ s.eng.rowErrs, x ≠ (e.array.val, e.row))) ∧
    (∃ s ∈ ([hRow] : List (State)), s.aon.up = true ∧ s.linkCore = true ∧ ∃ e ∈ ([⟨1, 40, true, false, 3, 0⟩] : List (EccError)), s.obj .redSharedCorr + 1 < 2 ^ 32 ∧ s.obj .redSharedUncorr + 1 < 2 ^ 32 ∧ e.corrected = true ∧ e.array ≠ 0 ∧ s.eng.rowErrs = [(e.array.val, e.row)] ∧ s.eng.spared = [] ∧ s.entry .redSpareRows e.array + 1 < 2 ^ 32) ∧
    (∃ s ∈ ([hQueue1] : List (State)), s.aon.up = true ∧ s.linkCore = true ∧ ∃ e ∈ ([⟨2, 40, false, false, 3, 0⟩] : List (EccError)), s.obj .redSharedCorr + 1 < 2 ^ 32 ∧ s.obj .redSharedUncorr + 1 < 2 ^ 32 ∧ e.corrected = false ∧ e.array = 2 ∧ ∃ q ∈ s.tx.queue, s.tx.queue = [q] ∧ q.pkt.hdr.tc = e.vc.val ∧ e.pos = 0) ∧
    (∃ s ∈ ([hBase] : List (State)), s.aon.up = true ∧ s.linkCore = true ∧ ∃ e ∈ ([⟨0, 40, false, true, 3, 0⟩] : List (EccError)), s.obj .redSharedCorr + 1 < 2 ^ 32 ∧ s.obj .redSharedUncorr + 1 < 2 ^ 32 ∧ e.corrected = false ∧ e.array = 0 ∧ s.linkUp = true) ∧
    (∃ s ∈ ([hBase] : List (State)), s.aon.up = true ∧ ∃ r ∈ ([.port true] : List (Requester)), s.heard r = true ∧ isSecure r = true ∧ s.fenced = false ∧ s.heldRequests = [] ∧ s.arr.descs = []) ∧
    (∃ s ∈ ([hFenced] : List (State)), s.aon.up = true ∧ ∃ r ∈ ([.port true] : List (Requester)), s.heard r = true ∧ isSecure r = true ∧ s.fenced = true) ∧
    (∃ s ∈ ([hBase] : List (State)), s.aon.up = true ∧ ∃ r ∈ ([.port true] : List (Requester)), s.heard r = true ∧ isSecure r = true ∧ (s.obj .redFenceCause ≠ 2 ∨ s.engineLeads = true)) ∧
    (∃ s ∈ ([hFencedEng] : List (State)), s.aon.up = true ∧ ∃ r ∈ ([.port true] : List (Requester)), s.heard r = true ∧ isSecure r = true ∧ s.obj .redFenceCause = 2 ∧ s.engineLeads = false) ∧
    (∃ s ∈ ([hBase] : List (State)), s.aon.up = true ∧ ∃ r ∈ ([.port false] : List (Requester)), s.heard r = true ∧ isSecure r = false) ∧
    (∃ s ∈ ([hBase] : List (State)), s.aon.up = true ∧ ∃ n ∈ ([0] : List (Fin 32)), s.obj .mgtFaultCount + 1 < 2 ^ 32) ∧
    (∃ s ∈ ([hBase] : List (State)), s.aon.up = true ∧ s.obj .mgtFaultCount + 1 < 2 ^ 32 ∧ s.obj .stkDigestGenNow + 1 < 2 ^ 32 ∧ ∃ p ∈ ([0] : List (Fin 256)), True) ∧
    (∃ s ∈ ([hBase] : List (State)), s.aon.up = true ∧ s.obj .mgtFaultCount + 1 < 2 ^ 32 ∧ s.obj .stkDigestGenNow + 1 < 2 ^ 32 ∧ s.linkUp = true) := by
  refine ⟨?_, ?_, ?_, ?_, ?_, ?_, ?_, ?_, ?_, ?_, ?_, ?_⟩ <;> decide +kernel

set_option maxRecDepth 1000000 in
set_option synthInstance.maxSize 100000 in
set_option synthInstance.maxHeartbeats 2000000 in
/-- States and operands that meet the hypotheses of CalibrationSteps. -/
theorem witness_CalibrationSteps :
    (∃ s ∈ ([hBase] : List (State)), s.aon.up = true ∧ s.seqRuns = true ∧ ∃ temps ∈ ([List.replicate 8 100] : List (List Int)), temps.length = 8 ∧ (∀ x ∈ temps, -32768 ≤ x ∧ x < 32768)) ∧
    (∃ s ∈ ([hBase] : List (State)), s.aon.up = true ∧ s.seqRuns = true ∧ ∃ lane ∈ ([0] : List (Fin 72)), s.linkSteady = true ∧ s.obj .calEn = 1 ∧ s.cal.recal = none ∧ s.nextGood s.cal.nextRecal = some lane.val ∧ s.cal.scan ≠ some lane.val ∧ s.inPending lane = false ∧ s.laneTested lane = false) ∧
    (∃ s ∈ ([hRecal] : List (State)), s.aon.up = true ∧ s.seqRuns = true ∧ ∃ lane ∈ ([0] : List (Fin 72)), s.cal.recal ≠ none) ∧
    (∃ s ∈ ([hRecal] : List (State)), s.aon.up = true ∧ s.seqRuns = true ∧ ∃ p ∈ (s.cal.recal).toList, s.cal.recal = some p ∧ p < 72 ∧ ∃ codes ∈ ([goodCodes hRecal] : List (List Int)), (∀ k ∈ rxTrims, k ≠ 0 → windowLow k ≤ codes.getD k 0 ∧ codes.getD k 0 ≤ windowHigh k ∧ codes.getD k 0 - s.trimTarget p k s.rateNow ≤ deltaLimit k ∧ s.trimTarget p k s.rateNow - codes.getD k 0 ≤ deltaLimit k) ∧ windowLow 0 ≤ codes.getD 0 0 ∧ codes.getD 0 0 ≤ windowHigh 0 ∧ codes.getD 0 0 - s.trimTarget p 0 s.rateNow ≤ deltaLimit 0 ∧ s.trimTarget p 0 s.rateNow - codes.getD 0 0 ≤ deltaLimit 0) ∧
    (∃ s ∈ ([hRecal] : List (State)), s.aon.up = true ∧ s.seqRuns = true ∧ ∃ p ∈ (s.cal.recal).toList, s.cal.recal = some p ∧ p < 72 ∧ ∃ codes ∈ ([(goodCodes hRecal).set 0 (-3)] : List (List Int)), (∀ k ∈ rxTrims, k ≠ 0 → windowLow k ≤ codes.getD k 0 ∧ codes.getD k 0 ≤ windowHigh k ∧ codes.getD k 0 - s.trimTarget p k s.rateNow ≤ deltaLimit k ∧ s.trimTarget p k s.rateNow - codes.getD k 0 ≤ deltaLimit k) ∧ codes.getD 0 0 < windowLow 0 ∧ -128 ≤ codes.getD 0 0 ∧ s.obj .calRejects + 1 < 2 ^ 32) ∧
    (∃ s ∈ ([hBase] : List (State)), s.aon.up = true ∧ s.seqRuns = true ∧ s.cal.recal = none) ∧
    (∃ s ∈ ([hBase] : List (State)), s.aon.up = true ∧ s.seqRuns = true ∧ s.linkActive = true ∧ ∃ l ∈ ([zeroDeskew] : List (List (List Nat × List Nat))), ∃ a ∈ ((l.take 3).find? s.deskewPass).toList, (l.take 3).find? s.deskewPass = some a) ∧
    (∃ s ∈ ([hMapped] : List (State)), s.aon.up = true ∧ s.seqRuns = true ∧ s.linkActive = true ∧ ∃ l ∈ ([badDeskew] : List (List (List Nat × List Nat))), (l.take 3).find? s.deskewPass = none ∧ 3 ≤ l.length ∧ s.obj .calLinkRejects + 1 < 2 ^ 32) ∧
    (∃ s ∈ ([hBase] : List (State)), s.aon.up = true ∧ s.seqRuns = true ∧ ∃ imageOk ∈ ([true] : List (Bool)), s.cal.planDue = false ∧ s.obj .calSeqRestarts + 1 < 2 ^ 32 ∧ s.obj .mgtFaultCount + 1 < 2 ^ 32) := by
  refine ⟨?_, ?_, ?_, ?_, ?_, ?_, ?_, ?_, ?_⟩ <;> decide +kernel

set_option maxRecDepth 1000000 in
set_option synthInstance.maxSize 100000 in
set_option synthInstance.maxHeartbeats 2000000 in
/-- States and operands that meet the hypotheses of AgeingSteps. -/
theorem witness_AgeingSteps :
    (∃ s ∈ ([hOff] : List (State)), s.aon.up = true ∧ s.obj .ageEn = 1 ∧ s.seqRuns = false) ∧
    (∃ s ∈ ([hRoQuiet] : List (State)), s.aon.up = true ∧ s.seqRuns = true ∧ ∃ counts ∈ ([[]] : List (List Nat)), s.obj .ageRoLimit = 65535) ∧
    (∃ s ∈ ([hBase] : List (State)), s.aon.up = true ∧ s.seqRuns = true ∧ ∃ lane ∈ ([0] : List (Fin 72)), s.obj .ageEn = 1 ∧ s.cal.scan = none ∧ s.nextGood s.cal.nextScan = some lane.val ∧ s.cal.recal ≠ some lane.val ∧ s.laneTested lane = false ∧ ∃ m ∈ (s.monitorFor lane).toList, s.monitorFor lane = some m ∧ m < 72) ∧
    (∃ s ∈ ([hNoSpare] : List (State)), s.aon.up = true ∧ s.seqRuns = true ∧ ∃ lane ∈ ([3] : List (Fin 72)), s.obj .ageEn = 1 ∧ s.cal.scan = none ∧ s.nextGood s.cal.nextScan = some lane.val ∧ s.cal.recal ≠ some lane.val ∧ s.laneTested lane = false ∧ s.monitorFor lane = none) ∧
    (∃ s ∈ ([hScan] : List (State)), s.aon.up = true ∧ s.seqRuns = true ∧ ∃ p ∈ (s.cal.scan).toList, s.cal.scan = some p ∧ p < 72 ∧ ∃ h ∈ ([family] : List (Nat)), ∃ w ∈ ([family] : List (Nat)), True) ∧
    (∃ s ∈ ([hBase] : List (State)), s.aon.up = true ∧ s.seqRuns = true ∧ s.cal.scan = none) ∧
    (∃ s ∈ ([hNoRclk] : List (State)), s.aon.up = true ∧ s.seqRuns = true ∧ s.obj .ageEn = 1 ∧ s.linkActive = false ∧ (∀ x ∈ s.cal.minH, x < 256) ∧ (∀ x ∈ s.cal.minW, x < 256)) ∧
    (∃ s ∈ ([hLockRetire] : List (State)), s.aon.up = true ∧ s.seqRuns = true ∧ ∃ lane ∈ ([3] : List (Fin 72)), ∃ rest ∈ [(s.cal.retireDue).drop 1], s.cal.retireDue = lane.val :: rest ∧ s.spliceOpen = false ∧ s.linkSteady = true ∧ s.rxFailed lane = false ∧ s.canRetire = true ∧ s.seqMayLock = true ∧ s.obj .ageRetired + 1 < 2 ^ 32) ∧
    (∃ s ∈ ([hBase] : List (State)), s.aon.up = true ∧ s.seqRuns = true ∧ ∃ lane ∈ ([0] : List (Fin 72)), s.cal.retireDue = []) ∧
    (∃ s ∈ ([hGrace] : List (State)), s.aon.up = true ∧ s.seqRuns = true ∧ s.cal.stepPhase = 2 ∧ s.seqMayLock = true ∧ ∃ rate ∈ (s.cal.stepRate).toList, s.cal.stepRate = some rate) ∧
    (∃ s ∈ ([hBase] : List (State)), s.aon.up = true ∧ s.seqRuns = true ∧ s.cal.stepPhase ≠ 2) ∧
    (∃ s ∈ ([hBase] : List (State)), s.aon.up = true ∧ s.mgt.seqLockWait = none) ∧
    (∃ s ∈ ([hLockHeld] : List (State)), s.aon.up = true ∧ s.mgt.seqLockWait = some 1 ∧ s.seqRuns = true ∧ ∃ rate ∈ (s.cal.stepRate).toList, s.cal.stepRate = some rate ∧ s.seqMayLock = false) ∧
    (∃ s ∈ ([hLockWait] : List (State)), s.aon.up = true ∧ s.mgt.seqLockWait = some 1 ∧ s.seqRuns = true ∧ ∃ rate ∈ (s.cal.stepRate).toList, s.cal.stepRate = some rate ∧ s.seqMayLock = true ∧ s.cal.stepPhase = 0) ∧
    (∃ s ∈ ([hLockRetire] : List (State)), s.aon.up = true ∧ ∃ p ∈ ([3] : List (Fin 72)), s.mgt.seqLockWait = some 0 ∧ s.cal.retireDue.head? = some p.val) := by
  refine ⟨?_, ?_, ?_, ?_, ?_, ?_, ?_, ?_, ?_, ?_, ?_, ?_, ?_, ?_, ?_⟩ <;> decide +kernel

set_option maxRecDepth 1000000 in
set_option synthInstance.maxSize 100000 in
set_option synthInstance.maxHeartbeats 2000000 in
/-- States and operands that meet the hypotheses of TestsOnRequest. -/
theorem witness_TestsOnRequest :
    (∃ r ∈ ([.port true] : List (Requester)), ∃ s ∈ ([hBase] : List (State)), s.aon.up = true ∧ s.heard r = true ∧ ∃ k ∈ ([0] : List (Fin 8)), s.canIsolate (.cluster k) = true ∧ s.kindBusy (.cluster k) = false ∧ s.scr.running = [] ∧ ∃ x ∈ ((paces (.cluster k)).find? (fun x => x.2 ≤ s.capLeft)).toList, (paces (.cluster k)).find? (fun x => x.2 ≤ s.capLeft) = some x ∧ s.powerFits x.2 = true ∧ (∀ w ∈ s.arr.work, w.1 / 17 ≠ k.val)) ∧
    (∃ r ∈ ([.port true] : List (Requester)), ∃ s ∈ ([sScrHot] : List (State)), s.aon.up = true ∧ s.heard r = true ∧ ∃ k ∈ ([1] : List (Fin 8)), s.canIsolate (.cluster k) = true ∧ s.kindBusy (.cluster k) = false ∧ s.scr.running = [] ∧ ∃ x ∈ ((paces (.cluster k)).find? (fun x => x.2 ≤ s.capLeft)).toList, (paces (.cluster k)).find? (fun x => x.2 ≤ s.capLeft) = some x ∧ s.powerFits x.2 = false) ∧
    (∃ r ∈ ([.port true] : List (Requester)), ∃ s ∈ ([hOff] : List (State)), s.aon.up = true ∧ s.heard r = true ∧ ∃ k ∈ ([0] : List (Fin 8)), (s.canIsolate (.cluster k) = false ∨ s.kindBusy (.cluster k) = true)) ∧
    (∃ r ∈ ([.port true] : List (Requester)), ∃ s ∈ ([hBase] : List (State)), s.aon.up = true ∧ s.heard r = true ∧ ∃ k ∈ ([0] : List (Fin 8)), ∃ x ∈ [(Instr.scrRunLaneGroup r k, TestUnit.laneGroup k), (.scrRunFarTest r k, .farTest k), (.scrRunScratch r, .scratch), (.scrRunSharedStorage r, .storage)], s.canIsolate x.2 = true ∧ s.kindBusy x.2 = false ∧ s.scr.running = [] ∧ testExtra x.2 ≤ s.capLeft ∧ s.powerFits (testExtra x.2) = true) ∧
    (∃ r ∈ ([.port true] : List (Requester)), ∃ s ∈ ([sScrHot] : List (State)), s.aon.up = true ∧ s.heard r = true ∧ ∃ k ∈ ([0] : List (Fin 8)), ∃ x ∈ [(Instr.scrRunLaneGroup r k, TestUnit.laneGroup k), (.scrRunFarTest r k, .farTest k), (.scrRunScratch r, .scratch), (.scrRunSharedStorage r, .storage)], s.canIsolate x.2 = true ∧ s.kindBusy x.2 = false ∧ s.scr.running = [] ∧ testExtra x.2 ≤ s.capLeft ∧ s.powerFits (testExtra x.2) = false) ∧
    (∃ r ∈ ([.port true] : List (Requester)), ∃ s ∈ ([hBase] : List (State)), s.aon.up = true ∧ s.heard r = true ∧ ∃ k ∈ ([0] : List (Fin 8)), ∃ x ∈ [(Instr.scrRunLaneGroup r k, TestUnit.laneGroup k), (.scrRunFarTest r k, .farTest k), (.scrRunScratch r, .scratch), (.scrRunSharedStorage r, .storage)], (s.canIsolate x.2 = false ∨ s.kindBusy x.2 = true)) ∧
    (∃ r ∈ ([.port true] : List (Requester)), ∃ s ∈ ([sScrDown] : List (State)), s.aon.up = true ∧ s.heard r = true ∧ ∃ k ∈ ([0] : List (Fin 8)), s.farMay = true ∧ s.kindBusy (.farTest 0) = false ∧ s.scr.farRespond = none) ∧
    (∃ r ∈ ([.port true] : List (Requester)), ∃ s ∈ ([hBase] : List (State)), s.aon.up = true ∧ s.heard r = true ∧ ∃ k ∈ ([0] : List (Fin 8)), s.farMay = false) ∧
    (∃ r ∈ ([.port true] : List (Requester)), ∃ s ∈ ([hStandby] : List (State)), s.aon.up = true ∧ s.heard r = true ∧ s.engState s.other = 2 ∧ s.eng.segTest = none ∧ s.eng.retest = none) ∧
    (∃ r ∈ ([.port true] : List (Requester)), ∃ s ∈ ([hBase] : List (State)), s.aon.up = true ∧ s.heard r = true ∧ s.engState s.other ≠ 2) ∧
    (∃ r ∈ ([.port true] : List (Requester)), ∃ s ∈ ([hBase] : List (State)), s.aon.up = true ∧ s.heard r = true ∧ s.kindBusy (.analog 0) = false ∧ s.scr.running = [] ∧ s.powerFits 0 = true) ∧
    (∃ r ∈ ([.port true] : List (Requester)), ∃ s ∈ ([sScrAnalog] : List (State)), s.aon.up = true ∧ s.heard r = true ∧ s.kindBusy (.analog 0) = true) := by
  refine ⟨?_, ?_, ?_, ?_, ?_, ?_, ?_, ?_, ?_, ?_, ?_, ?_⟩ <;> decide +kernel

set_option maxRecDepth 1000000 in
set_option synthInstance.maxSize 100000 in
set_option synthInstance.maxHeartbeats 2000000 in
/-- States and operands that meet the hypotheses of TestsInService. -/
theorem witness_TestsInService :
    (∃ s ∈ ([hBase] : List (State)), s.aon.up = true ∧ s.seqRuns = true ∧ s.obj .scrFieldEn = 1 ∧ ∃ u ∈ ([.scratchUnit 0] : List (TestUnit)), s.linkActive = true ∧ s.inRotation u = true ∧ s.canIsolate u = true ∧ s.kindBusy u = false ∧ s.scr.running = [] ∧ testKind u ≠ 0 ∧ testExtra u ≤ s.capLeft ∧ s.powerFits (testExtra u) = true) ∧
    (∃ s ∈ ([sArr] : List (State)), s.aon.up = true ∧ s.seqRuns = true ∧ s.obj .scrFieldEn = 1 ∧ ∃ u ∈ ([.cluster 0] : List (TestUnit)), s.linkActive = true ∧ s.inRotation u = true ∧ (s.canIsolate u = false ∨ s.kindBusy u = true)) ∧
    (∃ s ∈ ([hBase] : List (State)), s.aon.up = true ∧ s.seqRuns = true ∧ s.obj .scrFieldEn = 1 ∧ ∃ u ∈ ([.cluster 0] : List (TestUnit)), s.linkActive = true ∧ s.inRotation u = true ∧ ∃ e ∈ (resultEntry u).toList, resultEntry u = some e ∧ s.obj .scrSkips + 1 < 2 ^ 32) ∧
    (∃ s ∈ ([hBase] : List (State)), s.aon.up = true ∧ s.seqRuns = true ∧ s.obj .scrFieldEn = 1 ∧ ∃ g ∈ ([0] : List (Fin 8)), ∃ d ∈ ([0] : List (Int)), -32768 ≤ d ∧ d < 32768 ∧ -24 ≤ d ∧ d ≤ 24) ∧
    (∃ s ∈ ([hBase] : List (State)), s.aon.up = true ∧ s.seqRuns = true ∧ s.obj .scrFieldEn = 1 ∧ ∃ g ∈ ([0] : List (Fin 8)), ∃ d ∈ ([25] : List (Int)), -32768 ≤ d ∧ d < 32768 ∧ (d < -24 ∨ 24 < d)) ∧
    (∃ s ∈ ([hBase] : List (State)), s.aon.up = true ∧ s.scr.running = [] ∧ s.scr.waiting = [] ∧ s.scr.bootQueue = [] ∧ ∃ mW ∈ ([family] : List (Nat)), True) ∧
    (∃ s ∈ ([hBase] : List (State)), s.aon.up = true ∧ s.scr.running = [] ∧ s.scr.waiting = [] ∧ s.scr.bootQueue = [] ∧ ∃ u ∈ ([.cluster 0] : List (TestUnit)), ∃ map ∈ ([family] : List (Nat)), True) ∧
    (∃ s ∈ ([sScrHalt] : List (State)), s.aon.up = true ∧ s.scr.halted = true ∧ ∃ u ∈ ([.cluster 0] : List (TestUnit)), ∃ map ∈ ([family] : List (Nat)), True) ∧
    (∃ s ∈ ([sScrBusy] : List (State)), s.aon.up = true ∧ s.scr.halted = false ∧ s.scr.waiting = [] ∧ ∃ x ∈ s.scr.running, s.scr.running = [x] ∧ x.on = true ∧ ∃ map ∈ ([family] : List (Nat)), map < 2 ^ 17 ∧ ∃ k ∈ clusterOf (x.test), x.test = .cluster k ∧ s.arr.descs = []) ∧
    (∃ s ∈ ([sScrScratch] : List (State)), s.aon.up = true ∧ s.scr.halted = false ∧ s.scr.waiting = [] ∧ ∃ x ∈ s.scr.running, s.scr.running = [x] ∧ x.on = true ∧ ∃ map ∈ ([family] : List (Nat)), map < 2 ^ 17 ∧ ∃ v ∈ scratchOf (x.test), x.test = .scratchUnit v) ∧
    (∃ s ∈ ([sZero] : List (State)), s.aon.up = true ∧ s.scr.halted = false ∧ s.scr.waiting = [] ∧ ∃ x ∈ s.scr.running, s.scr.running = [x] ∧ x.on = true ∧ ∃ map ∈ ([family] : List (Nat)), map < 2 ^ 17 ∧ x.test = .secureStore ∧ map ≠ 0) := by
  refine ⟨?_, ?_, ?_, ?_, ?_, ?_, ?_, ?_, ?_, ?_, ?_⟩ <;> decide +kernel

set_option maxRecDepth 1000000 in
set_option synthInstance.maxSize 100000 in
set_option synthInstance.maxHeartbeats 2000000 in
/-- States and operands that meet the hypotheses of ImagesAreLoaded. -/
theorem witness_ImagesAreLoaded :
    (∃ r ∈ ([.port true] : List (Requester)), ∃ s ∈ ([hFw] : List (State)), s.aon.up = true ∧ s.heard r = true ∧ isSecure r = true ∧ s.fwCode 1 = 0 ∧ s.obj .stkDigestGenNow + 1 < 2 ^ 32) ∧
    (∃ r ∈ ([.port true] : List (Requester)), ∃ s ∈ ([hBase] : List (State)), s.aon.up = true ∧ s.heard r = true ∧ isSecure r = true ∧ s.fwCode 1 ≠ 0) ∧
    (∃ r ∈ ([.port true] : List (Requester)), ∃ s ∈ ([hFw] : List (State)), s.aon.up = true ∧ s.heard r = true ∧ isSecure r = true ∧ s.fwCode 2 = 0 ∧ s.obj .stkDigestGenNow + 1 < 2 ^ 32 ∧ s.readyDom 19 = true ∧ s.pwr.mclkStop = false ∧ s.cal.planDue = false) ∧
    (∃ r ∈ ([.port true] : List (Requester)), ∃ s ∈ ([hBase] : List (State)), s.aon.up = true ∧ s.heard r = true ∧ isSecure r = true ∧ s.fwCode 2 ≠ 0) ∧
    (∃ r ∈ ([.sequencer] : List (Requester)), ∃ s ∈ ([hScript] : List (State)), s.aon.up = true ∧ s.heard r = true ∧ isSecure r = true ∧ s.loadCheck none r = (0, 0) ∧ s.obj .stkDigestGenNow + 1 < 2 ^ 32) ∧
    (∃ r ∈ ([.port true] : List (Requester)), ∃ s ∈ ([hBase] : List (State)), s.aon.up = true ∧ s.heard r = true ∧ isSecure r = true ∧ (s.loadCheck none r).1 ≠ 0) ∧
    (∃ r ∈ ([.sequencer] : List (Requester)), ∃ s ∈ ([hScene] : List (State)), s.aon.up = true ∧ s.heard r = true ∧ isSecure r = true ∧ ∃ n ∈ ([family] : List (Nat)), n < 8 ∧ s.loadCheck (some n) r = (0, 0)) ∧
    (∃ r ∈ ([.port true] : List (Requester)), ∃ s ∈ ([hBase] : List (State)), s.aon.up = true ∧ s.heard r = true ∧ isSecure r = true ∧ ∃ n ∈ ([family] : List (Nat)), n < 8 ∧ (s.loadCheck (some n) r).1 ≠ 0) ∧
    (∃ r ∈ ([.port true] : List (Requester)), ∃ s ∈ ([hBase] : List (State)), s.aon.up = true ∧ s.heard r = true ∧ isSecure r = true ∧ ∃ n ∈ ([rateIndex] : List (Nat)), 8 ≤ n) ∧
    (∃ r ∈ ([.port false] : List (Requester)), ∃ s ∈ ([hBase] : List (State)), s.aon.up = true ∧ s.heard r = true ∧ isSecure r = false ∧ ∃ n ∈ ([family] : List (Nat)), ∃ c ∈ [Instr.pwrFwLoad r, .fwOnlineUpdate r, .mgtScriptLoad r, .mgtSceneLoad r n, .mgtSceneCommit r n], True) := by
  refine ⟨?_, ?_, ?_, ?_, ?_, ?_, ?_, ?_, ?_, ?_⟩ <;> decide +kernel

set_option maxRecDepth 1000000 in
set_option synthInstance.maxSize 100000 in
set_option synthInstance.maxHeartbeats 2000000 in
/-- States and operands that meet the hypotheses of SceneCommits. -/
theorem witness_SceneCommits :
    (∃ s ∈ ([hLocks] : List (State)), s.aon.up = true ∧ s.obj .mgtCommitRefusals + 1 < 2 ^ 32 ∧ s.obj .mgtCommits + 1 < 2 ^ 32 ∧ s.obj .stkDigestGenNow + 1 < 2 ^ 32 ∧ ∃ r ∈ ([.ring 5 true] : List (Requester)), ∃ m ∈ ([0] : List (Nat)), m < 256 ∧ s.heard r = true ∧ isSecure r = true ∧ s.commitChecks m r = none) ∧
    (∃ s ∈ ([hBase] : List (State)), s.aon.up = true ∧ s.obj .mgtCommitRefusals + 1 < 2 ^ 32 ∧ s.obj .mgtCommits + 1 < 2 ^ 32 ∧ s.obj .stkDigestGenNow + 1 < 2 ^ 32 ∧ ∃ r ∈ ([.port true] : List (Requester)), ∃ m ∈ ([family] : List (Nat)), m < 256 ∧ s.heard r = true ∧ isSecure r = true ∧ ∃ f ∈ (s.commitChecks m r).toList, s.commitChecks m r = some f) ∧
    (∃ s ∈ ([hCommit] : List (State)), s.aon.up = true ∧ s.obj .mgtCommitRefusals + 1 < 2 ^ 32 ∧ s.obj .mgtCommits + 1 < 2 ^ 32 ∧ s.obj .stkDigestGenNow + 1 < 2 ^ 32 ∧ ∃ c ∈ (s.mgt.commit).toList, s.mgt.commit = some c ∧ c.mask < 256 ∧ s.imageChecks c.mask = none ∧ (s.withCandidate c.mask).flowsUsed = [] ∧ (∀ i : Nat, i < 256 → s.entry .tclFlowState i = 0 ∧ s.entry .tclFlowBound i = 0) ∧ ∃ w ∈ s.changes (s.withCandidate c.mask) (s.named c.mask), s.changes (s.withCandidate c.mask) (s.named c.mask) = [w]) ∧
    (∃ s ∈ ([hCommitSame] : List (State)), s.aon.up = true ∧ s.obj .mgtCommitRefusals + 1 < 2 ^ 32 ∧ s.obj .mgtCommits + 1 < 2 ^ 32 ∧ s.obj .stkDigestGenNow + 1 < 2 ^ 32 ∧ ∃ c ∈ (s.mgt.commit).toList, s.mgt.commit = some c ∧ c.mask < 256 ∧ s.imageChecks c.mask = none ∧ (s.withCandidate c.mask).flowsUsed = [] ∧ (∀ i : Nat, i < 256 → s.entry .tclFlowState i = 0 ∧ s.entry .tclFlowBound i = 0) ∧ s.changes (s.withCandidate c.mask) (s.named c.mask) = []) ∧
    (∃ s ∈ ([hCommitBad] : List (State)), s.aon.up = true ∧ s.obj .mgtCommitRefusals + 1 < 2 ^ 32 ∧ s.obj .mgtCommits + 1 < 2 ^ 32 ∧ s.obj .stkDigestGenNow + 1 < 2 ^ 32 ∧ ∃ c ∈ (s.mgt.commit).toList, s.mgt.commit = some c ∧ c.mask < 256 ∧ ∃ f ∈ (s.imageChecks c.mask).toList, s.imageChecks c.mask = some f ∧ f.code ≠ 8) ∧
    (∃ s ∈ ([hBase] : List (State)), s.aon.up = true ∧ s.obj .mgtCommitRefusals + 1 < 2 ^ 32 ∧ s.obj .mgtCommits + 1 < 2 ^ 32 ∧ s.obj .stkDigestGenNow + 1 < 2 ^ 32 ∧ s.mgt.commit = none ∧ s.cls.walk = none ∧ ∃ l ∈ ([[]] : List (List HopAnswer)), True) := by
  refine ⟨?_, ?_, ?_, ?_, ?_, ?_⟩ <;> decide +kernel

set_option maxHeartbeats 2000000 in
set_option maxRecDepth 1000000 in
set_option synthInstance.maxSize 100000 in
set_option synthInstance.maxHeartbeats 2000000 in
/-- States and operands that meet the hypotheses of EventDelivery. -/
theorem witness_EventDelivery :
    (∃ s ∈ ([hGwEvt] : List (State)), s.aon.up = true ∧ s.fa ≠ 0xFFF ∧ s.fenced = false ∧ s.pk.own = [] ∧ s.pk.ownWait = [] ∧ s.mgt.recWriting = false ∧ s.mgt.evtTries = 0 ∧ ∃ port ∈ ([16] : List (Nat)), port < 64 ∧ s.evtGateway = true ∧ s.ringRoom = true ∧ s.obj .mgtEvtDropped = 0 ∧ ∃ r ∈ (s.mgt.events).take 1, ∃ rest ∈ [(s.mgt.events).drop 1], s.mgt.events = r :: rest ∧ s.recordsBy (s.obj .mgtEvtFa) s.slotSector port ∧ s.mgt.recRetry = false) ∧
    (∃ s ∈ ([hGwRetry] : List (State)), s.aon.up = true ∧ s.fa ≠ 0xFFF ∧ s.fenced = false ∧ s.pk.own = [] ∧ s.pk.ownWait = [] ∧ s.mgt.recWriting = false ∧ s.mgt.evtTries = 0 ∧ ∃ port ∈ ([16] : List (Nat)), port < 64 ∧ s.evtGateway = true ∧ s.ringRoom = true ∧ s.obj .mgtEvtDropped = 0 ∧ ∃ r ∈ (s.mgt.events).take 1, ∃ rest ∈ [(s.mgt.events).drop 1], s.mgt.events = r :: rest ∧ s.recordsBy (s.obj .mgtEvtFa) s.slotSector port ∧ s.mgt.recRetry = true) ∧
    (∃ s ∈ ([hInBand] : List (State)), s.aon.up = true ∧ s.fa ≠ 0xFFF ∧ s.fenced = false ∧ s.pk.own = [] ∧ s.pk.ownWait = [] ∧ s.mgt.recWriting = false ∧ s.mgt.evtTries = 0 ∧ ∃ port ∈ ([16] : List (Nat)), port < 64 ∧ s.evtGateway = false ∧ s.evtInBand = true ∧ s.mgt.evtProbe = false ∧ s.mgt.recRetry = false ∧ s.obj .mgtEvtFbFa ≠ 0xFFF ∧ ∃ r ∈ (s.mgt.events).take 1, ∃ rest ∈ [(s.mgt.events).drop 1], s.mgt.events = r :: rest ∧ s.recordsBy (s.obj .mgtEvtFbFa) ((s.obj .mgtEvtFbBase + r.seq % 16) % 2 ^ 40) port) ∧
    (∃ s ∈ ([hGwDrops] : List (State)), s.aon.up = true ∧ s.fa ≠ 0xFFF ∧ s.fenced = false ∧ s.evtGateway = true ∧ s.mgt.recWriting = false ∧ s.mgt.evtTries = 0 ∧ s.mgt.recRetry = false ∧ s.ringRoom = true ∧ s.obj .mgtEvtDropped ≠ 0) ∧
    (∃ s ∈ ([hEvtDone] : List (State)), s.aon.up = true ∧ s.fa ≠ 0xFFF ∧ s.fenced = false ∧ ∃ d ∈ s.pk.done, s.pk.done = [d] ∧ d.use = .eventWrite (s.obj .mgtEvtPidx) ∧ d.status = 0 ∧ s.obj .mgtEvtPidx + 1 < 2 ^ 32) ∧
    (∃ s ∈ ([hEvtFail] : List (State)), s.aon.up = true ∧ s.fa ≠ 0xFFF ∧ s.fenced = false ∧ ∃ d ∈ s.pk.done, s.pk.done = [d] ∧ d.use = .eventWrite (s.obj .mgtEvtPidx) ∧ d.status ≠ 0 ∧ s.obj .mgtEvtWriteErrs + 1 < 2 ^ 32) ∧
    (∃ s ∈ ([hBase] : List (State)), s.aon.up = true ∧ s.fa ≠ 0xFFF ∧ s.fenced = false ∧ ∃ st ∈ ([family] : List (Nat)), s.pk.done = []) ∧
    (∃ s ∈ ([hPstate] : List (State)), s.aon.up = true ∧ s.fa ≠ 0xFFF ∧ s.fenced = false ∧ s.evtGateway = true ∧ s.mgt.pstateDue = true ∧ s.mgt.pstateBusy = false ∧ s.pk.own = [] ∧ s.pk.ownWait = [] ∧ ∃ port ∈ ([16] : List (Nat)), port < 64 ∧ s.recordsBy (s.obj .mgtEvtFa) (s.obj .mgtEvtPstate) port) ∧
    (∃ s ∈ ([hBase] : List (State)), s.aon.up = true ∧ s.fa ≠ 0xFFF ∧ s.fenced = false ∧ s.mgt.pstateDue = false) ∧
    (∃ s ∈ ([hBase] : List (State)), s.aon.up = true ∧ s.fa ≠ 0xFFF ∧ s.fenced = false ∧ s.mgt.recRetry = false) ∧
    (∃ s ∈ ([hBase] : List (State)), s.aon.up = true ∧ s.mgt.evtTries = 0) ∧
    (∃ s ∈ ([hProbing] : List (State)), s.aon.up = true ∧ s.mgt.evtTries ≠ 0 ∧ s.mgt.evtProbe = true) ∧
    (∃ s ∈ ([hByRing2] : List (State)), s.aon.up = true ∧ s.mgt.evtTries = 2 ∧ s.mgt.evtProbe = false) ∧
    (∃ s ∈ ([hByRing] : List (State)), s.aon.up = true ∧ ∃ r ∈ (s.mgt.events).take 1, ∃ rest ∈ [(s.mgt.events).drop 1], s.mgt.events = r :: rest ∧ s.entry .mgtEvtPath 0 = 1 ∧ s.entry .mgtEvtPath 1 < s.ringLen ∧ s.entry .mgtEvtPath 1 < 64 ∧ s.mgt.evtTries = 1 ∧ s.mgt.evtProbe = false) ∧
    (∃ s ∈ ([hRingMode] : List (State)), s.aon.up = true ∧ ∃ r ∈ (s.mgt.events).take 1, ∃ rest ∈ [(s.mgt.events).drop 1], s.mgt.events = r :: rest ∧ s.entry .mgtEvtPath 0 = 1 ∧ s.entry .mgtEvtPath 1 < s.ringLen ∧ s.entry .mgtEvtPath 1 < 64 ∧ s.mgt.evtTries = 0 ∧ s.evtGateway = false ∧ s.fld .mgtEvtMode 1 1 = 1 ∧ s.mgt.recWriting = false) ∧
    (∃ s ∈ ([hBase] : List (State)), s.aon.up = true ∧ s.fld .mgtEvtMode 1 1 = 0) := by
  unfold State.recordsBy
  refine ⟨?_, ?_, ?_, ?_, ?_, ?_, ?_, ?_, ?_, ?_, ?_, ?_, ?_, ?_, ?_, ?_⟩ <;> decide +kernel

set_option maxRecDepth 1000000 in
set_option synthInstance.maxSize 100000 in
set_option synthInstance.maxHeartbeats 2000000 in
/-- States and operands that meet the hypotheses of PowerDomains. -/
theorem witness_PowerDomains :
    (∃ s ∈ ([hBase] : List (State)), s.aon.up = true ∧ ∃ r ∈ ([.port true] : List (Requester)), s.heard r = true ∧ isSecure r = true ∧ ∃ v ∈ ([family] : List (Nat)), v < 2 ^ 20 ∧ s.protects (s.obj .pwrDomainCtrl - (s.obj .pwrDomainCtrl &&& v)) = false) ∧
    (∃ s ∈ ([hBase] : List (State)), s.aon.up = true ∧ ∃ r ∈ ([.port true] : List (Requester)), s.heard r = true ∧ isSecure r = true ∧ ∃ v ∈ ([rateIndex] : List (Nat)), v < 2 ^ 20 ∧ s.protects (s.obj .pwrDomainCtrl - (s.obj .pwrDomainCtrl &&& v)) = true) ∧
    (∃ s ∈ ([hBase] : List (State)), s.aon.up = true ∧ ∃ r ∈ ([.port false] : List (Requester)), s.heard r = true ∧ isSecure r = false ∧ ∃ v ∈ ([family] : List (Nat)), True) ∧
    (∃ s ∈ ([hFw] : List (State)), s.aon.up = true ∧ ∃ r ∈ ([.port true] : List (Requester)), s.heard r = true ∧ ∃ v ∈ ([rateIndex] : List (Nat)), v < 2 ^ 20 ∧ s.protects v = false ∧ 2 ≤ s.bringupStep) ∧
    (∃ s ∈ ([hBase] : List (State)), s.aon.up = true ∧ ∃ r ∈ ([.port true] : List (Requester)), s.heard r = true ∧ ∃ v ∈ ([family] : List (Nat)), v < 2 ^ 20 ∧ s.protects v = true) ∧
    (∃ s ∈ ([hUnready] : List (State)), s.aon.up = true ∧ ∃ d ∈ ([2] : List (Fin 20)), s.poweredDom d = true ∧ s.readyDom d = false ∧ 2 ≤ d.val ∧ d.val ≤ 9) ∧
    (∃ s ∈ ([hUnready] : List (State)), s.aon.up = true ∧ ∃ d ∈ ([16] : List (Fin 20)), s.poweredDom d = true ∧ s.readyDom d = false ∧ 10 ≤ d.val ∧ d.val ≤ 17 ∧ (∀ i : Nat, i < 17 → s.entry .arrCellState (17 * (d.val - 10) + i) ≠ 2)) ∧
    (∃ s ∈ ([hUnready] : List (State)), s.aon.up = true ∧ ∃ d ∈ ([19] : List (Fin 20)), s.poweredDom d = true ∧ s.readyDom d = false ∧ d.val = 19 ∧ s.pwr.mclkStop = false ∧ s.cal.planDue = false) ∧
    (∃ s ∈ ([hUnready] : List (State)), s.aon.up = true ∧ ∃ d ∈ ([0] : List (Fin 20)), s.poweredDom d = true ∧ s.readyDom d = false ∧ d.val ≤ 1 ∧ 4 ≤ s.bringupStep ∧ s.eng.retest = none ∧ s.engState d = 0) ∧
    (∃ s ∈ ([hOff] : List (State)), s.aon.up = true ∧ ∃ d ∈ ([0] : List (Fin 20)), s.poweredDom d = false) := by
  refine ⟨?_, ?_, ?_, ?_, ?_, ?_, ?_, ?_, ?_, ?_⟩ <;> decide +kernel

set_option maxRecDepth 1000000 in
set_option synthInstance.maxSize 100000 in
set_option synthInstance.maxHeartbeats 2000000 in
/-- States and operands that meet the hypotheses of BringupAndReset. -/
theorem witness_BringupAndReset :
    (∃ s ∈ ([hStep5] : List (State)), s.aon.up = true ∧ ∃ n ∈ ([5] : List (Fin 11)), s.bringupStep = n.val ∧ s.fld .pwrBringupState 15 8 ≠ 4 ∧ s.stepEnds n = true ∧ 4 ≤ n.val ∧ n.val ≤ 9) ∧
    (∃ s ∈ ([hBase] : List (State)), s.aon.up = true ∧ ∃ n ∈ ([1] : List (Fin 11)), s.bringupStep = n.val ∧ s.fld .pwrBringupState 15 8 ≠ 4 ∧ s.stepEnds n = true ∧ n.val = 1) ∧
    (∃ s ∈ ([hFw] : List (State)), s.aon.up = true ∧ ∃ n ∈ ([2] : List (Fin 11)), s.bringupStep = n.val ∧ s.fld .pwrBringupState 15 8 ≠ 4 ∧ s.stepEnds n = true ∧ n.val = 2) ∧
    (∃ s ∈ ([hStep3NoTrain] : List (State)), s.aon.up = true ∧ ∃ n ∈ ([3] : List (Fin 11)), s.bringupStep = n.val ∧ s.fld .pwrBringupState 15 8 ≠ 4 ∧ s.stepEnds n = true ∧ n.val = 3 ∧ s.engineLeads = true ∧ s.obj .pwrAutoTrain ≠ 1) ∧
    (∃ s ∈ ([hBase] : List (State)), s.aon.up = true ∧ ∃ n ∈ ([0] : List (Fin 11)), s.bringupStep ≠ n.val) ∧
    (∃ s ∈ ([hClkLost] : List (State)), s.aon.up = true ∧ ∃ r ∈ ([.port true] : List (Requester)), s.heard r = true ∧ s.obj .pwrReset = 0 ∧ s.obj .scrZeroise = 0 ∧ isSecure r = true ∧ s.linkCore = true ∧ s.fld .pwrClkState 1 0 ≠ 0) ∧
    (∃ s ∈ ([hBase] : List (State)), s.aon.up = true ∧ ∃ r ∈ ([.port true] : List (Requester)), s.heard r = true ∧ s.obj .pwrReset = 0 ∧ s.obj .scrZeroise = 0 ∧ isSecure r = true ∧ s.fld .pwrClkState 1 0 = 0 ∧ s.obj .pwrResetCount + 1 < 2 ^ 32) ∧
    (∃ s ∈ ([hBase] : List (State)), s.aon.up = true ∧ ∃ r ∈ ([.port false] : List (Requester)), s.heard r = true ∧ s.obj .pwrReset = 0 ∧ s.obj .scrZeroise = 0 ∧ isSecure r = false) ∧
    (∃ s ∈ ([hSettling] : List (State)), s.aon.up = true ∧ s.pwr.resetStep = 1 ∧ s.obj .scrZeroise = 0 ∧ s.obj .pwrResetCount + 1 < 2 ^ 32) ∧
    (∃ s ∈ ([hBase] : List (State)), s.aon.up = true ∧ s.pwr.resetStep = 0) := by
  refine ⟨?_, ?_, ?_, ?_, ?_, ?_, ?_, ?_, ?_, ?_⟩ <;> decide +kernel

set_option maxRecDepth 1000000 in
set_option synthInstance.maxSize 100000 in
set_option synthInstance.maxHeartbeats 2000000 in
/-- States and operands that meet the hypotheses of ObjectNumbersAndSubIndexZero. -/
theorem witness_ObjectNumbersAndSubIndexZero :
    (∃ o ∈ ([.pktOwnEp] : List (Obj)), True) ∧
    (∃ sec ∈ ([true] : List (Bool)), ∃ s ∈ ([hSubZero] : List (State)), s.aon.up = true ∧ s.pwr.hclkStop = false ∧ s.mgt.dxOffset = 0 ∧ ∃ o ∈ ([.pktOwnEp] : List (Obj)), s.mgt.dxSel = o.row.index * 2 ^ 16 ∧ ∃ v ∈ ([family] : List (Nat)), True) := by
  refine ⟨?_, ?_⟩ <;> decide +kernel

set_option maxRecDepth 1000000 in
set_option synthInstance.maxSize 100000 in
set_option synthInstance.maxHeartbeats 2000000 in
/-- States and operands that meet the hypotheses of ZeroisationRecordLasts. -/
theorem witness_ZeroisationRecordLasts :
    (∃ t, hZeroRecord.zeroRecord = true ∧ (∀ strap, Instr.bypass ≠ .aonPowerUp strap) ∧ exec .bypass hZeroRecord = .next t) ∧
    (∃ t, hZeroRecord.zeroRecord = true ∧ hZeroRecord.pending = [] ∧ step hZeroRecord = .next t) ∧
    (∃ s ∈ ([sRecLoad] : List (State)), s.aon.up = true ∧ s.zeroRecord = true ∧ s.obj .stkKeyRefused + 1 < 2 ^ 32 ∧ s.mgt.mailboxes.length = 6 ∧ (s.mbx 4).inFull = false ∧ ∃ body ∈ ([List.replicate 79 7] : List (List Byte)), ∃ x ∈ [((1 : Byte), 79, Instr.keyLoad body), (2, 7, .keySelect body), (3, 7, .keyClear body)], body.length = x.2.1 ∧ s.mgt.taken = [⟨4, false, x.1 :: body⟩]) ∧
    (∃ s ∈ ([hBase] : List (State)), s.aon.up = true ∧ ∃ r ∈ ([.port true] : List (Requester)), s.heard r = true ∧ isSecure r = true ∧ s.obj .scrZeroise = 0) ∧
    (∃ s ∈ ([sZero] : List (State)), s.aon.up = true ∧ s.obj .scrZeroise = 1 ∧ (∃ x ∈ s.scr.running, x.test = .secureStore)) := by
  refine ⟨⟨_, by decide +kernel, nofun, rfl⟩, ⟨_, by decide +kernel, rfl, rfl⟩, ?_, ?_, ?_⟩ <;> decide +kernel

/-! ### WellFormed: for each of its checks a command that it refuses -/

/-- GW of a requester, objects, values too wide for their register. -/
theorem test_illFormed_writes :
    ([.fence (.ring 4096 true), .objectWrite (.port true) 65536 0 0 [], .objectWrite (.port true) 0 256 0 [], .objectWrite (.port true) 0 0 65536 [],
      .phyGroupOffWrite (.port true) 256, .rxRetire (.port true) 256, .lnkSpillEnWrite (.port true) 256, .pktFaWrite (.port true) 65536,
      .routeActiveWrite (.port true) 256, .routeTableWrite (.port true) 0 0 65536, .tclRecheckRate (.port true) 256, .mgtSeal (.port true) 256,
      .scrRunCluster (.port true) 256, .scrRunLaneGroup (.port true) 256, .scrRunFarTest (.port true) 256, .scrRunFarRespond (.port true) 256,
      .mgtSceneLoad (.port true) 256, .mgtSceneCommit (.port true) 256, .mgtLockForce (.port true) (2 ^ 32), .mgtEvtCidxWrite (.port true) (2 ^ 32),
      .pwrDomainCtrlWrite (.port true) (2 ^ 32), .pwrCycle (.port true) (2 ^ 32)] : List Instr).all (fun i => !i.WellFormed) = true := by decide

/-- Words of the Control Port and of the mailboxes. -/
theorem test_illFormed_words :
    ([.dxSelWrite true (2 ^ 32), .dxDataWrite true (2 ^ 32), .gatewaySend true (2 ^ 32), .gatewayRequestWrite true 4096 0, .gatewayRequestWrite true 2 0,
      .gatewayRequestWrite true 0 (2 ^ 32), .mailboxSend true 0 (2 ^ 16), .mailboxBufferWrite true 0 false 256 0, .mailboxBufferWrite true 0 false 2 0,
      .mailboxBufferWrite true 0 false 0 (2 ^ 32)] : List Instr).all (fun i => !i.WellFormed) = true := by decide

/-- Bytes on pins: sizes that the pins cannot carry. -/
theorem test_illFormed_pins :
    ([.dataFlit ⟨0, [], []⟩, .prepareFlit ⟨0, [], []⟩, .commitFlit ⟨0, [], []⟩, .cancelFlit ⟨0, [], []⟩, .measureMarker ⟨0, [], []⟩,
      .returnMarker ⟨0, [], []⟩, .setMarker ⟨0, [], []⟩, .verifyMarker ⟨0, [], []⟩, .verifyReturn ⟨0, [], []⟩, .idleFlit ⟨0, [], []⟩,
      .flitFail ⟨0, [], []⟩, .flitProtoErr ⟨0, [], []⟩, .streamIngressPacket 0 0 [] [] [], .streamIngressPacket 0 0 [0] [1] [],
      .streamIngressPacket 0 0 [0] [] [1], .stackResponse 0 0 [] 0 0, .relayIngressPacket 0 [] [], .relayIngressPacket 0 [[]] [],
      .rlIUpChange (2 ^ 64), .slate [], .samplePreload [true] [], .continuityFrame [], .tunnel (zeros 65), .tunnelS (zeros 65),
      .ringRead .nrIn [], .ringWrite 4096 .nrIn (zeros 24), .ringWrite 0 .nrIn [], .ringEvent .sideband (zeros 57)] : List Instr).all
      (fun i => !i.WellFormed) = true := by decide +kernel

/-- Outcomes and frames with fields too wide or with the wrong number of entries. -/
theorem test_illFormed_outcomes :
    ([.clockWindow (2 ^ 32) 0 0 0 0 0, .sbState 4, .sidebandFrameDiscard 256 0 true, .train ⟨16, false, 0, 0, [], [], 0, 0, []⟩,
      .laneFault (2 ^ 72) 0, .laneFault 0 256, .laneAck (2 ^ 72), .connectDone [], .equaliseDone [], .laneCheckDone [] [], .spillWriteDone 4096 0,
      .spillReadDone 0 256 [], .spillReadDone 0 0 [0], .keyLoad (zeros 257), .keySelect (zeros 257), .keyClear (zeros 257),
      .sharedEccError ⟨0, 65536, true, true, 0, 0⟩, .tempSample [], .recalDone [], .deskewCheck [([], [])], .ageingMonitor [], .eyeScanDone 256 0,
      .testDone .scratch (2 ^ 72) [], .commitDone [⟨256, false, 0, 0, 0, 0, []⟩], .eventWriteDone 256,
      .admissionHopQuery ⟨4096, 0, 0, 0, 0, 0, 0, 0, 0, 0, 0, false⟩, .transitRegisterUpdate (.withdraw 256 0)] : List Instr).all
      (fun i => !i.WellFormed) = true := by decide +kernel

/-! ### Numbers of the manual's examples -/

/-- 00, R8's example: MALFORMED before QUEUE_REFUSED, and FENCED before both. -/
theorem test_precedence : worst [stRefused, stMalformed] = stMalformed ∧ worst [stRefused, stMalformed, stFenced] = stFenced := by decide

/-- 02: FCLK at 2.0 GHz and the link at 200 Gb/s give 3,420 ps, SCLK at 1.25 GHz 4,320 ps. -/
theorem test_portLatencies : hBase.streamLat = 3420 ∧ sBase.stackLat = 4320 := by decide +kernel

/-- 03, repairing one lane: with lane 23 in F, logical lane 23 goes to lane 64, the lowest spare. -/
theorem test_repairOneLane : (newMap 64 64 (2 ^ 23) (List.range 64)).1 = 64 ∧ (newMap 64 64 (2 ^ 23) (List.range 64)).2 = (List.range 64).set 23 64 := by
  decide +kernel

/-- 13, the example of R346: codes 14 and 18 at 55 and 85 °C give 16 at 70 °C on lane 23. -/
theorem test_trimTarget :
    ({ hBase with cal := { hBase.cal with temps := List.replicate 8 560, setsNow := [(15 * 23 + 2, 14), (15 * 23 + 3, 18)] } } : State).baseTarget 23 0 0
      = 16 := by decide +kernel

/-- 10, the MXFP4 block of the example: scale code 128, elements 7, 0xA, 0, 1, bytes 0xA7 and 0x10, and no overflow. -/
theorem test_mxfp4Block :
    let r := runCalc {} (mxQuant 8 false ([0x41500000, 0xC0200000, 0x3F000000, 0x3F800000] ++ List.replicate 28 0))
    r.1.1 = 128 ∧ r.1.2.take 4 = [7, 10, 0, 1] ∧ (packElems 8 r.1.2).take 2 = [0xA7, 0x10] ∧ r.2.sat = 0 := by decide +kernel

/-- 03, pads on a 30 mm link: with T = 16 and two round trips of 27, PAD_M = 3 and PAD_N = 2. -/
theorem test_pads :
    let s : State := { hMeasure2 with lat := { hMeasure2.lat with rts := [27], sentAt := 1000, lcc := 1031 } }
    let t := s.gotReturn ⟨2, s.lat.seq, 0, 0, 0, 0⟩
    t.obj .phyLatPad = 3 ∧ t.lat.padFar = 2 := by decide +kernel

end Sys2Proof.Tests
end

section
/-! The frame `Only` as a calculus: it composes, it widens, and each shared operation of the state has its own frame. -/

namespace Sys2Proof.Machine

/-! ### Composition -/

theorem Only.refl {ps : List Part} {os : List Obj} (s : State) : Only ps os s s :=
  ⟨fun p _ => by cases p <;> rfl, fun _ _ _ => rfl⟩

theorem Part.same_trans {p : Part} {s t u : State} (h1 : p.same s t) (h2 : p.same t u) : p.same s u := by
  cases p <;> exact h2.trans h1

/-- What two operations in a row may touch. -/
theorem Only.trans {ps qs : List Part} {os xs : List Obj} {s t u : State} (h1 : Only ps os s t) (h2 : Only qs xs t u) :
    Only (ps ++ qs) (os ++ xs) s u := by
  obtain ⟨hp1, ho1⟩ := h1
  obtain ⟨hp2, ho2⟩ := h2
  refine ⟨fun p hp => ?_, fun o e ho => ?_⟩
  · simp only [List.mem_cons, List.mem_append, not_or] at hp
    obtain ⟨hd, hps, hqs⟩ := hp
    exact Part.same_trans (hp1 p (by simp [hd, hps])) (hp2 p (by simp [hd, hqs]))
  · simp only [List.mem_append, not_or] at ho
    exact (ho2 o e ho.2).trans (ho1 o e ho.1)

/-- A frame widened to longer lists. -/
theorem Only.mono {ps qs : List Part} {os xs : List Obj} {s t : State} (h : Only ps os s t) (hp : ps ⊆ qs) (ho : os ⊆ xs) :
    Only qs xs s t :=
  ⟨fun p hn => h.1 p fun hm => hn (List.cons_subset_cons _ hp hm), fun o e hn => h.2 o e fun hm => hn (ho hm)⟩

/-- An object that the frame does not list reads the same. -/
theorem Only.obj {ps : List Part} {os : List Obj} {s t : State} (h : Only ps os s t) {o : Obj} (ho : o ∉ os) : t.obj o = s.obj o :=
  h.2 o 0 ho

/-! ### A command's run -/

theorem State.whenOk_eq {s : State} {c : Bool} {f : State → State} (h : c = true) : s.whenOk c f = f s := by rw [h]; rfl

/-- A run of an effect that leaves the queue and the AON domain alone answers that effect. -/
theorem State.run_of_only {s : State} {f : State → State} {ps : List Part} {os : List Obj} (up : s.aon.up = true)
    (h : Only ps os s (f s)) (hq : .pending ∉ ps) (ha : .aon ∉ ps) : s.run f = .next (f s) := by
  have hp : (f s).pending = s.pending := h.1 .pending (by simpa using hq)
  have haon : (f s).aon = s.aon := h.1 .aon (by simpa using ha)
  rw [State.run_on s f up, ← hp, ← haon]

/-- A command that is a run ends with its effect, where the effect's frame lists neither the queue nor the AON domain. -/
theorem Ends.of_run {c : Instr} {s t : State} {f : State → State} {P : State → Prop} {ps : List Part} {os : List Obj}
    (hc : exec c s = s.run f) (up : s.aon.up = true) (ht : f s = t) (h : Only ps os s t) (hq : .pending ∉ ps) (ha : .aon ∉ ps)
    (hP : P t) : Ends c s P := by
  subst ht
  exact ⟨f s, hc.trans (State.run_of_only up h hq ha), hP⟩

/-- The same for an access that is heard. -/
theorem Ends.of_access {c : Instr} {s t : State} {r : Requester} {f : State → State} {P : State → Prop} {ps : List Part}
    {os : List Obj} (hc : exec c s = s.access r f) (up : s.aon.up = true) (heard : s.heard r = true) (ht : f s = t)
    (h : Only ps os s t) (hq : .pending ∉ ps) (ha : .aon ∉ ps) (hP : P t) : Ends c s P :=
  Ends.of_run hc up ((State.whenOk_eq heard).trans ht) h hq ha hP

/-- A run whose effect is nothing answers the state as it was. -/
theorem State.run_eq_self {s : State} {f : State → State} (h : f s = s) : s.run f = .next s := by
  cases up : s.aon.up
  · exact s.run_off f up
  · rw [s.run_on f up, h]

/-! ### The frame of each operation -/

theorem only_setEntry (s : State) (o : Obj) (e v : Nat) : Only [] [o] s (s.setEntry o e v) := by
  refine ⟨fun p hp => ?_, fun x f hx => ?_⟩
  · cases p <;> simp_all [Part.same]
  · rw [State.entry_setEntry, if_neg (fun h => hx (by simp [h.1]))]

theorem only_setFld (s : State) (o : Obj) (hi lo v : Nat) : Only [] [o] s (s.setFld o hi lo v) := only_setEntry s o 0 _

theorem only_setObj (s : State) (o : Obj) (v : Nat) : Only [] [o] s (s.setObj o v) := only_setEntry s o 0 v

theorem only_countWrap (s : State) (o : Obj) (e n : Nat) : Only [] [o] s (s.countWrap o e n) := only_setEntry s o e _

theorem only_count (s : State) (o : Obj) (n : Nat) : Only [] [o] s (s.count o n) := by
  unfold State.count State.countAt
  dsimp only
  split <;> exact only_setEntry s o 0 _

theorem only_outs (s : State) (l : List Out) : Only [.outbox] [] s (s.outs l) :=
  ⟨fun p hp => by cases p <;> simp_all [Part.same], fun _ _ _ => rfl⟩

theorem only_out (s : State) (o : Out) : Only [.outbox] [] s (s.out o) := only_outs s [o]

theorem only_reply (s : State) (st : Nat) : Only [.outbox] [] s (s.reply st) := only_out s _

theorem only_sp (s : State) (p : StreamPort) : Only [.sp] [] s { s with sp := p } :=
  ⟨fun p hp => by cases p <;> simp_all [Part.same], fun _ _ _ => rfl⟩

theorem only_rl (s : State) (r : RelayPort) : Only [.rl] [] s { s with rl := r } :=
  ⟨fun p hp => by cases p <;> simp_all [Part.same], fun _ _ _ => rfl⟩

theorem only_stk (s : State) (k : Stack) : Only [.stk] [] s { s with stk := k } :=
  ⟨fun p hp => by cases p <;> simp_all [Part.same], fun _ _ _ => rfl⟩

theorem only_pk (s : State) (k : Packets) : Only [.pk] [] s { s with pk := k } :=
  ⟨fun p hp => by cases p <;> simp_all [Part.same], fun _ _ _ => rfl⟩

/-- Raising an event (15, R408 to R412). -/
theorem only_raise (s : State) (t v : Nat) (x : Option Obj) (b : List Byte) : Only eventParts eventObjs s (s.raise t v x b) := by
  refine ⟨fun p hp => ?_, fun o e ho => ?_⟩
  · cases p <;> simp_all [Part.same, eventParts]
  · simp only [eventObjs, List.mem_cons, List.not_mem_nil, or_false, not_or] at ho
    exact State.raise_entry s t v x b e ho.1 ho.2

end Sys2Proof.Machine
end

section
/-! Bits and fields of the dictionary's objects (00, Notation and R7). -/

namespace Sys2Proof.Machine

/-! ### Fields of a number -/

theorem testBit_field (v hi lo i : Nat) : (field v hi lo).testBit i = (decide (i < hi + 1 - lo) && v.testBit (lo + i)) := by
  simp [field, Nat.testBit_shiftRight]

/-- A value is what lies above a field, the field, and what lies below. -/
theorem eq_field_parts {hi lo : Nat} (v : Nat) (h : lo ≤ hi) :
    v = 2 ^ (hi + 1) * (v / 2 ^ (hi + 1)) + (2 ^ lo * field v hi lo + v % 2 ^ lo) := by
  have hp : 2 ^ (hi + 1) = 2 ^ lo * 2 ^ (hi + 1 - lo) := by rw [← Nat.pow_add]; congr 1; omega
  have h1 := Nat.div_add_mod v (2 ^ lo)
  have h2 := Nat.div_add_mod (v / 2 ^ lo) (2 ^ (hi + 1 - lo))
  rw [field, Nat.shiftRight_eq_div_pow, hp, ← Nat.div_div_eq_div_mul]
  calc v = 2 ^ lo * (v / 2 ^ lo) + v % 2 ^ lo := h1.symm
    _ = 2 ^ lo * (2 ^ (hi + 1 - lo) * (v / 2 ^ lo / 2 ^ (hi + 1 - lo)) + v / 2 ^ lo % 2 ^ (hi + 1 - lo)) + v % 2 ^ lo := by rw [h2]
    _ = _ := by ring

theorem setField_eq {hi lo : Nat} (v x : Nat) (h : lo ≤ hi) :
    setField v hi lo x = 2 ^ (hi + 1) * (v / 2 ^ (hi + 1)) + (2 ^ lo * (x % 2 ^ (hi + 1 - lo)) + v % 2 ^ lo) := by
  have hv := eq_field_parts v h
  have hm := Nat.mul_comm (field v hi lo) (2 ^ lo)
  have hx := Nat.mul_comm (x % 2 ^ (hi + 1 - lo)) (2 ^ lo)
  unfold setField
  omega

/-- A field replaced: its bits are the new value's, the others stay. -/
theorem testBit_setField {hi lo : Nat} (v x i : Nat) (h : lo ≤ hi) :
    (setField v hi lo x).testBit i = if lo ≤ i ∧ i ≤ hi then x.testBit (i - lo) else v.testBit i := by
  have hw : 2 ^ lo * (x % 2 ^ (hi + 1 - lo)) + v % 2 ^ lo < 2 ^ (hi + 1) := by
    have hlow := Nat.mod_lt v (Nat.two_pow_pos lo)
    have hx : x % 2 ^ (hi + 1 - lo) + 1 ≤ 2 ^ (hi + 1 - lo) := Nat.mod_lt _ (Nat.two_pow_pos _)
    calc 2 ^ lo * (x % 2 ^ (hi + 1 - lo)) + v % 2 ^ lo < 2 ^ lo * (x % 2 ^ (hi + 1 - lo) + 1) := by rw [Nat.mul_succ]; omega
      _ ≤ 2 ^ lo * 2 ^ (hi + 1 - lo) := Nat.mul_le_mul_left _ hx
      _ = 2 ^ (hi + 1) := by rw [← Nat.pow_add]; congr 1; omega
  rw [setField_eq v x h, Nat.testBit_two_pow_mul_add _ hw, Nat.testBit_two_pow_mul_add _ (Nat.mod_lt _ (Nat.two_pow_pos lo))]
  simp only [Nat.testBit_mod_two_pow, Nat.testBit_div_two_pow]
  by_cases hlo : i < lo
  · have : i < hi + 1 := by omega
    simp [hlo, this]
  · by_cases hhi : i ≤ hi
    · have h1 : i < hi + 1 := by omega
      have h2 : i - lo < hi + 1 - lo := by omega
      simp [hlo, hhi, h1, h2, Nat.le_of_not_lt hlo]
    · have h1 : ¬ i < hi + 1 := by omega
      have h2 : hi + 1 + (i - (hi + 1)) = i := by omega
      simp [hhi, h1, h2, Nat.add_comm]

theorem field_setField_same {hi lo : Nat} (v x : Nat) (h : lo ≤ hi) : field (setField v hi lo x) hi lo = x % 2 ^ (hi + 1 - lo) := by
  refine Nat.eq_of_testBit_eq fun i => ?_
  rw [testBit_field, testBit_setField _ _ _ h, Nat.testBit_mod_two_pow]
  by_cases hin : i < hi + 1 - lo
  · rw [if_pos (by omega), Nat.add_sub_cancel_left]
  · simp [hin]

/-- A field of two bits is its two one-bit fields. -/
theorem field_one_zero (v : Nat) : field v 1 0 = field v 0 0 + 2 * field v 1 1 := by
  simp only [field, Nat.shiftRight_eq_div_pow]
  omega

/-! ### What an object keeps of a value -/

theorem Obj.testBit_fit (o : Obj) (e v i : Nat) :
    (o.fit e v).testBit i = (decide (i < 8 * o.row.layout.size e) && v.testBit i && o.mask.testBit i) := by
  simp [Obj.fit]

/-- An entry that keeps w ones keeps the low w bits of every value. -/
theorem Obj.testBit_fit_of_lt {o : Obj} {e w i : Nat} (hw : o.fit e (2 ^ w - 1) = 2 ^ w - 1) (v : Nat) (hi : i < w) :
    (o.fit e v).testBit i = v.testBit i := by
  have h := congrArg (Nat.testBit · i) hw
  simp only [Obj.testBit_fit, Nat.testBit_two_pow_sub_one, hi, decide_true, Bool.and_true, Bool.and_eq_true, decide_eq_true_eq] at h
  obtain ⟨hs, hm⟩ := h
  simp [Obj.testBit_fit, hs, hm]

/-- An entry that keeps w ones keeps every value of w bits. -/
theorem Obj.fit_of_lt {o : Obj} {e w v : Nat} (hw : o.fit e (2 ^ w - 1) = 2 ^ w - 1) (hv : v < 2 ^ w) : o.fit e v = v := by
  refine Nat.eq_of_testBit_eq fun i => ?_
  by_cases hi : i < w
  · exact Obj.testBit_fit_of_lt hw v hi
  · have : v.testBit i = false := Nat.testBit_lt_two_pow (hv.trans_le (Nat.pow_le_pow_right (by omega) (by omega)))
    simp [Obj.testBit_fit, this]

theorem Obj.field_fit {o : Obj} {w hi lo : Nat} (hw : o.fit 0 (2 ^ w - 1) = 2 ^ w - 1) (v : Nat) (hhi : hi < w) (h : lo ≤ hi) :
    field (o.fit 0 v) hi lo = field v hi lo := by
  refine Nat.eq_of_testBit_eq fun i => ?_
  rw [testBit_field, testBit_field]
  by_cases hin : i < hi + 1 - lo
  · rw [Obj.testBit_fit_of_lt hw v (by omega)]
  · simp [hin]

/-! ### Fields of objects after a write -/

theorem State.fld_of_obj {s t : State} {o : Obj} (h : t.obj o = s.obj o) (hi lo : Nat) : t.fld o hi lo = s.fld o hi lo := by
  unfold State.fld; rw [h]

/-- A field reads as it was written, where the object has its bits. -/
theorem State.fld_setFld_same (s : State) {o : Obj} {w hi lo : Nat} (v : Nat) (hw : o.fit 0 (2 ^ w - 1) = 2 ^ w - 1) (hhi : hi < w)
    (h : lo ≤ hi) : (s.setFld o hi lo v).fld o hi lo = v % 2 ^ (hi + 1 - lo) := by
  rw [State.fld, State.obj_setFld, if_pos rfl, Obj.field_fit hw _ hhi h, field_setField_same _ _ h]

/-- A field reads as before after a write of one that it does not meet. -/
theorem State.fld_setFld_disjoint (s : State) (o : Obj) {hi lo hi' lo' : Nat} (v : Nat) (h : lo ≤ hi) (hd : hi' < lo ∨ hi < lo') :
    (s.setFld o hi lo v).fld o hi' lo' = s.fld o hi' lo' := by
  refine Nat.eq_of_testBit_eq fun i => ?_
  rw [State.fld, State.fld, State.obj_setFld, if_pos rfl, testBit_field, testBit_field]
  by_cases hin : i < hi' + 1 - lo'
  · rw [← State.fit_obj s o, Obj.testBit_fit, Obj.testBit_fit, State.fit_obj, testBit_setField _ _ _ h, if_neg (by omega)]
  · simp [hin]

/-! ### Counters -/

/-- A counter of 32 bits that has room counts one. -/
theorem State.obj_count_one {s : State} {o : Obj} (hs : o.row.layout.size 0 = 4) (hw : o.fit 0 (2 ^ 32 - 1) = 2 ^ 32 - 1)
    (h : s.obj o + 1 < 2 ^ 32) : (s.count o 1).obj o = s.obj o + 1 := by
  rw [State.obj_count s o o 1 (by rw [hs]; exact h), if_pos rfl, Obj.fit_of_lt hw h]

/-- A free-running counter of 64 bits wraps (06, R177). -/
theorem State.entry_countWrap_64 {s : State} {o : Obj} {e : Nat} (n : Nat) (hs : o.row.layout.size e = 8)
    (hw : o.fit e (2 ^ 64 - 1) = 2 ^ 64 - 1) : (s.countWrap o e n).entry o e = (s.entry o e + n) % 2 ^ 64 := by
  rw [State.countWrap, State.entry_setEntry, if_pos ⟨rfl, rfl⟩, hs]
  exact Obj.fit_of_lt hw (Nat.mod_lt _ (Nat.two_pow_pos 64))

end Sys2Proof.Machine
end

section
/-! Raised events and the port lock (15, R408 to R412; 02, R27 to R29): O13. -/

namespace Sys2Proof.Machine

/-! ### A raised event that finds room for its record -/

/-- What eventRoom reads. -/
theorem Only.eventRoom {ps : List Part} {os : List Obj} {s t : State} (h : Only ps os s t) (ha : .aon ∉ ps) (hm : .mgt ∉ ps)
    (h1 : .mgtEvtEn ∉ os) (h2 : .mgtEvtPath ∉ os) (h3 : .mgtEvtFbFa ∉ os) : t.eventRoom = s.eventRoom := by
  have haon : t.aon = s.aon := h.1 .aon (by simpa using ha)
  have hmgt : t.mgt = s.mgt := h.1 .mgt (by simpa using hm)
  simp only [State.eventRoom, State.evtGateway, State.evtNoRoute, State.hSide, haon, hmgt, h.obj h1, h.obj h3, h.2 .mgtEvtPath 0 h2]

@[simp] theorem State.sendRecord_events (s : State) (n : Nat) : (s.sendRecord n).mgt.events = s.mgt.events := by
  unfold State.sendRecord
  split
  · rfl
  · dsimp only
    split <;> simp

@[simp] theorem State.nextRecord_events (s : State) : s.nextRecord.mgt.events = s.mgt.events := by
  unfold State.nextRecord
  dsimp only
  split
  · rfl
  · split <;> simp

/-- With room the record joins the queue. -/
theorem State.queueEvent_events {s : State} (r : EventRec) (h : s.eventRoom = true) : (s.queueEvent r).mgt.events = s.mgt.events ++ [r] := by
  simp only [State.eventRoom, Bool.and_eq_true, Bool.not_eq_true', decide_eq_true_eq] at h
  obtain ⟨⟨hg, hr⟩, hl⟩ := h
  have : ¬ 16 ≤ s.mgt.events.length := by omega
  simp [State.queueEvent, hg, hr, this]

/-- An event raised with room for its record is the last of the queue. -/
theorem State.raise_lastEvent {s : State} (t v : Nat) (x : Option Obj) (b : List Byte) (h : s.eventRoom = true) :
    LastEvent (s.raise t v x b) t v (valAt (slice b 0 16) 0 1) := by
  have room : (s.setFld .mgtEvtMode 15 8 (s.fld .mgtEvtMode 15 8 + 1)).eventRoom = true :=
    ((only_setFld s .mgtEvtMode 15 8 _).eventRoom (by simp) (by simp) (by simp) (by simp) (by simp)).trans h
  unfold State.raise
  dsimp only
  exact ⟨_, by rw [State.queueEvent_events _ room, List.getLast?_concat], rfl, rfl, rfl⟩

/-! ### Withheld credits given back -/

theorem only_releaseCredits (s : State) : Only [.sp, .outbox] [] s s.releaseCredits := by
  unfold State.releaseCredits
  split
  · exact (only_sp s _).trans (only_outs _ _)
  · exact Only.refl s

theorem State.releaseCredits_lock (s : State) : s.releaseCredits.sp.lock = s.sp.lock := by
  unfold State.releaseCredits
  split <;> rfl

/-! ### The phase of a port's lock -/

theorem State.lockPhase_congr {s t : State} (p : Port) (hsp : t.sp.lock = s.sp.lock) (hstk : t.stk = s.stk) (hrl : t.rl = s.rl) :
    t.lockPhase p = s.lockPhase p := by
  cases p
  case stream => exact hsp
  case stack => exact congrArg Stack.lock hstk
  case relay => exact congrArg RelayPort.lock hrl

/-- The ports that an operation does not touch keep their lock's phase. -/
theorem Only.lockPhase {ps : List Part} {os : List Obj} {s t : State} (h : Only ps os s t) (p : Port)
    (hn : ∀ x ∈ [Part.sp, .stk, .rl], x ∉ ps) : t.lockPhase p = s.lockPhase p :=
  State.lockPhase_congr p (congrArg StreamPort.lock (h.1 .sp (by simpa using hn .sp (by simp)))) (h.1 .stk (by simpa using hn .stk (by simp)))
    (h.1 .rl (by simpa using hn .rl (by simp)))

theorem State.releaseCredits_lockPhase (s : State) (p : Port) : s.releaseCredits.lockPhase p = s.lockPhase p :=
  State.lockPhase_congr p s.releaseCredits_lock ((only_releaseCredits s).1 .stk (by simp)) ((only_releaseCredits s).1 .rl (by simp))

@[simp] theorem State.lockPhase_setLock (s : State) (p : Port) (l : LockPhase) : (s.setLock p l).lockPhase p = l := by
  cases p <;> rfl

theorem only_setLock (s : State) (p : Port) (l : LockPhase) : Only [.sp, .rl, .stk] [lockState p] s (s.setLock p l) := by
  have hf := fun v => only_setFld s (lockState p) (lockBit p) (lockBit p) v
  cases p
  case stream => exact ((hf _).trans (only_sp _ _)).mono (by simp) (by simp)
  case stack => exact ((hf _).trans (only_stk _ _)).mono (by simp) (by simp)
  case relay => exact ((hf _).trans (only_rl _ _)).mono (by simp) (by simp)

/-- The state object of a port has 32 bits, none reserved. -/
theorem lockState_word (p : Port) : (lockState p).fit 0 (2 ^ 32 - 1) = 2 ^ 32 - 1 := by cases p <;> decide

/-- The phases but leaving show whether the port is locked. -/
theorem State.setLock_bit (s : State) (p : Port) {l : LockPhase} (hl : l ≠ .leaving) :
    (s.setLock p l).fld (lockState p) (lockBit p) (lockBit p) = ofBool (l = .locked) := by
  have hw := fun v => s.fld_setFld_same (o := lockState p) (hi := lockBit p) (lo := lockBit p) v (lockState_word p) (by cases p <;> decide) le_rfl
  have hobj : (s.setLock p l).obj (lockState p) =
      (s.setFld (lockState p) (lockBit p) (lockBit p) (ofBool (l = .locked || l = .leaving && (s.fld (lockState p) (lockBit p) (lockBit p) = 1)))).obj (lockState p) := by
    cases p <;> rfl
  rw [State.fld_of_obj hobj, hw]
  cases l <;> simp_all [ofBool]

theorem lockObj_ne_lockState (p q : Port) : lockObj p ≠ lockState q := by cases p <;> cases q <;> decide

/-- A lock object set to a flag reads it back. -/
theorem State.obj_setObj_lockObj (s : State) (p : Port) {v : Nat} (hv : v < 2 ^ 8) : (s.setObj (lockObj p) v).obj (lockObj p) = v := by
  rw [State.obj_setObj, if_pos rfl]
  exact Obj.fit_of_lt (w := 8) (by cases p <;> decide) hv

theorem State.portUp_congr {s t : State} (p : Port) (h : Only [] [lockObj p] s t) : t.portUp p = s.portUp p := by
  obtain ⟨hp, -⟩ := h
  have haon : t.aon = s.aon := hp .aon (by simp)
  have hpwr : t.pwr = s.pwr := hp .pwr (by simp)
  have hsp : t.sp = s.sp := hp .sp (by simp)
  have hstk : t.stk = s.stk := hp .stk (by simp)
  cases p <;> simp only [State.portUp, State.hSide, State.sSide, State.linkCore, State.poweredDom, haon, hpwr, hsp, hstk]

/-- The first byte of a PORT event names the port. -/
theorem portEvent_byte (p : Port) (b : Byte) : valAt (slice [b8 (portCode p), b] 0 16) 0 1 = portCode p := by
  cases p <;> simp [valAt, slice, ofBytes, b8, portCode, zeros]

/-! ### What the measurement shows (R27) -/

/-- The Relay Port shows in PKT_RELAY_STATE that its clock runs and whether it is on the grid; the other ports show nothing. -/
def State.showGrid (s : State) (p : Port) (onGrid : Bool) : State :=
  if p = .relay then s.relayClock.setFld .pktRelayState 1 1 (ofBool onGrid) else s

theorem only_relayClock (s : State) : Only [] [.pktRelayState] s s.relayClock := only_setFld s _ 0 0 1

theorem State.relayClock_bit (s : State) : s.relayClock.fld .pktRelayState 0 0 = 1 :=
  s.fld_setFld_same 1 (lockState_word .relay) (by decide) le_rfl

theorem only_showGrid (s : State) (p : Port) (onGrid : Bool) : Only [] [lockState p] s (s.showGrid p onGrid) := by
  unfold State.showGrid
  split
  · rename_i hp
    subst hp
    exact ((only_relayClock s).trans (only_setFld _ _ 1 1 (ofBool onGrid))).mono (by simp) (by simp [lockState])
  · exact Only.refl s

theorem State.showGrid_relay (s : State) (onGrid : Bool) : (s.showGrid .relay onGrid).fld .pktRelayState 1 0 = if onGrid then 3 else 1 := by
  have h1 : (s.showGrid .relay onGrid).fld .pktRelayState 1 1 = ofBool onGrid % 2 ^ 1 :=
    s.relayClock.fld_setFld_same _ (lockState_word .relay) (by decide) le_rfl
  have h0 : (s.showGrid .relay onGrid).fld .pktRelayState 0 0 = 1 :=
    (s.relayClock.fld_setFld_disjoint _ _ le_rfl (by decide)).trans s.relayClock_bit
  unfold State.fld at h0 h1 ⊢
  rw [field_one_zero, h0, h1]
  cases onGrid <;> rfl

/-- Lock moves no field of a port's state object but the locked bit. -/
theorem State.setLock_fld_low (s : State) (p : Port) (l : LockPhase) : (s.setLock p l).fld (lockState p) 1 0 = s.fld (lockState p) 1 0 := by
  cases p <;> exact s.fld_setFld_disjoint _ _ le_rfl (by decide)

/-! ### The commands of the lock -/

/-- What PORT_LOCK_SET does at the next tick (R27). -/
def State.settleLock (s : State) (p : Port) : State :=
  match s.lockPhase p with
  | .measured => (s.setLock p .locked).releaseCredits
  | .failed => ((s.setLock p .lost).releaseCredits).raise 0x40 1 (some (lockState p)) [b8 (portCode p), b8 0]
  | _ => s

section
variable {s : State} {p : Port}

theorem exec_portLockSet : exec (.portLockSet p) s = s.run fun s => s.settleLock p := rfl

theorem exec_portLockMeasure (onGrid moved : Bool) : exec (.portLockMeasure p onGrid moved) s =
    s.run fun s => s.whenOk (s.portUp p && s.lockPhase p = .draining && s.portEmpty p) fun s =>
      (s.showGrid p onGrid).setLock p (if onGrid && !moved then .measured else .failed) := rfl

theorem exec_portLockCheck (moved : Bool) : exec (.portLockCheck p moved) s =
    s.run fun s => s.whenOk (s.lockPhase p = .locked && moved) fun s =>
      (s.setLock p .lost).raise 0x40 1 (some (lockState p)) [b8 (portCode p), b8 1] := rfl

theorem exec_portLockExit : exec (.portLockExit p) s =
    s.run fun s => s.whenOk (s.lockPhase p = .leaving) fun s => s.setLock p .off := rfl

/-- PORT_LOCK_ENABLE (R27). -/
theorem portLockEnable_drains {r : Requester} (up : s.aon.up = true) (heard : s.heard r = true) (hup : s.portUp p = true)
    (hobj : s.obj (lockObj p) = 0) : Ends (.portLockEnable r p) s fun t =>
      t.lockPhase p = .draining ∧ (t.lockPhase p).pauses = true ∧ t.obj (lockObj p) = 1 ∧ t.outbox = s.outbox ++ [.reply 0 0] ∧
      Only [.sp, .rl, .stk, .outbox] [lockObj p, lockState p] s t := by
  have hw := only_setObj s (lockObj p) 1
  have hl := only_setLock (s.setObj (lockObj p) 1) p .draining
  have hr := only_reply ((s.setObj (lockObj p) 1).setLock p .draining) stOk
  have henter : s.enableLock p = (s.setObj (lockObj p) 1).setLock p .draining := by
    simp [State.enableLock, State.portUp_congr p hw, hup, hobj]
  have hphase := hr.lockPhase p (by simp)
  rw [State.lockPhase_setLock] at hphase
  have honly := ((hw.trans hl).trans hr).mono (qs := [.sp, .rl, .stk, .outbox]) (xs := [lockObj p, lockState p]) (by simp) (by simp)
  refine Ends.of_access rfl up heard (congrArg (·.reply stOk) henter) honly (by simp) (by simp)
    ⟨hphase, by rw [hphase]; rfl, ?_, ?_, honly⟩
  · rw [hr.obj (by simp), hl.obj (by simp [lockObj_ne_lockState]), State.obj_setObj_lockObj s p (by decide)]
  · rw [State.reply_outbox, hl.1 .outbox (by simp)]; rfl

/-- PORT_LOCK_MEASURE (R27). -/
theorem portLockMeasure_ends (onGrid moved : Bool) (up : s.aon.up = true) (hup : s.portUp p = true) (hd : s.lockPhase p = .draining)
    (he : s.portEmpty p = true) : Ends (.portLockMeasure p onGrid moved) s fun t =>
      t.lockPhase p = (if onGrid && !moved then .measured else .failed) ∧
      (p = .relay → t.fld .pktRelayState 1 0 = (if onGrid then 3 else 1)) ∧ Only [.sp, .rl, .stk] [lockState p] s t := by
  have honly := ((only_showGrid s p onGrid).trans (only_setLock _ p (if onGrid && !moved then .measured else .failed))).mono
    (qs := [.sp, .rl, .stk]) (xs := [lockState p]) (by simp) (by simp)
  refine Ends.of_run (exec_portLockMeasure onGrid moved) up (State.whenOk_eq (by simp [hup, hd, he])) honly (by simp) (by simp)
    ⟨State.lockPhase_setLock _ p _, ?_, honly⟩
  rintro rfl
  exact (State.setLock_fld_low _ .relay _).trans (s.showGrid_relay onGrid)

/-- PORT_LOCK_SET after a good measurement (R27). -/
theorem portLockSet_measured (up : s.aon.up = true) (h : s.lockPhase p = .measured) : Ends (.portLockSet p) s fun t =>
      t.lockPhase p = .locked ∧ t.fld (lockState p) (lockBit p) (lockBit p) = 1 ∧ Only [.sp, .rl, .stk, .outbox] [lockState p] s t := by
  have hc := only_releaseCredits (s.setLock p .locked)
  have honly := ((only_setLock s p .locked).trans hc).mono (qs := [.sp, .rl, .stk, .outbox]) (xs := [lockState p]) (by simp) (by simp)
  refine Ends.of_run (t := (s.setLock p .locked).releaseCredits) exec_portLockSet up (by simp only [State.settleLock, h]) honly (by simp) (by simp) ⟨?_, ?_, honly⟩
  · rw [State.releaseCredits_lockPhase, State.lockPhase_setLock]
  · rw [State.fld_of_obj (hc.obj (by simp)), State.setLock_bit s p (by decide)]; rfl

/-- What a port that loses its lock with an event ends in, whatever u does besides (R27, R28). -/
theorem lostLock_ends {u t : State} {b : Byte} (hu : Only [.sp, .outbox] [] (s.setLock p .lost) u) (hphase : u.lockPhase p = .lost)
    (ht : u.raise 0x40 1 (some (lockState p)) [b8 (portCode p), b] = t) :
    t.lockPhase p = .lost ∧ t.fld (lockState p) (lockBit p) (lockBit p) = 0 ∧ (s.eventRoom = true → LastEvent t 0x40 1 (portCode p)) ∧
      Only [.sp, .rl, .stk, .mgt, .outbox] [lockState p, .mgtEvtMode, .mgtEvtDropped] s t := by
  subst ht
  have hr := only_raise u 0x40 1 (some (lockState p)) [b8 (portCode p), b]
  have hsu := (only_setLock s p .lost).trans hu
  have hbit := State.setLock_bit s p (l := .lost) (by decide)
  refine ⟨(hr.lockPhase p (by simp [eventParts])).trans hphase, ?_, fun room => ?_, (hsu.trans hr).mono ?_ ?_⟩
  · rw [State.fld_of_obj (hr.obj (by cases p <;> decide)), State.fld_of_obj (hu.obj (by simp)), hbit]; rfl
  · have hroom : u.eventRoom = true :=
      (hsu.eventRoom (by simp) (by simp) (by cases p <;> decide) (by cases p <;> decide) (by cases p <;> decide)).trans room
    have hlast := State.raise_lastEvent 0x40 1 (some (lockState p)) [b8 (portCode p), b] hroom
    rwa [portEvent_byte] at hlast
  · simp [eventParts]
  · simp [eventObjs]

/-- PORT_LOCK_SET after a measurement that failed (R27). -/
theorem portLockSet_failed (up : s.aon.up = true) (h : s.lockPhase p = .failed) : Ends (.portLockSet p) s fun t =>
      t.lockPhase p = .lost ∧ t.fld (lockState p) (lockBit p) (lockBit p) = 0 ∧ (s.eventRoom = true → LastEvent t 0x40 1 (portCode p)) ∧
      Only [.sp, .rl, .stk, .mgt, .outbox] [lockState p, .mgtEvtMode, .mgtEvtDropped] s t := by
  obtain ⟨hphase, hbit, hlast, honly⟩ := lostLock_ends (s := s) (p := p) (b := b8 0) (only_releaseCredits _)
    ((State.releaseCredits_lockPhase _ p).trans (State.lockPhase_setLock s p .lost)) rfl
  exact Ends.of_run exec_portLockSet up (by simp only [State.settleLock, h]) honly (by simp) (by simp) ⟨hphase, hbit, hlast, honly⟩

/-- PORT_LOCK_CHECK that finds the phase moved (R28). -/
theorem portLockCheck_moved (up : s.aon.up = true) (h : s.lockPhase p = .locked) : Ends (.portLockCheck p true) s fun t =>
      t.lockPhase p = .lost ∧ t.fld (lockState p) (lockBit p) (lockBit p) = 0 ∧ (s.eventRoom = true → LastEvent t 0x40 1 (portCode p)) ∧
      Only [.sp, .rl, .stk, .mgt, .outbox] [lockState p, .mgtEvtMode, .mgtEvtDropped] s t := by
  obtain ⟨hphase, hbit, hlast, honly⟩ := lostLock_ends (s := s) (p := p) (b := b8 1) (Only.refl _) (State.lockPhase_setLock s p .lost) rfl
  exact Ends.of_run (exec_portLockCheck true) up (State.whenOk_eq (by simp [h])) honly (by simp) (by simp) ⟨hphase, hbit, hlast, honly⟩

/-- PORT_LOCK_CHECK that finds the phase in place (R28). -/
theorem portLockCheck_kept : exec (.portLockCheck p false) s = .next s :=
  (exec_portLockCheck false).trans (State.run_eq_self (by simp))

/-- PORT_LOCK_DISABLE of a port that is not off (R29). -/
theorem portLockDisable_leaves {r : Requester} (up : s.aon.up = true) (heard : s.heard r = true) (h : s.lockPhase p ≠ .off) :
    Ends (.portLockDisable r p) s fun t =>
      t.lockPhase p = .leaving ∧ (t.lockPhase p).pauses = false ∧ t.obj (lockObj p) = 0 ∧ t.outbox.getLast? = some (.reply 0 0) ∧
      Only [.sp, .rl, .stk, .outbox] [lockObj p, lockState p] s t := by
  have hw := only_setObj s (lockObj p) 0
  have hl := only_setLock (s.setObj (lockObj p) 0) p .leaving
  have hc := only_releaseCredits ((s.setObj (lockObj p) 0).setLock p .leaving)
  have hr := only_reply ((s.setObj (lockObj p) 0).setLock p .leaving).releaseCredits stOk
  have hoff : (s.setObj (lockObj p) 0).lockPhase p ≠ .off := by rwa [hw.lockPhase p (by simp)]
  have hleave : s.disableLock p = ((s.setObj (lockObj p) 0).setLock p .leaving).releaseCredits := if_neg hoff
  have hphase := hr.lockPhase p (by simp)
  rw [State.releaseCredits_lockPhase, State.lockPhase_setLock] at hphase
  have honly := (((hw.trans hl).trans hc).trans hr).mono (qs := [.sp, .rl, .stk, .outbox]) (xs := [lockObj p, lockState p])
    (by simp) (by simp)
  refine Ends.of_access rfl up heard (congrArg (·.reply stOk) hleave) honly (by simp) (by simp)
    ⟨hphase, by rw [hphase]; rfl, ?_, by rw [State.reply_outbox, List.getLast?_concat]; rfl, honly⟩
  rw [hr.obj (by simp), hc.obj (by simp), hl.obj (by simp [lockObj_ne_lockState]), State.obj_setObj_lockObj s p (by decide)]

/-- PORT_LOCK_EXIT (R29). -/
theorem portLockExit_off (up : s.aon.up = true) (h : s.lockPhase p = .leaving) : Ends (.portLockExit p) s fun t =>
      t.lockPhase p = .off ∧ t.fld (lockState p) (lockBit p) (lockBit p) = 0 ∧ Only [.sp, .rl, .stk] [lockState p] s t := by
  have honly := only_setLock s p .off
  exact Ends.of_run exec_portLockExit up (State.whenOk_eq (by simp [h])) honly (by simp) (by simp)
    ⟨State.lockPhase_setLock s p .off, State.setLock_bit s p (by decide), honly⟩

end

/-- Settles O13, command by command. -/
theorem portLockSequence : Obligations.PortLockSequence := by
  unfold Obligations.PortLockSequence
  intro p s up
  exact ⟨fun _ heard => portLockEnable_drains up heard, fun g m => portLockMeasure_ends g m up, portLockSet_measured up,
    portLockSet_failed up, portLockCheck_moved up, fun _ => portLockCheck_kept, fun _ heard => portLockDisable_leaves up heard,
    portLockExit_off up⟩

end Sys2Proof.Machine
end

section
/-! The Stream Port's ingress (02, R31 and R32): O14 fails where the list of withheld credits has no entry for the VC. -/

namespace Sys2Proof.Machine

/-- The ingress credits of a VC, given out or withheld. -/
def State.creditTotal (s : State) (vc : Nat) : Nat := s.sp.ingCredits.getD vc 0 + s.sp.ingOwed.getD vc 0

theorem exec_streamIngressPacket (sub : Fin 2) (vc : Fin 8) {bytes : List Byte} (poison bad : List Nat) (s : State) (h : bytes ≠ []) :
    exec (.streamIngressPacket sub vc bytes poison bad) s =
      s.run fun s => s.whenOk (s.hSide && s.sp.up) fun s => s.streamIngress vc bytes poison bad := by
  have hok : (!bytes.isEmpty) = true := by simpa using h
  exact congrArg (fun b => s.runIf b "STREAM_INGRESS_PACKET" _) hok

/-- A port in lock entry withholds the credits that it would give back (R27). -/
theorem State.giveCredits_withheld (s : State) {vc n : Nat} (hp : s.sp.lock.pauses = true) (hn : n ≠ 0) :
    (s.giveCredits vc n).sp = { s.sp with ingOwed := s.sp.ingOwed.set vc (s.sp.ingOwed.getD vc 0 + n) } := by
  simp [State.giveCredits, hp, hn]

/-- A packet with a beat that finds no credit takes the credits there are and gives them back (R32). -/
theorem State.streamIngress_noCredit_sp (s : State) {vc : Nat} {bytes : List Byte} (poison bad : List Nat)
    (h : s.sp.ingCredits.getD vc 0 < beatsOf bytes.length) : (s.streamIngress vc bytes poison bad).sp =
      (((s.noteIn .stream (beatsOf bytes.length)).takeCredits vc (s.sp.ingCredits.getD vc 0)).giveCredits vc (s.sp.ingCredits.getD vc 0)).sp := by
  unfold State.streamIngress
  dsimp only
  rw [if_pos h, State.raise_sp, State.count_sp]

/-- In lock entry the credits that a discarded packet took are kept for the VC only where the list of withheld credits has an entry
for it: a short list loses them. -/
theorem State.creditTotal_noCredit_withheld (s : State) {vc : Nat} {bytes : List Byte} (poison bad : List Nat)
    (h : s.sp.ingCredits.getD vc 0 < beatsOf bytes.length) (hp : s.sp.lock.pauses = true) (h0 : s.sp.ingCredits.getD vc 0 ≠ 0) :
    (s.streamIngress vc bytes poison bad).creditTotal vc = if vc < s.sp.ingOwed.length then s.creditTotal vc else 0 := by
  rw [State.creditTotal, State.streamIngress_noCredit_sp s poison bad h,
    State.giveCredits_withheld (State.takeCredits (s.noteIn .stream _) vc _) hp h0]
  have htaken : (s.sp.ingCredits.set vc (s.sp.ingCredits.getD vc 0 - s.sp.ingCredits.getD vc 0)).getD vc 0 = 0 := by
    by_cases hv : vc < s.sp.ingCredits.length <;> simp [List.getD, hv]
  have howed : (s.sp.ingOwed.set vc (s.sp.ingOwed.getD vc 0 + s.sp.ingCredits.getD vc 0)).getD vc 0 =
      if vc < s.sp.ingOwed.length then s.creditTotal vc else 0 := by
    by_cases hv : vc < s.sp.ingOwed.length <;> simp [List.getD, hv, State.creditTotal, Nat.add_comm]
  exact (congrArg₂ (· + ·) htaken howed).trans (Nat.zero_add _)

/-- The Stream Port after STREAM_INGRESS_PACKET on a port that is up. -/
theorem sp_of_exec_streamIngressPacket {sub : Fin 2} {vc : Fin 8} {bytes : List Byte} {poison bad : List Nat} {s t : State}
    (hb : bytes ≠ []) (up : s.aon.up = true) (hport : (s.hSide && s.sp.up) = true)
    (h : exec (.streamIngressPacket sub vc bytes poison bad) s = .next t) : t.sp = (s.streamIngress vc bytes poison bad).sp := by
  rw [exec_streamIngressPacket sub vc poison bad s hb, State.run_on _ _ up, State.whenOk_eq hport] at h
  cases h
  rfl

/-- A Stream Port in lock entry that has given out one credit of VC0, with no list of withheld credits. -/
def noOwedList : State :=
  { State.reset with sp := { State.reset.sp with up := true, lock := .draining, ingCredits := [1], ingOwed := [] } }

/-- A packet that takes two beats. -/
def twoBeats : List Byte := List.replicate 513 0

theorem beatsOf_twoBeats : beatsOf twoBeats.length = 2 := by rw [twoBeats, List.length_replicate]; rfl

theorem twoBeats_ne_nil : twoBeats ≠ [] := fun h => absurd (beatsOf_twoBeats.symm.trans (by rw [h]; rfl)) (by decide : ¬ 2 = 0)

/-- Refutes O14: the statement speaks of every state, also of one whose list of withheld credits has no entry for the VC (at reset it
has eight), and there its clause on the credits of R32 fails. On the port of `noOwedList` a packet of two beats finds one credit; it
is discarded, and the credit it took is neither given out nor withheld: the total of VC0 drops from 1 to 0. With an entry for the VC
that total stays (`State.creditTotal_noCredit_withheld`). -/
theorem not_streamIngress : ¬ Obligations.StreamIngress := by
  unfold Obligations.StreamIngress
  intro h
  have hfew : noOwedList.sp.ingCredits.getD (0 : Fin 8) 0 < beatsOf twoBeats.length := by rw [beatsOf_twoBeats]; decide
  obtain ⟨-, hdiscard, -⟩ := h noOwedList 0 0 twoBeats [] [] rfl twoBeats_ne_nil
  obtain ⟨t, hexec, -, -, -, -, -, htotal, -⟩ := hdiscard (by decide) rfl hfew (by decide)
  have hsp := sp_of_exec_streamIngressPacket twoBeats_ne_nil rfl (by decide) hexec
  have hlost : t.creditTotal (0 : Fin 8) = 0 := by
    have hdrop := State.creditTotal_noCredit_withheld noOwedList [] [] hfew rfl (by decide)
    rw [if_neg (by decide)] at hdrop
    rw [← hdrop, State.creditTotal, hsp, State.creditTotal]
  exact absurd (htotal.symm.trans hlost) (by decide)

end Sys2Proof.Machine
end

section
/-! The Relay Port (02, R42 to R45): O16. -/

namespace Sys2Proof.Machine

/-! ### Routes and the answer to a request (05, R131, R141 to R144) -/

/-- What a route reads. -/
theorem Only.route {ps : List Part} {os : List Obj} {s t : State} (h : Only ps os s t)
    (hp : ∀ p ∈ [Part.tx, .rl, .sp, .pwr], p ∉ ps)
    (ho : ∀ o ∈ [Obj.pktFa, .pktRouteA, .pktRouteB, .pktAdaptBias, .lnkState], o ∉ os) (x : Hdr) : t.route x = s.route x := by
  have part : ∀ p ∈ [Part.tx, .rl, .sp, .pwr], p.same s t := fun p hm => h.1 p (by
    simp only [List.mem_cons, not_or]; exact ⟨by rintro rfl; simp at hm, hp p hm⟩)
  have entry : ∀ o ∈ [Obj.pktFa, .pktRouteA, .pktRouteB, .pktAdaptBias, .lnkState], ∀ e, t.entry o e = s.entry o e :=
    fun o hm e => h.2 o e (ho o hm)
  have htx : t.tx = s.tx := part .tx (by simp)
  have hrl : t.rl = s.rl := part .rl (by simp)
  have hsp : t.sp = s.sp := part .sp (by simp)
  have hpwr : t.pwr = s.pwr := part .pwr (by simp)
  have hlink : t.linkUp = s.linkUp := by
    rw [State.linkUp, State.linkUp, State.obj_eq_entry, State.obj_eq_entry, entry .lnkState (by simp)]
  have hcore : t.linkCore = s.linkCore := by
    rw [State.linkCore, State.linkCore, State.poweredDom, State.poweredDom, State.poweredDom, State.poweredDom, hpwr]
  have hcand : ∀ c, t.candidate c = s.candidate c := fun c => by
    unfold State.candidate
    rw [hlink, hcore, hrl, hsp]
  have hdepth : ∀ e v, t.depth e v = s.depth e v := fun e v => by
    unfold State.depth State.egressQueue State.egressHeld
    rw [htx, hrl, hsp]
  have htable : ∀ e, t.entry (if x.epoch = 0 then .pktRouteA else .pktRouteB) e = s.entry (if x.epoch = 0 then .pktRouteA else .pktRouteB) e :=
    fun e => by split <;> exact entry _ (by simp) e
  have hchoose : t.choose x = s.choose x := by
    unfold State.choose
    simp only [htable, hcand, hdepth, State.obj_eq_entry, entry .pktAdaptBias (by simp)]
    rfl
  rw [State.route, State.route, hchoose, show t.fa = s.fa from entry .pktFa (by simp) 0]

/-- A synthesised answer takes the way of the plain response: a route reads neither STATUS nor SYNTH, OU and LEN. -/
theorem State.route_synthetic (s : State) (h : Hdr) (desc st : Nat) (ou : Bool) (epoch : Nat) :
    s.route (synthetic h desc st ou epoch).hdr = s.route (respHdr h 0 epoch) := by
  unfold synthetic
  dsimp only
  split <;> rfl

theorem synthetic_hdr (h : Hdr) (desc st : Nat) (ou : Bool) (epoch : Nat) :
    (synthetic h desc st ou epoch).hdr.hops = 0 ∧ (synthetic h desc st ou epoch).hdr.epoch = epoch ∧
      (synthetic h desc st ou epoch).hdr.status = st ∧ (synthetic h desc st ou epoch).hdr.dst = h.src ∧
      (synthetic h desc st ou epoch).hdr.tag = h.tag := by
  unfold synthetic
  dsimp only
  split <;> exact ⟨rfl, rfl, rfl, rfl, rfl⟩

/-- A packet that has taken one more hop (R144). -/
def Packet.hopped (p : Packet) : Packet := { p with hdr := { p.hdr with hops := p.hdr.hops + 1 } }

theorem State.respond_by_relay {s : State} {p : Packet} {port : Nat} (hroute : s.route p.hdr = .out .relay port) (hh : p.hdr.hops ≠ 15) :
    s.respond p = s.enqueue .relay port p.hopped := by
  simp only [State.respond, hroute, hh, if_false]
  rfl

theorem only_enqueue_relay (s : State) (port : Nat) (p : Packet) : Only [.rl, .pk] [.tclPortRelay] s (s.enqueue .relay port p) :=
  (((only_pk s _).trans (only_rl _ _)).trans (only_setEntry _ _ _ _)).mono (by simp) (by simp [portObj])

/-- What the way of a response reads. -/
theorem State.repliesBy.after {ps : List Part} {os : List Obj} {s t : State} {h : Hdr} {port : Nat} (hr : s.repliesBy h port)
    (hst : Only ps os s t) (hp : ∀ p ∈ [Part.tx, .rl, .sp, .pwr], p ∉ ps)
    (ho : ∀ o ∈ [Obj.pktFa, .pktRouteA, .pktRouteB, .pktAdaptBias, .lnkState, .redFence, .pktRouteActive], o ∉ os) :
    t.repliesBy h port := by
  obtain ⟨hfa, hfence, hroute⟩ := hr
  have hep : t.epochNow = s.epochNow := congrArg (· % 2) (hst.obj (ho _ (by simp)))
  refine ⟨(hst.obj (ho _ (by simp))).trans_ne hfa, (congrArg (· == 1) (hst.obj (ho _ (by simp)))).trans hfence, ?_⟩
  rw [hep, hst.route hp (fun o hm => ho o (by simp at hm ⊢; tauto))]
  exact hroute

theorem State.answer_eq_enqueue {s : State} {h : Hdr} {port : Nat} (desc st : Nat) (hr : s.repliesBy h port) :
    s.answer h desc st false = s.enqueue .relay port (synthetic h desc st false s.epochNow).hopped := by
  obtain ⟨hfa, hfence, hroute⟩ := hr
  obtain ⟨hhops, hepoch, -⟩ := synthetic_hdr h desc st false s.epochNow
  have hstamp : ∀ p : Packet, p.hdr.epoch = s.epochNow → { p with hdr := { p.hdr with epoch := s.epochNow } } = p := by
    rintro p hp; rw [← hp]
  rw [State.answer, hfence, State.originate, hfence]
  simp only [hfa, hstamp _ hepoch]
  exact State.respond_by_relay ((s.route_synthetic h desc st false s.epochNow).trans hroute) (by omega)

/-- A request that is answered by the relay: its answer joins the relay egress. -/
theorem State.answer_by_relay {s : State} {h : Hdr} {port : Nat} (desc st : Nat) (hr : s.repliesBy h port) :
    Replied s (s.answer h desc st false) h st port ∧ Only [.rl, .pk] [.tclPortRelay] s (s.answer h desc st false) := by
  obtain ⟨-, -, hst, hdst, htag⟩ := synthetic_hdr h desc st false s.epochNow
  rw [State.answer_eq_enqueue desc st hr]
  refine ⟨⟨⟨s.pk.nextId, (synthetic h desc st false s.epochNow).hopped, s.aon.lclk, port⟩, ?_, rfl, hst, hdst, htag, rfl⟩,
    only_enqueue_relay s port _⟩
  exact List.getLast?_concat

/-! ### RELAY_INGRESS_PACKET (R44) -/

/-- A relay transfer has come in: the clock runs, its flits are counted. -/
def State.relayIn (s : State) (n : Nat) : State := s.relayClock.noteIn .relay n

/-- A relay transfer discarded for parity: counted, its credits given back. -/
def State.relayDrop (s : State) (vc n : Nat) : State := ((s.relayIn n).count .pktRelayErrs 1).out (.relayCredit vc n)

/-- A relay transfer taken in. -/
def State.relayKeep (s : State) (vc : Nat) (flits : List (List Byte)) : State :=
  let t := s.relayIn flits.length
  { t with rl := { t.rl with ingress := t.rl.ingress ++ [⟨relayPacket vc flits, vc, flits.length⟩] } }

theorem exec_relayIngressPacket (vc : Fin 8) {flits : List (List Byte)} (bad : List Nat) (s : State) (hne : flits ≠ [])
    (hlen : (flits.all fun f => f.length == 256) = true) : exec (.relayIngressPacket vc flits bad) s =
      s.run fun s => s.whenOk s.linkCore fun s =>
        if bad.any fun i => i < flits.length then
          if !bad.contains 0 && isRequest (relayPacket vc flits).hdr.type then
            (s.relayDrop vc flits.length).answer (relayPacket vc flits).hdr (relayPacket vc flits).descId stMalformed false
          else s.relayDrop vc flits.length
        else s.relayKeep vc flits := by
  have hok : (!flits.isEmpty && flits.all fun f => f.length == 256) = true := by simpa [hne] using hlen
  exact congrArg (fun b => s.runIf b "RELAY_INGRESS_PACKET" _) hok

theorem only_relayIn (s : State) (n : Nat) : Only [] [.pktRelayState, .tclPortRelay] s (s.relayIn n) :=
  (only_relayClock s).trans (only_countWrap _ _ _ _)

theorem State.relayIn_bit (s : State) (n : Nat) : (s.relayIn n).fld .pktRelayState 0 0 = 1 :=
  (State.fld_of_obj ((only_countWrap s.relayClock .tclPortRelay 1 n).obj (by decide)) 0 0).trans s.relayClock_bit

theorem State.relayIn_count (s : State) (n : Nat) : (s.relayIn n).entry .tclPortRelay 1 = (s.entry .tclPortRelay 1 + n) % 2 ^ 64 := by
  rw [← (only_relayClock s).2 .tclPortRelay 1 (by decide)]
  exact State.entry_countWrap_64 n rfl (by decide)

theorem only_relayDrop (s : State) (vc n : Nat) :
    Only [.outbox] [.pktRelayState, .tclPortRelay, .pktRelayErrs] s (s.relayDrop vc n) :=
  ((only_relayIn s n).trans (only_count _ _ 1)).trans (only_out _ _)

theorem only_relayKeep (s : State) (vc : Nat) (flits : List (List Byte)) :
    Only [.rl] [.pktRelayState, .tclPortRelay] s (s.relayKeep vc flits) :=
  (only_relayIn s _).trans (only_rl _ _)

theorem State.relayDrop_errs {s : State} (vc n : Nat) (h : s.obj .pktRelayErrs + 1 < 2 ^ 32) :
    (s.relayDrop vc n).obj .pktRelayErrs = s.obj .pktRelayErrs + 1 := by
  have hin := (only_relayIn s n).obj (o := .pktRelayErrs) (by decide)
  rw [← hin] at h ⊢
  exact State.obj_count_one rfl (by decide) h

theorem State.relayDrop_outbox (s : State) (vc n : Nat) : (s.relayDrop vc n).outbox = s.outbox ++ [.relayCredit vc n] := by
  rw [State.relayDrop, State.out_outbox, State.count_outbox, (only_relayIn s n).1 .outbox (by simp)]

section
variable {s : State} {vc : Fin 8} {flits : List (List Byte)} {bad : List Nat}

/-- A transfer with good parity. -/
theorem relayIngressPacket_good (up : s.aon.up = true) (hcore : s.linkCore = true) (hne : flits ≠ [])
    (hlen : (flits.all fun f => f.length == 256) = true) (hgood : ∀ b ∈ bad, flits.length ≤ b) :
    Ends (.relayIngressPacket vc flits bad) s fun t =>
      t.rl = { s.rl with ingress := s.rl.ingress ++ [⟨relayPacket vc flits, vc, flits.length⟩] } ∧ t.fld .pktRelayState 0 0 = 1 ∧
      t.entry .tclPortRelay 1 = (s.entry .tclPortRelay 1 + flits.length) % 2 ^ 64 ∧ Only [.rl] [.pktRelayState, .tclPortRelay] s t := by
  have hany : (bad.any fun i => i < flits.length) = false := by simpa using hgood
  have honly := only_relayKeep s vc flits
  refine Ends.of_run (t := s.relayKeep vc flits) (exec_relayIngressPacket vc bad s hne hlen) up
    ((State.whenOk_eq hcore).trans (by simp [hany])) honly (by simp) (by simp) ⟨rfl, ?_, ?_, honly⟩
  · exact s.relayIn_bit _
  · exact s.relayIn_count _

/-- A transfer with a flit of bad parity that is answered by nobody: its header flit was bad, or it is no request. -/
theorem relayIngressPacket_dropped (up : s.aon.up = true) (hcore : s.linkCore = true) (hne : flits ≠ [])
    (hlen : (flits.all fun f => f.length == 256) = true) (hbad : ∃ b ∈ bad, b < flits.length) (hcnt : s.obj .pktRelayErrs + 1 < 2 ^ 32)
    (hmute : 0 ∈ bad ∨ isRequest (relayPacket vc flits).hdr.type = false) : Ends (.relayIngressPacket vc flits bad) s fun t =>
      t.obj .pktRelayErrs = s.obj .pktRelayErrs + 1 ∧ t.outbox = s.outbox ++ [.relayCredit vc flits.length] ∧
      Only [.outbox] [.pktRelayState, .tclPortRelay, .pktRelayErrs] s t := by
  have hany : (bad.any fun i => i < flits.length) = true := by simpa using hbad
  have hno : (!bad.contains 0 && isRequest (relayPacket vc flits).hdr.type) = false := by rcases hmute with h | h <;> simp [h]
  have honly := only_relayDrop s vc flits.length
  exact Ends.of_run (exec_relayIngressPacket vc bad s hne hlen) up
    ((State.whenOk_eq hcore).trans ((if_pos hany).trans (if_neg (ne_true_of_eq_false hno)))) honly (by simp) (by simp)
    ⟨State.relayDrop_errs vc _ hcnt, s.relayDrop_outbox vc _, honly⟩

/-- A request with a good header flit and another of bad parity: its sender gets MALFORMED. -/
theorem relayIngressPacket_answered {port : Nat} (up : s.aon.up = true) (hcore : s.linkCore = true) (hne : flits ≠ [])
    (hlen : (flits.all fun f => f.length == 256) = true) (h0 : 0 ∉ bad) (hbad : ∃ b ∈ bad, b < flits.length)
    (hcnt : s.obj .pktRelayErrs + 1 < 2 ^ 32) (hreq : isRequest (relayPacket vc flits).hdr.type = true)
    (hr : s.repliesBy (relayPacket vc flits).hdr port) : Ends (.relayIngressPacket vc flits bad) s fun t =>
      t.obj .pktRelayErrs = s.obj .pktRelayErrs + 1 ∧ Replied s t (relayPacket vc flits).hdr stMalformed port ∧
      t.outbox = s.outbox ++ [.relayCredit vc flits.length] ∧ Only [.rl, .pk, .outbox] [.pktRelayState, .tclPortRelay, .pktRelayErrs] s t := by
  have hany : (bad.any fun i => i < flits.length) = true := by simpa using hbad
  have hyes : (!bad.contains 0 && isRequest (relayPacket vc flits).hdr.type) = true := by simp [h0, hreq]
  have hdrop := only_relayDrop s vc flits.length
  obtain ⟨hreplied, hans⟩ := State.answer_by_relay (relayPacket vc flits).descId stMalformed (hr.after hdrop (by simp) (by simp))
  have honly := (hdrop.trans hans).mono (qs := [.rl, .pk, .outbox]) (xs := [.pktRelayState, .tclPortRelay, .pktRelayErrs]) (by simp) (by simp)
  refine Ends.of_run (exec_relayIngressPacket vc bad s hne hlen) up
    ((State.whenOk_eq hcore).trans ((if_pos hany).trans (if_pos hyes))) honly (by simp) (by simp)
    ⟨?_, ?_, ?_, honly⟩
  · rw [hans.obj (by decide), State.relayDrop_errs vc _ hcnt]
  · obtain ⟨q, hq, hrl, hrest⟩ := hreplied
    exact ⟨q, hq, by rw [hrl, hdrop.1 .rl (by simp)], hrest⟩
  · rw [hans.1 .outbox (by simp), State.relayDrop_outbox]

end

/-! ### The choice among VCs (06, R157, R158) -/

theorem roundRobin_some {base n ptr v : Nat} {ok : Nat → Bool} (hn : 0 < n) (h : roundRobin base n ptr ok = some v) :
    ok v = true ∧ v < base + n := by
  obtain ⟨i, -, rfl⟩ := List.mem_map.1 (List.mem_of_find?_eq_some h)
  exact ⟨List.find?_some h, Nat.add_lt_add_left (Nat.mod_lt _ hn) _⟩

/-- A round robin without a choice has passed over every one of its VCs. -/
theorem roundRobin_none {base n ptr v : Nat} {ok : Nat → Bool} (h : roundRobin base n ptr ok = none) (hlo : base ≤ v) (hhi : v < base + n) :
    ok v = false := by
  have hn : 0 < n := by omega
  have hmod := Nat.mod_lt ptr hn
  have hsum : ptr + (v - base + (n - ptr % n)) = v - base + n * (ptr / n + 1) := by
    have := Nat.div_add_mod ptr n
    rw [Nat.mul_succ]
    omega
  have hat : base + (ptr + (v - base + (n - ptr % n)) % n) % n = v := by
    rw [Nat.add_mod_mod, hsum, Nat.add_mul_mod_self_left, Nat.mod_eq_of_lt (by omega)]
    omega
  have hmem : v ∈ (List.range n).map fun i => base + (ptr + i) % n :=
    List.mem_map.2 ⟨(v - base + (n - ptr % n)) % n, List.mem_range.2 (Nat.mod_lt _ hn), hat⟩
  simpa using List.find?_eq_none.1 h v hmem

/-- With no bucket to heed the choice is VC1, VC2, VC0, then the round robin over VC3 and VC4, then the one over VC5 to VC7. -/
theorem pickVc_eq (elig : Nat → Bool) (rrOps rrBulk : Nat) : pickVc elig (fun _ => true) rrOps rrBulk =
    if elig 1 then some 1 else if elig 2 then some 2 else if elig 0 then some 0
    else (roundRobin 3 2 rrOps elig).or (roundRobin 5 3 rrBulk elig) := by
  simp only [pickVc, Bool.and_true]
  cases roundRobin 3 2 rrOps elig <;> cases roundRobin 5 3 rrBulk elig <;> rfl

theorem pickVc_some {elig : Nat → Bool} {rrOps rrBulk v : Nat} (h : pickVc elig (fun _ => true) rrOps rrBulk = some v) :
    elig v = true ∧ v < 8 ∧ (elig 1 = true → v = 1) ∧ (elig 1 = false → elig 2 = true → v = 2) := by
  rw [pickVc_eq] at h
  split at h
  · rename_i h1; cases h; simp [h1]
  · rename_i h1
    split at h
    · rename_i h2; cases h; simp [h1, h2]
    · rename_i h2
      split at h
      · rename_i h0; cases h; simp [h0, h1, h2]
      · have hv : elig v = true ∧ v < 8 := by
          rcases Option.or_eq_some_iff.1 h with h | ⟨-, h⟩
          · obtain ⟨hok, hlt⟩ := roundRobin_some (by decide) h
            exact ⟨hok, by omega⟩
          · exact roundRobin_some (by decide) h
        exact ⟨hv.1, hv.2, fun h => absurd h h1, fun _ h => absurd h h2⟩

/-- No choice means that no VC is eligible. -/
theorem pickVc_none {elig : Nat → Bool} {rrOps rrBulk : Nat} (h : pickVc elig (fun _ => true) rrOps rrBulk = none) {v : Nat} (hv : v < 8) :
    elig v = false := by
  rw [pickVc_eq] at h
  split_ifs at h with h1 h2 h0
  obtain ⟨hops, hbulk⟩ := Option.or_eq_none_iff.1 h
  have hcases : v = 0 ∨ v = 1 ∨ v = 2 ∨ (3 ≤ v ∧ v < 3 + 2) ∨ (5 ≤ v ∧ v < 5 + 3) := by omega
  rcases hcases with rfl | rfl | rfl | ⟨hlo, hhi⟩ | ⟨hlo, hhi⟩
  · exact eq_false_of_ne_true h0
  · exact eq_false_of_ne_true h1
  · exact eq_false_of_ne_true h2
  · exact roundRobin_none hops hlo hhi
  · exact roundRobin_none hbulk hlo hhi

theorem pickVc_of_no_eligible {elig : Nat → Bool} (rrOps rrBulk : Nat) (h : ∀ v, v < 8 → elig v = false) :
    pickVc elig (fun _ => true) rrOps rrBulk = none := by
  cases hp : pickVc elig (fun _ => true) rrOps rrBulk with
  | none => rfl
  | some v =>
    obtain ⟨hv, hlt, -⟩ := pickVc_some hp
    exact absurd hv (by simp [h v hlt])

theorem pickVc_of_eligible {elig : Nat → Bool} (rrOps rrBulk : Nat) (h : ∃ v, v < 8 ∧ elig v = true) :
    ∃ w, pickVc elig (fun _ => true) rrOps rrBulk = some w := by
  obtain ⟨v, hv, helig⟩ := h
  cases hp : pickVc elig (fun _ => true) rrOps rrBulk with
  | none => exact absurd helig (by simp [pickVc_none hp hv])
  | some w => exact ⟨w, rfl⟩

/-! ### RELAY_EGRESS_START (R42; 05, R151; 06, R158) -/

/-- The head packet of a VC is queued and of that VC. -/
theorem ofVc_head {l : List QPkt} {vc : Nat} {q : QPkt} (h : (ofVc l vc).head? = some q) : q ∈ l ∧ q.pkt.hdr.tc = vc := by
  have hm := List.mem_filter.1 (List.mem_of_head? h)
  exact ⟨hm.1, by simpa using hm.2⟩

/-- A VC that may start has a head packet, and credits for all of its flits. -/
theorem State.relayEligible_head {s : State} {vc : Nat} (h : s.relayEligible vc = true) :
    ∃ q, (ofVc s.rl.egress vc).head? = some q ∧ q.pkt.flits ≤ s.rl.credits.getD vc 0 := by
  unfold State.relayEligible at h
  split at h
  · cases h
  · rename_i q rest heq
    exact ⟨q, by rw [heq]; rfl, by simpa using h⟩

theorem only_noteStart (s : State) (e : Egress) (q : QPkt) : Only [] [.tclQueueSamples, portObj e] s (s.noteStart e q) :=
  (only_setEntry s _ _ _).trans (only_countWrap _ _ _ _)

theorem only_startRelay (s : State) (q : QPkt) : Only [.rl, .outbox] [.tclPortRelay, .tclQueueSamples] s (s.startRelay q) :=
  (((only_rl s _).trans (only_noteStart _ .relay q)).trans (only_out _ _)).mono (by simp) (by simp [portObj])

/-- The VC that is chosen sends its head packet; with no choice nothing starts. -/
def State.serveRelay (s : State) : State :=
  match (pickVc s.relayEligible (fun _ => true) s.rl.rrOps s.rl.rrBulk).bind fun vc => (ofVc s.rl.egress vc).head? with
  | some q => s.startRelay q
  | none => s

theorem State.serveRelay_some {s : State} {vc : Nat} {q : QPkt} (hpick : pickVc s.relayEligible (fun _ => true) s.rl.rrOps s.rl.rrBulk = some vc)
    (hhead : (ofVc s.rl.egress vc).head? = some q) : s.serveRelay = s.startRelay q := by
  simp only [State.serveRelay, hpick, Option.bind_some, hhead]

theorem State.serveRelay_none {s : State} (hpick : pickVc s.relayEligible (fun _ => true) s.rl.rrOps s.rl.rrBulk = none) : s.serveRelay = s := by
  simp only [State.serveRelay, hpick, Option.bind_none]

theorem exec_relayEgressStart (s : State) : exec .relayEgressStart s =
    s.run fun s => s.whenOk (s.linkCore && !s.rl.lock.pauses && !s.eng.takeover) State.serveRelay := rfl

section
variable {s : State}

/-- A VC is covered by its credits: its head packet leaves (R42). -/
theorem relayEgressStart_sends (up : s.aon.up = true) (hcore : s.linkCore = true) (hlock : s.rl.lock.pauses = false)
    (htake : s.eng.takeover = false) (h : ∃ v, v < 8 ∧ s.relayEligible v = true) : Ends .relayEgressStart s fun t =>
      ∃ q ∈ s.rl.egress, (ofVc s.rl.egress q.pkt.hdr.tc).head? = some q ∧ q.pkt.flits ≤ s.rl.credits.getD q.pkt.hdr.tc 0 ∧
        (s.relayEligible 1 = true → q.pkt.hdr.tc = 1) ∧ t.rl.egress = (s.rl.egress.filter fun x => x.id != q.id) ∧
        t.rl.credits = s.rl.credits.set q.pkt.hdr.tc (s.rl.credits.getD q.pkt.hdr.tc 0 - q.pkt.flits) ∧
        t.rl.holds = s.rl.holds ++ [(q.pkt.hdr.epoch, s.aon.lclk)] ∧ t.rl.ingress = s.rl.ingress ∧ t.rl.siblings = s.rl.siblings ∧
        t.outbox = s.outbox ++ [.relay q.port q.pkt.hdr.tc (q.pkt.cut.map fun (x : Cut) => x.relayFlit q.pkt.hdr.tc)] ∧
        Only [.rl, .outbox] [.tclPortRelay, .tclQueueSamples] s t := by
  obtain ⟨vc, hpick⟩ := pickVc_of_eligible s.rl.rrOps s.rl.rrBulk h
  obtain ⟨helig, -, hfirst, -⟩ := pickVc_some hpick
  obtain ⟨q, hhead, hflits⟩ := State.relayEligible_head helig
  obtain ⟨hmem, rfl⟩ := ofVc_head hhead
  have honly := only_startRelay s q
  exact Ends.of_run (exec_relayEgressStart s) up ((State.whenOk_eq (by simp [hcore, hlock, htake])).trans (State.serveRelay_some hpick hhead))
    honly (by simp) (by simp) ⟨q, hmem, hhead, hflits, hfirst, rfl, rfl, rfl, rfl, rfl, rfl, honly⟩

/-- No VC is covered: nothing starts. -/
theorem relayEgressStart_waits (h : ∀ v, v < 8 → s.relayEligible v = false) : exec .relayEgressStart s = .next s := by
  refine (exec_relayEgressStart s).trans (State.run_eq_self ?_)
  simp only [State.whenOk, State.serveRelay_none (pickVc_of_no_eligible _ _ h), ite_self]

/-! ### Credits, siblings and the drain hold -/

theorem exec_relayCredit (vc : Fin 8) (n : Fin 16) (s : State) : exec (.relayCredit vc n) s = s.run fun s => s.whenOk s.linkCore fun s =>
    { s with rl := { s.rl with credits := s.rl.credits.set vc (min 1023 (s.rl.credits.getD vc 0 + n)) } } := rfl

theorem exec_rlIUpChange (bits : Nat) (s : State) : exec (.rlIUpChange bits) s = s.run fun s =>
    ({ s with rl := { s.rl with siblings := bits % 2 ^ 64 } } : State).relayClock := rfl

theorem exec_drainRelayHoldEnd (s : State) : exec .drainRelayHoldEnd s = s.run fun s =>
    { s with rl := { s.rl with holds := s.rl.holds.drop 1 } } := rfl

/-- RELAY_CREDIT (R42). -/
theorem relayCredit_adds (vc : Fin 8) (n : Fin 16) (up : s.aon.up = true) (hcore : s.linkCore = true) : exec (.relayCredit vc n) s =
      .next { s with rl := { s.rl with credits := s.rl.credits.set vc (min 1023 (s.rl.credits.getD vc 0 + n)) } } := by
  rw [exec_relayCredit, State.run_on s _ up, State.whenOk_eq hcore]

/-- RL_I_UP_CHANGE (R42). -/
theorem rlIUpChange_sets (bits : Nat) (up : s.aon.up = true) : Ends (.rlIUpChange bits) s fun t =>
      t.rl = { s.rl with siblings := bits % 2 ^ 64 } ∧ t.fld .pktRelayState 0 0 = 1 ∧ t.fld .pktRelayState 2 1 = s.fld .pktRelayState 2 1 ∧
      Only [.rl] [.pktRelayState] s t := by
  have honly := (only_rl s { s.rl with siblings := bits % 2 ^ 64 }).trans (only_relayClock _)
  exact Ends.of_run (exec_rlIUpChange bits s) up rfl honly (by simp) (by simp)
    ⟨rfl, State.relayClock_bit _, State.fld_setFld_disjoint _ _ _ le_rfl (by decide), honly⟩

/-- DRAIN_RELAY_HOLD_END (05, R151). -/
theorem drainRelayHoldEnd_drops {e stamp : Nat} {rest : List (Nat × Nat)} (up : s.aon.up = true) (h : s.rl.holds = (e, stamp) :: rest) :
    Ends .drainRelayHoldEnd s fun t => t = { s with rl := { s.rl with holds := rest } } ∧ t.drain e + 1 = s.drain e := by
  refine Ends.of_run (t := { s with rl := { s.rl with holds := rest } }) (exec_drainRelayHoldEnd s) up (by rw [h]; rfl)
    (only_rl s _) (by simp) (by simp) ⟨rfl, ?_⟩
  have hheld : ({ s with rl := { s.rl with holds := rest } } : State).held = s.held := rfl
  simp only [State.drain, hheld, h, List.filter_cons, beq_self_eq_true, if_true, List.length_cons]
  omega

end

/-- Settles O16, command by command. -/
theorem relayTransfers : Obligations.RelayTransfers := by
  unfold Obligations.RelayTransfers
  intro s up hcore
  refine ⟨fun vc flits bad hne hlen =>
      ⟨relayIngressPacket_good up hcore hne hlen, fun h0 hcnt => ?_, fun h0 hbad hcnt => ⟨fun hreq port _ hr => ?_, fun hreq => ?_⟩⟩,
    fun vc n => relayCredit_adds vc n up hcore, relayEgressStart_sends up hcore, relayEgressStart_waits, fun bits => rlIUpChange_sets bits up,
    fun e stamp rest h => drainRelayHoldEnd_drops up h⟩
  · exact relayIngressPacket_dropped up hcore hne hlen ⟨0, h0, List.length_pos_iff.2 hne⟩ hcnt (.inl h0)
  · exact relayIngressPacket_answered up hcore hne hlen h0 hbad hcnt hreq hr
  · exact relayIngressPacket_dropped up hcore hne hlen hbad hcnt (.inr hreq)

end Sys2Proof.Machine
end

section
/-! The repaired lane map (03, R59 and R68): O27. -/

namespace Sys2Proof.Machine

/-! ### The width of a number of good lanes (R59) -/

/-- The widths in the order of the search and in the order of the statement. -/
theorem mem_widths {x : Nat} : x ∈ [64, 48, 32, 16] ↔ x ∈ [16, 32, 48, 64] :=
  (List.reverse_perm [16, 32, 48, 64]).mem_iff

theorem widthFor_cases (limit n : Nat) :
    widthFor limit n = 0 ∨ widthFor limit n ∈ [16, 32, 48, 64] ∧ widthFor limit n ≤ limit ∧ widthFor limit n ≤ n := by
  unfold widthFor
  cases h : [64, 48, 32, 16].find? fun w => w ≤ limit && w ≤ n with
  | none => exact .inl rfl
  | some w =>
    have hmem := List.mem_of_find?_eq_some h
    have hfits := List.find?_some h
    simp only [Bool.and_eq_true, decide_eq_true_eq] at hfits
    exact .inr ⟨mem_widths.1 hmem, hfits⟩

theorem le_widthFor {limit n x : Nat} (hx : x ∈ [16, 32, 48, 64]) (hlimit : x ≤ limit) (hn : x ≤ n) : x ≤ widthFor limit n := by
  unfold widthFor
  cases h : [64, 48, 32, 16].find? fun w => w ≤ limit && w ≤ n with
  | none => simpa [hlimit, hn] using List.find?_eq_none.1 h x (mem_widths.2 hx)
  | some w =>
    obtain ⟨-, as, bs, hlist, hbefore⟩ := List.find?_eq_some_iff_append.1 h
    have hsorted : (as ++ w :: bs).Pairwise (· > ·) := hlist ▸ by decide
    have hmem : x ∈ as ++ w :: bs := hlist ▸ mem_widths.2 hx
    rcases List.mem_append.1 hmem with has | hbs
    · exact absurd (hbefore x has) (by simp [hlimit, hn])
    · rcases List.mem_cons.1 hbs with rfl | hbs
      · exact le_rfl
      · exact (List.rel_of_pairwise_cons (List.pairwise_append.1 hsorted).2.1 hbs).le

/-- The width of a repaired map: the limit or a present width within 15 of the good lanes does not hold it back. -/
theorem min_widthFor_eq_right {limit width n : Nat} (hwidth : width ∈ [16, 32, 48, 64]) (h : n < width + 16 ∨ width = limit) :
    min width (widthFor limit n) = widthFor limit n := by
  refine min_eq_right ?_
  rcases widthFor_cases limit n with h0 | ⟨hmem, hlimit, hn⟩
  · omega
  · simp only [List.mem_cons, List.not_mem_nil, or_false] at hwidth hmem
    omega

/-! ### Failed lanes placed on spares, in ascending order of the logical lanes -/

/-- The physical lanes `ts` with each failed one replaced by the next of the spares. -/
def placeLanes (failed : Nat) : List Nat → List Nat → List Nat
  | [], _ => []
  | t :: ts, spares =>
    if failed.testBit t then spares.headD 255 :: placeLanes failed ts (spares.drop 1) else t :: placeLanes failed ts spares

/-- The spare lanes of a map that keeps the good ones of `ts`. -/
def spareLanes (failed : Nat) (ts : List Nat) : List Nat :=
  (List.range 72).filter fun t => !failed.testBit t && !(ts.filter fun x => !failed.testBit x).contains t

/-- One step of the model's placement: what is placed so far and the spares left. -/
def placeStep (failed : Nat) (acc : List Nat × List Nat) (t : Nat) : List Nat × List Nat :=
  if failed.testBit t then (acc.1 ++ [acc.2.headD 255], acc.2.drop 1) else (acc.1 ++ [t], acc.2)

theorem foldl_placeStep (failed : Nat) (ts placed spares : List Nat) :
    (ts.foldl (placeStep failed) (placed, spares)).1 = placed ++ placeLanes failed ts spares := by
  induction ts generalizing placed spares with
  | nil => simp [placeLanes]
  | cons t ts ih =>
    cases ht : failed.testBit t <;> simp [placeStep, placeLanes, ht, ih]

theorem newMap_eq (limit width failed : Nat) (map : List Nat) :
    let w := min width (widthFor limit (72 - popcount 72 failed))
    newMap limit width failed map = (w, placeLanes failed (map.take w) (spareLanes failed (map.take w)) ++ List.replicate (64 - w) 255) := by
  intro w
  exact congrArg (fun l => (w, l ++ List.replicate (64 - w) 255)) (foldl_placeStep failed (map.take w) [] _)

section
variable {failed : Nat} {ts spares : List Nat}

@[simp] theorem placeLanes_length : (placeLanes failed ts spares).length = ts.length := by
  induction ts generalizing spares with
  | nil => rfl
  | cons t ts ih => cases ht : failed.testBit t <;> simp [placeLanes, ht, ih]

/-- With enough spares, the lanes placed are the good ones of `ts` and the lowest spares. -/
theorem placeLanes_perm (h : ts.countP failed.testBit ≤ spares.length) :
    (placeLanes failed ts spares).Perm ((ts.filter fun t => !failed.testBit t) ++ spares.take (ts.countP failed.testBit)) := by
  induction ts generalizing spares with
  | nil => simp [placeLanes]
  | cons t ts ih =>
    cases ht : failed.testBit t with
    | false =>
      rw [List.countP_cons_of_neg (by simp [ht])] at h ⊢
      simpa [placeLanes, ht] using ih h
    | true =>
      rw [List.countP_cons_of_pos ht] at h ⊢
      cases spares with
      | nil => simp at h
      | cons q spares =>
        have := ih (spares := spares) (by simpa using h)
        simpa [placeLanes, ht] using (this.cons q).trans List.perm_middle.symm

theorem placeLanes_good {l : Nat} (hl : l < ts.length) (hgood : failed.testBit (ts.getD l 255) = false) :
    (placeLanes failed ts spares).getD l 255 = ts.getD l 255 := by
  induction ts generalizing l spares with
  | nil => simp at hl
  | cons t ts ih =>
    cases l with
    | zero => simp [placeLanes, show failed.testBit t = false by simpa using hgood]
    | succ l => cases ht : failed.testBit t <;> simpa [placeLanes, ht] using ih (by simpa using hl) (by simpa using hgood)

/-- The spares are used from the lowest: one below the lane that a failed lane goes to carries an earlier logical lane. -/
theorem placeLanes_failed {l : Nat} (hsorted : spares.Pairwise (· < ·)) (henough : ts.countP failed.testBit ≤ spares.length)
    (hl : l < ts.length) (hfailed : failed.testBit (ts.getD l 255) = true) :
    (placeLanes failed ts spares).getD l 255 ∈ spares ∧ ∀ q ∈ spares, q < (placeLanes failed ts spares).getD l 255 →
      ∃ k, k < l ∧ (placeLanes failed ts spares).getD k 255 = q := by
  induction ts generalizing l spares with
  | nil => simp at hl
  | cons t ts ih =>
    cases ht : failed.testBit t with
    | false =>
      cases l with
      | zero => simp [ht] at hfailed
      | succ l =>
        rw [List.countP_cons_of_neg (by simp [ht])] at henough
        obtain ⟨hmem, hbelow⟩ := ih hsorted henough (by simpa using hl) (by simpa using hfailed)
        simp only [placeLanes, ht, Bool.false_eq_true, if_false, List.getD_cons_succ]
        refine ⟨hmem, fun q hq hlt => ?_⟩
        obtain ⟨k, hk, hkq⟩ := hbelow q hq hlt
        exact ⟨k + 1, by omega, by simpa using hkq⟩
    | true =>
      rw [List.countP_cons_of_pos ht] at henough
      cases spares with
      | nil => simp at henough
      | cons p spares =>
        obtain ⟨hhead, hrest⟩ := List.pairwise_cons.1 hsorted
        simp only [placeLanes, ht, if_true, List.headD_cons, List.drop_one, List.tail_cons]
        cases l with
        | zero =>
          refine ⟨by simp, fun q hq hlt => ?_⟩
          rcases List.mem_cons.1 hq with rfl | hq
          · simp at hlt
          · exact absurd (hhead q hq) (by simpa using hlt.le)
        | succ l =>
          obtain ⟨hmem, hbelow⟩ := ih hrest (by simpa using henough) (by simpa using hl) (by simpa using hfailed)
          refine ⟨by simpa using .inr hmem, fun q hq hlt => ?_⟩
          rcases List.mem_cons.1 hq with rfl | hq
          · exact ⟨0, by omega, by simp⟩
          · obtain ⟨k, hk, hkq⟩ := hbelow q hq (by simpa using hlt)
            exact ⟨k + 1, by omega, by simpa using hkq⟩

end

/-! ### The spares of a map, and its lanes placed on them -/

section
variable {failed : Nat} {ts : List Nat}

theorem mem_spareLanes {q : Nat} : q ∈ spareLanes failed ts ↔ q < 72 ∧ failed.testBit q = false ∧ q ∉ ts := by
  simp only [spareLanes, List.mem_filter, List.mem_range, Bool.and_eq_true, Bool.not_eq_true', List.contains_eq_mem, decide_eq_false_iff_not]
  tauto

theorem spareLanes_sorted : (spareLanes failed ts).Pairwise (· < ·) := List.pairwise_lt_range.filter _

/-- A map no wider than the number of good lanes leaves enough spares for its failed ones. -/
theorem countP_failed_le_spareLanes (h : ts.length ≤ 72 - popcount 72 failed) :
    ts.countP failed.testBit ≤ (spareLanes failed ts).length := by
  have hlanes : 72 = popcount 72 failed + ((List.range 72).filter fun t => !failed.testBit t).length := by
    simpa [popcount] using (List.range 72).length_eq_length_filter_add failed.testBit
  have hmap := ts.length_eq_length_filter_add failed.testBit
  have hcover : ((List.range 72).filter fun t => !failed.testBit t) ⊆ (ts.filter fun t => !failed.testBit t) ++ spareLanes failed ts := by
    intro t ht
    simp only [List.mem_filter, List.mem_range, Bool.not_eq_true'] at ht
    simp only [List.mem_append, List.mem_filter, Bool.not_eq_true', mem_spareLanes]
    tauto
  have hle := (List.subperm_of_subset (List.nodup_range.filter _) hcover).length_le
  rw [List.length_append] at hle
  rw [List.countP_eq_length_filter]
  omega

theorem placeLanes_spareLanes_nodup (hts : ts.Nodup) (h : ts.length ≤ 72 - popcount 72 failed) :
    (placeLanes failed ts (spareLanes failed ts)).Nodup := by
  refine (placeLanes_perm (countP_failed_le_spareLanes h)).nodup_iff.2 (List.nodup_append'.2 ⟨hts.filter _, ?_, fun t hkept hspare => ?_⟩)
  · exact (spareLanes_sorted.imp Nat.ne_of_lt).sublist (List.take_sublist _ _)
  · exact (mem_spareLanes.1 (List.mem_of_mem_take hspare)).2.2 (List.mem_of_mem_filter hkept)

/-- R68, steps 3 and 4, for one logical lane. -/
theorem placeLanes_spareLanes_lane {l : Nat} (hrange : ∀ t ∈ ts, t < 72) (h : ts.length ≤ 72 - popcount 72 failed) (hl : l < ts.length) :
    let m := placeLanes failed ts (spareLanes failed ts)
    m.getD l 255 < 72 ∧ failed.testBit (m.getD l 255) = false ∧ (failed.testBit (ts.getD l 255) = false → m.getD l 255 = ts.getD l 255) ∧
      (failed.testBit (ts.getD l 255) = true → m.getD l 255 ∉ ts ∧
        ∀ q, q < m.getD l 255 → failed.testBit q = false → q ∉ ts → ∃ k, k < l ∧ m.getD k 255 = q) := by
  intro m
  cases ht : failed.testBit (ts.getD l 255) with
  | false =>
    have hkeeps : m.getD l 255 = ts.getD l 255 := placeLanes_good hl ht
    have hmem : ts.getD l 255 ∈ ts := by rw [List.getD_eq_getElem _ _ hl]; exact List.getElem_mem hl
    exact ⟨hkeeps ▸ hrange _ hmem, hkeeps ▸ ht, fun _ => hkeeps, fun hf => absurd hf (by simp)⟩
  | true =>
    obtain ⟨hmem, hbelow⟩ := placeLanes_failed spareLanes_sorted (countP_failed_le_spareLanes h) hl ht
    obtain ⟨hlt, hgood, hfree⟩ := mem_spareLanes.1 hmem
    exact ⟨hlt, hgood, fun hf => absurd hf (by simp), fun _ =>
      ⟨hfree, fun q hq hqgood hqfree => hbelow q (mem_spareLanes.2 ⟨hq.trans hlt, hqgood, hqfree⟩) hq⟩⟩

end

/-- Settles O27: the map is `placeLanes` on its spares, at the width of R59, and `placeLanes_spareLanes_lane` says where each lane goes. -/
theorem repairMapUsesGoodLanes : Obligations.RepairMapUsesGoodLanes := by
  unfold Obligations.RepairMapUsesGoodLanes
  intro limit width failed map hwidth _ hlen hrange hnodup _ hfits w m hnew
  obtain ⟨hw, rfl⟩ := Prod.mk.inj ((newMap_eq limit width failed map).symm.trans hnew)
  have hmin := hw.symm.trans (min_widthFor_eq_right hwidth hfits)
  have hww : w ≤ width := hw ▸ min_le_left _ _
  have h64 : w ≤ 64 := hww.trans (by simp only [List.mem_cons, List.not_mem_nil, or_false] at hwidth; omega)
  have hcases := hmin ▸ widthFor_cases limit (72 - popcount 72 failed)
  have hgood : w ≤ 72 - popcount 72 failed := by omega
  have hts : (map.take w).length = w := by rw [List.length_take, hlen, min_eq_left h64]
  have hsub : (map.take w).Sublist (map.take width) := List.take_sublist_take_left hww
  have hlanes : ∀ t ∈ map.take w, t < 72 := fun t ht => by simpa using List.all_eq_true.1 hrange t (hsub.subset ht)
  rw [hw]
  set placed := placeLanes failed (map.take w) (spareLanes failed (map.take w))
  have hlength : placed.length = w := placeLanes_length.trans hts
  refine ⟨by simp [hlength, h64], ?_, fun l hl hl64 => ?_, hcases, fun x hx hxl hxn => hmin ▸ le_widthFor hx hxl hxn, fun l hl => ?_⟩
  · rw [List.take_left' hlength]
    exact placeLanes_spareLanes_nodup (hnodup.sublist hsub) (hts.trans_le hgood)
  · rw [List.getD_append_right _ _ _ _ (hlength.trans_le hl), List.getD_replicate _ (by omega)]
  · have hentry : ∀ k, k < w → (placed ++ List.replicate (64 - w) 255).getD k 255 = placed.getD k 255 := fun k hk =>
      List.getD_append _ _ _ _ (hk.trans_eq hlength.symm)
    have hold : (map.take w).getD l 255 = map.getD l 255 := by simp [List.getD_eq_getElem?_getD, List.getElem?_take_of_lt hl]
    obtain ⟨hlt, hnot, hkeeps, hplaces⟩ := placeLanes_spareLanes_lane hlanes (hts.trans_le hgood) (hl.trans_eq hts.symm)
    rw [hold] at hkeeps hplaces
    rw [hentry l hl]
    refine ⟨hlt, hnot, hkeeps, fun hfailed => ⟨(hplaces hfailed).1, fun q hq hqgood hqfree => ?_⟩⟩
    obtain ⟨k, hk, hkq⟩ := (hplaces hfailed).2 q hq hqgood hqfree
    exact ⟨k, hk, (hentry k (hk.trans hl)).trans hkq⟩

end Sys2Proof.Machine
end

section
/-! The hop limit (05, R144; the completion record of R187): O35. -/

namespace Sys2Proof.Machine

/-! ### Little-endian bytes (R6) -/

@[simp] theorem length_toBytes (n v : Nat) : (toBytes n v).length = n := by
  induction n generalizing v with
  | zero => rfl
  | succ n ih => simp [toBytes, ih]

theorem drop_toBytes (k n v : Nat) : (toBytes n v).drop k = toBytes (n - k) (v / 256 ^ k) := by
  induction k generalizing n v with
  | zero => simp
  | succ k ih =>
    cases n with
    | zero => simp [toBytes]
    | succ n => simp [toBytes, ih, Nat.pow_succ', Nat.div_div_eq_div_mul]

theorem take_toBytes {k n : Nat} (v : Nat) (h : k ≤ n) : (toBytes n v).take k = toBytes k v := by
  induction k generalizing n v with
  | zero => rfl
  | succ k ih =>
    obtain ⟨m, rfl⟩ : ∃ m, n = m + 1 := ⟨n - 1, by omega⟩
    simp [toBytes, ih (v / 256) (Nat.le_of_succ_le_succ h)]

/-- Bytes cut out of a value's bytes are the bytes of the value shifted. -/
theorem slice_toBytes {n off len : Nat} (v : Nat) (h : off + len ≤ n) : slice (toBytes n v) off len = toBytes len (v / 256 ^ off) := by
  simp [slice, drop_toBytes, take_toBytes _ (show len ≤ n - off by omega), zeros]

theorem ofBytes_toBytes (n v : Nat) : ofBytes (toBytes n v) = v % 256 ^ n := by
  induction n generalizing v with
  | zero => simp [toBytes, ofBytes, Nat.mod_one]
  | succ n ih => simp [toBytes, ofBytes, ih, Nat.pow_succ', Nat.mod_mul]

theorem valAt_toBytes {n off len : Nat} (v : Nat) (h : off + len ≤ n) : valAt (toBytes n v) off len = v / 256 ^ off % 256 ^ len := by
  rw [valAt, slice_toBytes v h, ofBytes_toBytes]

theorem toBytes_zero (n : Nat) : toBytes n 0 = zeros n := by
  induction n with
  | zero => rfl
  | succ n ih => simp [toBytes, ih, zeros, List.replicate_succ]

/-! ### A completion in place of the destination (05, R131; 07, R187) -/

/-- The record is zero but for DESC_ID, QUEUE and STATUS. -/
theorem synthRecord_bytes (st queue desc : Nat) :
    (synthRecord st queue desc).length = 64 ∧ valAt (synthRecord st queue desc) 0 2 = desc % 65536 ∧
      valAt (synthRecord st queue desc) 2 1 = queue % 64 ∧ valAt (synthRecord st queue desc) 3 1 = st % 256 ∧
      slice (synthRecord st queue desc) 4 60 = zeros 60 := by
  unfold synthRecord
  have hpad : (desc % 65536 + queue % 64 * 2 ^ 16 + st % 256 * 2 ^ 24) / 256 ^ 4 = 0 := by omega
  refine ⟨length_toBytes _ _, ?_, ?_, ?_, ?_⟩
  · rw [valAt_toBytes _ (by decide)]; omega
  · rw [valAt_toBytes _ (by decide)]; omega
  · rw [valAt_toBytes _ (by decide)]; omega
  · rw [slice_toBytes _ (by decide), hpad, toBytes_zero]

theorem respType_eq_opCpl (t : Nat) : respType t = tOpCpl ↔ t = tSubmit := by
  unfold respType
  split_ifs with h1 h2 h3 h4 <;> simp_all [tRdReq, tWrReq, tRedWr, tSubmit, tRdRsp, tWrCpl, tOpCpl, tErrCpl]

/-- Besides what `synthetic_hdr` says: the answer is marked as synthesised, is a message of one packet, and comes from the
destination that it stands in for. -/
theorem synthetic_message (h : Hdr) (desc st : Nat) (ou : Bool) (epoch : Nat) :
    (synthetic h desc st ou epoch).hdr.type = respType h.type ∧ (synthetic h desc st ou epoch).hdr.src = h.dst ∧
      (synthetic h desc st ou epoch).hdr.synth = true ∧ (synthetic h desc st ou epoch).hdr.last = true ∧
      (synthetic h desc st ou epoch).hdr.msgCount = 1 := by
  unfold synthetic
  dsimp only
  split <;> exact ⟨rfl, rfl, rfl, rfl, rfl⟩

/-- The answer to an OP_SUBMIT carries a record. -/
theorem synthetic_submit {h : Hdr} (desc st : Nat) (ou : Bool) (epoch : Nat) (ht : h.type = tSubmit) :
    (synthetic h desc st ou epoch).hdr.len = 2 ∧ (synthetic h desc st ou epoch).payload = synthRecord st h.aux desc := by
  have htype : (respHdr h st epoch).type = tOpCpl := (respType_eq_opCpl h.type).2 ht
  simp [synthetic, htype]

/-- The answer to any other request is its header alone. -/
theorem synthetic_other {h : Hdr} (desc st : Nat) (ou : Bool) (epoch : Nat) (ht : h.type ≠ tSubmit) :
    (synthetic h desc st ou epoch).hdr.len = 0 ∧ (synthetic h desc st ou epoch).payload = [] := by
  have htype : (respHdr h st epoch).type ≠ tOpCpl := fun h' => ht ((respType_eq_opCpl h.type).1 h')
  have hlen : (respHdr h st epoch).len = 0 := rfl
  simp [synthetic, htype, hlen]

/-! ### A packet leaves the queue of the link or the Relay Port -/

theorem only_rx (s : State) (r : LinkRx) : Only [.rx] [] s { s with rx := r } :=
  ⟨fun p hp => by cases p <;> simp_all [Part.same], fun _ _ _ => rfl⟩

theorem only_updateXoff (s : State) : Only [] [.lnkXoffState] s s.updateXoff := only_setFld s _ _ _ _

section
variable (s : State) {src : Ingress} (p : InPkt) (hsrc : src ≠ .stream)
include hsrc

theorem only_popIngress : Only [.rx, .rl, .outbox] [.lnkXoffState] s (s.popIngress src p) := by
  cases src with
  | stream => exact absurd rfl hsrc
  | link => exact ((only_rx s _).trans (only_updateXoff _)).mono (by simp) (by simp)
  | relay => exact ((only_rl s _).trans (only_out _ _)).mono (by simp) (by simp)

theorem State.ingressOf_popIngress : (s.popIngress src p).ingressOf src = (s.ingressOf src).erase p := by
  cases src with
  | stream => exact absurd rfl hsrc
  | link => exact congrArg LinkRx.queue ((only_updateXoff _).1 .rx (by simp))
  | relay => rfl

theorem State.egress_popIngress : (s.popIngress src p).rl.egress = s.rl.egress := by
  cases src with
  | stream => exact absurd rfl hsrc
  | link => exact congrArg RelayPort.egress ((only_updateXoff _).1 .rl (by simp))
  | relay => rfl

theorem State.fa_popIngress : (s.popIngress src p).fa = s.fa := (only_popIngress s p hsrc).obj (by simp)

theorem State.fenced_popIngress : (s.popIngress src p).fenced = s.fenced :=
  congrArg (· == 1) ((only_popIngress s p hsrc).obj (o := .redFence) (by simp))

/-- A route does not read the queues before the packet engine. -/
theorem State.route_popIngress (h : Hdr) : (s.popIngress src p).route h = s.route h := by
  cases src with
  | stream => exact absurd rfl hsrc
  | link => exact ((only_rx s _).trans (only_updateXoff _)).route (by simp) (by simp) h
  | relay => exact ((only_out { s with rl := { s.rl with ingress := s.rl.ingress.erase p } } _).route (by simp) (by simp) h).trans rfl

end

/-! ### PACKET_TAKE_ON of a packet at the limit -/

/-- What the packet engine does with the oldest packet of a VC at an ingress. -/
def State.takeOn (s : State) (src : Ingress) (vc : Fin 8) : State :=
  match (s.ingressOf src).find? fun x => x.vc == vc.val with
  | none => s
  | some p => if s.waits src p then s else (s.popIngress src p).enter src p

theorem exec_packetTakeOn (src : Ingress) (vc : Fin 8) (s : State) :
    exec (.packetTakeOn src vc) s = s.run fun s => s.whenOk s.linkCore fun s => s.takeOn src vc := rfl

theorem State.takeOn_head {s : State} {src : Ingress} {vc : Fin 8} {p : InPkt}
    (hfind : ((s.ingressOf src).find? fun x => x.vc == vc.val) = some p) (hwaits : s.waits src p = false) :
    s.takeOn src vc = (s.popIngress src p).enter src p := by
  simp [State.takeOn, hfind, hwaits]

/-- A well-formed packet that enters from the link or the Relay Port with no fence up goes where its route says. -/
theorem State.enter_eq_dispatch {s : State} {src : Ingress} {p : InPkt} (hsrc : src ≠ .stream) (hfa : s.fa ≠ 0xFFF)
    (hfenced : s.fenced = false) (hroutes : s.pk.routeFenced = false)
    (hgood : malformed p.pkt p.vc (s.hSide && p.pkt.hdr.dst = s.fa) = false) : s.enter src p = s.dispatch p.pkt (src = .link) := by
  cases src with
  | stream => exact absurd rfl hsrc
  | link => simp [State.enter, hfa, hfenced, hroutes, hgood]
  | relay => simp [State.enter, hfa, hfenced, hroutes, hgood]

/-- A packet at the limit that would go to the link or the Relay Port is counted, and a request is answered (R144). -/
theorem State.dispatch_at_limit {s : State} {p : Packet} {e : Egress} {port : Nat} (fromLink : Bool) (he : e ∈ [Egress.link, .relay])
    (hroute : s.route p.hdr = .out e port) (hhops : p.hdr.hops = 15) : s.dispatch p fromLink =
      if isRequest p.hdr.type then (s.count .pktHopDrops 1).answer p.hdr p.descId stLinkDown false else s.count .pktHopDrops 1 := by
  have he : e = .link ∨ e = .relay := by simpa using he
  rcases he with rfl | rfl <;> simp [State.dispatch, State.forward, State.respond, hroute, hhops]

/-- A packet taken from its queue and discarded at the hop limit. -/
def State.hopDrop (s : State) (src : Ingress) (p : InPkt) : State := (s.popIngress src p).count .pktHopDrops 1

theorem State.ingressOf_congr {s t : State} (src : Ingress) (hsp : t.sp.ingress = s.sp.ingress) (hrx : t.rx = s.rx)
    (hrl : t.rl.ingress = s.rl.ingress) : t.ingressOf src = s.ingressOf src := by
  cases src with
  | stream => exact hsp
  | link => exact congrArg LinkRx.queue hrx
  | relay => exact hrl

section
variable {s : State} {src : Ingress} {p : InPkt} (hsrc : src ≠ .stream)
include hsrc

theorem only_hopDrop : Only [.rx, .rl, .outbox] [.lnkXoffState, .pktHopDrops] s (s.hopDrop src p) :=
  ((only_popIngress s p hsrc).trans (only_count _ _ 1)).mono (by simp) (by simp)

theorem State.hopDrop_counts (hcnt : s.obj .pktHopDrops + 1 < 2 ^ 32) : (s.hopDrop src p).obj .pktHopDrops = s.obj .pktHopDrops + 1 := by
  have hpop := (only_popIngress s p hsrc).obj (o := .pktHopDrops) (by simp)
  rw [← hpop] at hcnt ⊢
  exact State.obj_count_one rfl (by decide) hcnt

theorem State.ingressOf_hopDrop : (s.hopDrop src p).ingressOf src = (s.ingressOf src).erase p :=
  (State.ingressOf_congr src (congrArg _ (State.count_sp ..)) (State.count_rx ..) (congrArg _ (State.count_rl ..))).trans
    (s.ingressOf_popIngress p hsrc)

theorem State.egress_hopDrop : (s.hopDrop src p).rl.egress = s.rl.egress :=
  (congrArg RelayPort.egress (State.count_rl ..)).trans (s.egress_popIngress p hsrc)

/-- The way of a response is the same after the discard. -/
theorem State.repliesBy_hopDrop {h : Hdr} {port : Nat} (hr : s.repliesBy h port) : (s.hopDrop src p).repliesBy h port := by
  obtain ⟨hfa, hfenced, hroute⟩ := hr
  have hep : (s.popIngress src p).epochNow = s.epochNow := congrArg (· % 2) ((only_popIngress s p hsrc).obj (by simp))
  have hpopped : (s.popIngress src p).repliesBy h port :=
    ⟨(s.fa_popIngress p hsrc).trans_ne hfa, (s.fenced_popIngress p hsrc).trans hfenced,
      by rw [hep, s.route_popIngress p hsrc]; exact hroute⟩
  exact hpopped.after (only_count _ .pktHopDrops 1) (by simp) (by simp)

/-- What taking on a packet at the limit does. -/
theorem State.takeOn_at_limit {vc : Fin 8} (hfa : s.fa ≠ 0xFFF) (hfenced : s.fenced = false) (hroutes : s.pk.routeFenced = false)
    (hfind : ((s.ingressOf src).find? fun x => x.vc == vc.val) = some p) (hwaits : s.waits src p = false)
    (hgood : malformed p.pkt p.vc (s.hSide && p.pkt.hdr.dst = s.fa) = false) (hhops : p.pkt.hdr.hops = 15)
    (hout : ∃ e ∈ [Egress.link, .relay], ∃ port, port < 64 ∧ s.route p.pkt.hdr = .out e port) : s.takeOn src vc =
      if isRequest p.pkt.hdr.type then (s.hopDrop src p).answer p.pkt.hdr p.pkt.descId stLinkDown false else s.hopDrop src p := by
  have hpop := only_popIngress s p hsrc
  have hfa' := s.fa_popIngress p hsrc
  have hside : (s.popIngress src p).hSide = s.hSide := by rw [State.hSide, State.hSide, show _ = s.aon from hpop.1 .aon (by simp)]
  have hpk : (s.popIngress src p).pk = s.pk := hpop.1 .pk (by simp)
  obtain ⟨e, he, port, -, hroute⟩ := hout
  rw [State.takeOn_head hfind hwaits, State.enter_eq_dispatch hsrc (hfa'.trans_ne hfa)
    ((s.fenced_popIngress p hsrc).trans hfenced) (by rw [hpk, hroutes]) (by rw [hside, hfa']; exact hgood)]
  exact State.dispatch_at_limit _ he ((s.route_popIngress p hsrc _).trans hroute) hhops

end

/-- An answer that leaves by the relay: what joins the egress, and that no ingress queue changes. -/
theorem State.answer_egress {s : State} {h : Hdr} {port : Nat} (desc st : Nat) (hr : s.repliesBy h port) :
    (s.answer h desc st false).rl.egress = s.rl.egress ++ [⟨s.pk.nextId, (synthetic h desc st false s.epochNow).hopped, s.aon.lclk, port⟩] ∧
      ∀ src, (s.answer h desc st false).ingressOf src = s.ingressOf src := by
  rw [State.answer_eq_enqueue desc st hr]
  exact ⟨rfl, fun src => State.ingressOf_congr src rfl rfl rfl⟩

/-- Settles O35: the packet leaves its queue and is counted (`State.hopDrop`), and the answer to a request is `synthetic` with LINK_DOWN. -/
theorem hopLimit : Obligations.HopLimit := by
  unfold Obligations.HopLimit
  intro s src vc up hcore hsrc hfa hfenced hroutes p hfind hwaits hgood hhops hout hcnt
  have heffect := State.takeOn_at_limit hsrc hfa hfenced hroutes hfind hwaits hgood hhops hout
  have honly := only_hopDrop (s := s) (p := p) hsrc
  have hcount := State.hopDrop_counts (p := p) hsrc hcnt
  refine ⟨fun hreq => ?_, fun hreq back _ hr => ?_⟩
  · rw [if_neg (ne_true_of_eq_false hreq)] at heffect
    exact Ends.of_run (exec_packetTakeOn src vc s) up ((State.whenOk_eq hcore).trans heffect) honly (by simp) (by simp)
      ⟨hcount, State.ingressOf_hopDrop hsrc, State.egress_hopDrop hsrc, honly⟩
  · rw [if_pos hreq] at heffect
    have hback := State.repliesBy_hopDrop (p := p) hsrc hr
    obtain ⟨-, hans⟩ := State.answer_by_relay p.pkt.descId stLinkDown hback
    obtain ⟨hegress, hingress⟩ := State.answer_egress p.pkt.descId stLinkDown hback
    rw [State.egress_hopDrop hsrc] at hegress
    obtain ⟨-, -, hst, hdst, htag⟩ := synthetic_hdr p.pkt.hdr p.pkt.descId stLinkDown false (s.hopDrop src p).epochNow
    obtain ⟨htype, hsrc', hsynth, hlast, hcount1⟩ := synthetic_message p.pkt.hdr p.pkt.descId stLinkDown false (s.hopDrop src p).epochNow
    have hall := (honly.trans hans).mono (qs := [.rx, .rl, .pk, .outbox]) (xs := [.lnkXoffState, .pktHopDrops, .tclPortRelay])
      (by simp) (by simp)
    refine Ends.of_run (exec_packetTakeOn src vc s) up ((State.whenOk_eq hcore).trans heffect) hall (by simp) (by simp)
      ⟨(hans.obj (by decide)).trans hcount, (hingress src).trans (State.ingressOf_hopDrop hsrc),
        ⟨_, by rw [hegress]; exact List.getLast?_concat, hegress, rfl, htype, hdst, hsrc', htag, hst, hsynth, hlast, hcount1,
          synthetic_other _ _ _ _, fun ht => ?_⟩, hall⟩
    obtain ⟨hlen, hrecord⟩ := synthetic_submit p.pkt.descId stLinkDown false (s.hopDrop src p).epochNow ht
    exact ⟨hlen, hrecord ▸ synthRecord_bytes stLinkDown p.pkt.hdr.aux p.pkt.descId⟩

end Sys2Proof.Machine
end

section
/-! The zeroisation record (14, R373): O60. No operation of the state but ZEROISE_DONE writes SCR_ZERO_RECORD, one lemma for each:
`foo_zeroWord` says that `foo` leaves its word as it was, under the heading of the model's file that defines `foo`. -/

namespace Sys2Proof.Machine

/-! ### The word of SCR_ZERO_RECORD that holds the record -/

/-- Entry 1 of SCR_ZERO_RECORD; bit 0 says that the record is there. -/
def Dict.zeroWord (d : Dict) : Nat := d.find .scrZeroRecord 1

theorem State.zeroRecord_eq (s : State) : s.zeroRecord = s.dict.zeroWord.testBit 0 := rfl

theorem Dict.zeroWord_put (d : Dict) {o : Obj} (e v : Nat) (h : .scrZeroRecord ≠ o) : (d.put o e v).zeroWord = d.zeroWord :=
  Dict.find_put_other d fun x => h x.1

theorem Dict.zeroWord_drop (d : Dict) {f : Obj → Bool} (h : f .scrZeroRecord = false) : (d.drop f).zeroWord = d.zeroWord := by
  simp [Dict.zeroWord, Dict.find_drop, h]

theorem Dict.zeroWord_puts (l : List Write) (h : ∀ w ∈ l, .scrZeroRecord ≠ w.obj) (d : Dict) :
    (l.foldl (fun d w => d.put w.obj w.entry w.val) d).zeroWord = d.zeroWord := by
  induction l generalizing d with
  | nil => rfl
  | cons w l ih =>
    exact (ih (fun x hx => h x (List.mem_cons_of_mem w hx)) _).trans (d.zeroWord_put _ _ (h w List.mem_cons_self))

@[simp] theorem scrZeroRecord_ne_portObj (e : Egress) : .scrZeroRecord ≠ portObj e := by cases e <;> decide

@[simp] theorem scrZeroRecord_ne_lockObj (p : Port) : .scrZeroRecord ≠ lockObj p := by cases p <;> decide

@[simp] theorem scrZeroRecord_ne_lockState (p : Port) : .scrZeroRecord ≠ lockState p := by cases p <;> decide

/-! ### What images write (R391) -/

/-- An entry of an image names an object of class RW or RW-locked. -/
theorem ImageEntry.access_of_mem_writes {x : ImageEntry} {script : Bool} {l : List Write} (hx : x.writes script = some l) {w : Write}
    (hw : w ∈ l) : w.obj.row.access ≠ .ro := by
  unfold ImageEntry.writes at hx
  split at hx
  · cases hx
  · split at hx
    · cases hx
    · rename_i hacc
      split at hx
      · cases hx
      · cases hx
        obtain ⟨i, -, rfl⟩ := List.mem_map.1 hw
        intro hro
        simp [hro] at hacc

theorem ne_of_mem_imageWrites {script : Bool} {img : List Byte} {w : Write} (hw : w ∈ imageWrites script img) : .scrZeroRecord ≠ w.obj := by
  obtain ⟨x, -, hx⟩ := List.mem_flatMap.1 hw
  intro h
  cases hl : x.writes script with
  | none => simp [hl] at hx
  | some l =>
    rw [hl] at hx
    exact ImageEntry.access_of_mem_writes hl hx (h ▸ rfl)

namespace State

variable (s : State)

theorem ne_of_mem_named {m : Nat} {o : Obj} (ho : o ∈ s.named m) : .scrZeroRecord ≠ o := by
  obtain ⟨x, -, hx⟩ := List.mem_flatMap.1 (List.mem_eraseDups.1 ho)
  obtain ⟨w, hw, rfl⟩ := List.mem_map.1 hx
  exact ne_of_mem_imageWrites hw

theorem ne_of_mem_changes (c : State) {m : Nat} {w : Write} (hw : w ∈ s.changes c (s.named m)) : .scrZeroRecord ≠ w.obj := by
  obtain ⟨o, ho, hx⟩ := List.mem_flatMap.1 hw
  obtain ⟨e, -, he⟩ := List.mem_filterMap.1 hx
  split at he
  · cases he
  · cases he
    exact s.ne_of_mem_named ho

/-! ### Writes of the dictionary -/

@[simp] theorem setEntry_zeroWord {o : Obj} (e v : Nat) (h : .scrZeroRecord ≠ o) : (s.setEntry o e v).dict.zeroWord = s.dict.zeroWord :=
  s.dict.zeroWord_put e v h

theorem setEntry_zeroWord_self (v : Nat) : (s.setEntry .scrZeroRecord 1 v).dict.zeroWord = Obj.scrZeroRecord.fit 1 v :=
  s.dict.find_put_same _ _ _

@[simp] theorem setObj_zeroWord {o : Obj} (v : Nat) (h : .scrZeroRecord ≠ o) : (s.setObj o v).dict.zeroWord = s.dict.zeroWord :=
  s.dict.zeroWord_put 0 v h

@[simp] theorem setFld_zeroWord {o : Obj} (hi lo v : Nat) (h : .scrZeroRecord ≠ o) : (s.setFld o hi lo v).dict.zeroWord = s.dict.zeroWord :=
  s.setObj_zeroWord _ h

@[simp] theorem count_zeroWord {o : Obj} (n : Nat) (h : .scrZeroRecord ≠ o) : (s.count o n).dict.zeroWord = s.dict.zeroWord :=
  s.entry_count_other h

@[simp] theorem countWrap_zeroWord {o : Obj} (e n : Nat) (h : .scrZeroRecord ≠ o) : (s.countWrap o e n).dict.zeroWord = s.dict.zeroWord :=
  s.dict.zeroWord_put e _ h

@[simp] theorem clearObj_zeroWord {o : Obj} (h : .scrZeroRecord ≠ o) : (s.clearObj o).dict.zeroWord = s.dict.zeroWord :=
  s.dict.zeroWord_drop (by simpa using h)

@[simp] theorem clearHolder_zeroWord {h : Holder} (hh : h ≠ .aon) : (s.clearHolder h).dict.zeroWord = s.dict.zeroWord :=
  s.dict.zeroWord_drop (by simp [show Obj.scrZeroRecord.row.holder = .aon from rfl, hh.symm])

theorem overlay_zeroWord {f : Obj → Bool} {l : List Write} (hf : f .scrZeroRecord = false) (hl : ∀ w ∈ l, .scrZeroRecord ≠ w.obj) :
    (s.overlay f l).dict.zeroWord = s.dict.zeroWord :=
  (Dict.zeroWord_puts l hl _).trans (s.dict.zeroWord_drop hf)

@[simp] theorem raise_zeroWord (t v : Nat) (x : Option Obj) (p : List Byte) : (s.raise t v x p).dict.zeroWord = s.dict.zeroWord :=
  s.raise_entry t v x p 1 nofun nofun

/-! ### Branches, loops and results -/

@[simp] theorem ite_zeroWord (c : Prop) [Decidable c] (a b : State) :
    (if c then a else b).dict.zeroWord = if c then a.dict.zeroWord else b.dict.zeroWord := by split <;> rfl

@[simp] theorem ite_fst_zeroWord {α : Type} (c : Prop) [Decidable c] (a b : State × α) :
    (if c then a else b).1.dict.zeroWord = if c then a.1.dict.zeroWord else b.1.dict.zeroWord := by split <;> rfl

@[simp] theorem whenOk_zeroWord (c : Bool) {f : State → State} (h : (f s).dict.zeroWord = s.dict.zeroWord) :
    (s.whenOk c f).dict.zeroWord = s.dict.zeroWord := by
  cases c
  · rfl
  · exact h

@[simp] theorem foldl_zeroWord {α : Type} {f : State → α → State} (h : ∀ t x, (f t x).dict.zeroWord = t.dict.zeroWord) (l : List α)
    (s : State) : (l.foldl f s).dict.zeroWord = s.dict.zeroWord := by
  induction l generalizing s with
  | nil => rfl
  | cons x l ih => exact (ih _).trans (h s x)

/-- A state paired with something else, and a state with another part of it written: each is the state it was, as far as the record goes. -/
theorem fst_mk_zeroWord {α β : Type} (x : State × α) (y : β) : (x.1, y).1.dict.zeroWord = x.1.dict.zeroWord := rfl

theorem rx_zeroWord (r : LinkRx) : ({ s with rx := r } : State).dict.zeroWord = s.dict.zeroWord := rfl

theorem stk_zeroWord (k : Stack) : ({ s with stk := k } : State).dict.zeroWord = s.dict.zeroWord := rfl

theorem out_zeroWord (o : Out) : (s.out o).dict.zeroWord = s.dict.zeroWord := rfl

@[simp] theorem whenOk_out_zeroWord (c : Bool) (o : State → Out) : (s.whenOk c fun t => t.out (o t)).dict.zeroWord = s.dict.zeroWord :=
  s.whenOk_zeroWord c rfl

/-! ### Machine/Ops -/

@[simp] theorem setLanes72_zeroWord {o : Obj} (m : Nat) (h : .scrZeroRecord ≠ o) : (s.setLanes72 o m).dict.zeroWord = s.dict.zeroWord := by
  simp [setLanes72, h]

@[simp] theorem nextRecord_zeroWord : s.nextRecord.dict.zeroWord = s.dict.zeroWord := by simp [nextRecord]

@[simp] theorem queueEvent_zeroWord (r : EventRec) : (s.queueEvent r).dict.zeroWord = s.dict.zeroWord := by simp [queueEvent]

@[simp] theorem faultRecord_zeroWord (index sub cause detail : Nat) :
    (s.faultRecord index sub cause detail).dict.zeroWord = s.dict.zeroWord := by
  simp [faultRecord]

@[simp] theorem digestChange_zeroWord : s.digestChange.dict.zeroWord = s.dict.zeroWord := by simp [digestChange]

/-! ### Machine/Route -/

@[simp] theorem forwardedPkt_zeroWord (h : Hdr) : (s.forwardedPkt h).dict.zeroWord = s.dict.zeroWord := by
  unfold forwardedPkt
  split <;> simp

@[simp] theorem notePeak_zeroWord (e : Egress) (vc : Nat) : (s.notePeak e vc).dict.zeroWord = s.dict.zeroWord := by simp [notePeak]

@[simp] theorem enqueue_zeroWord (e : Egress) (port : Nat) (p : Packet) : (s.enqueue e port p).dict.zeroWord = s.dict.zeroWord := by
  unfold enqueue
  split <;> simp

@[simp] theorem setMsg_zeroWord (m : Msg) : (s.setMsg m).dict.zeroWord = s.dict.zeroWord := by simp [setMsg]

@[simp] theorem dropMsg_zeroWord (h : Hdr) : (s.dropMsg h).dict.zeroWord = s.dict.zeroWord := by simp [dropMsg]

@[simp] theorem close_zeroWord (h : Hdr) : (s.close h).dict.zeroWord = s.dict.zeroWord := by simp [close]

@[simp] theorem reuse_zeroWord (h : Hdr) : (s.reuse h).dict.zeroWord = s.dict.zeroWord := by simp [reuse]

@[simp] theorem dropHeld_zeroWord (h : Hdr) : (s.dropHeld h).dict.zeroWord = s.dict.zeroWord := by simp [dropHeld]

@[simp] theorem closeOrdered_zeroWord (resp : Hdr) : (s.closeOrdered resp).dict.zeroWord = s.dict.zeroWord := by simp [closeOrdered]

@[simp] theorem ownResult_zeroWord (u : OwnUse) (status : Nat) (ou : Bool) (data : List Byte) :
    (s.ownResult u status ou data).dict.zeroWord = s.dict.zeroWord := by
  unfold ownResult
  split <;> simp

@[simp] theorem ownComplete_zeroWord (r : OwnReq) (status : Nat) (ou : Bool) (data : List Byte) :
    (s.ownComplete r status ou data).dict.zeroWord = s.dict.zeroWord := by
  simp [ownComplete]

@[simp] theorem ownResponse_zeroWord (p : Packet) : (s.ownResponse p).dict.zeroWord = s.dict.zeroWord := by
  unfold ownResponse
  split <;> simp

@[simp] theorem deliver_zeroWord (p : Packet) : (s.deliver p).dict.zeroWord = s.dict.zeroWord := by
  unfold deliver
  simp only [ite_zeroWord]
  repeat' split
  all_goals simp

@[simp] theorem respHere_zeroWord (p : Packet) : (s.respHere p).dict.zeroWord = s.dict.zeroWord := by simp [respHere]

@[simp] theorem respond_zeroWord (p : Packet) : (s.respond p).dict.zeroWord = s.dict.zeroWord := by
  unfold respond
  split <;> simp

@[simp] theorem originate_zeroWord (p : Packet) : (s.originate p).dict.zeroWord = s.dict.zeroWord := by simp [originate]

@[simp] theorem answerFenced_zeroWord (h : Hdr) (desc : Nat) (ou : Bool) : (s.answerFenced h desc ou).dict.zeroWord = s.dict.zeroWord := by
  simp [answerFenced]

@[simp] theorem answer_zeroWord (h : Hdr) (desc st : Nat) (ou : Bool) :
    (s.answer h desc st ou).dict.zeroWord = s.dict.zeroWord := by simp [answer]

@[simp] theorem forward_zeroWord (p : Packet) (hop : Hop) : (s.forward p hop).dict.zeroWord = s.dict.zeroWord := by
  unfold forward
  split <;> simp

@[simp] theorem startOwn_zeroWord (u : OwnUse) (p : Packet) (tag : Nat) :
    (s.startOwn u p tag).dict.zeroWord = s.dict.zeroWord := by simp [startOwn]

@[simp] theorem issueOwn_zeroWord (u : OwnUse) (p : Packet) : (s.issueOwn u p).dict.zeroWord = s.dict.zeroWord := by
  simp only [issueOwn, ite_zeroWord]
  repeat' split
  all_goals simp

@[simp] theorem wakeOwnGo_zeroWord (n : Nat) (s : State) : (wakeOwnGo n s).dict.zeroWord = s.dict.zeroWord := by
  induction n generalizing s with
  | zero => rfl
  | succ n ih =>
    unfold wakeOwnGo
    split
    · split <;> simp [ih]
    · rfl

@[simp] theorem wakeOwn_zeroWord : s.wakeOwn.dict.zeroWord = s.dict.zeroWord := by simp [wakeOwn]

/-! ### Machine/Flows -/

@[simp] theorem setBucket_zeroWord (c : Nat) (v : Int) : (s.setBucket c v).dict.zeroWord = s.dict.zeroWord := by simp [setBucket]

@[simp] theorem fillBuckets_zeroWord : s.fillBuckets.dict.zeroWord = s.dict.zeroWord := by simp [fillBuckets]

@[simp] theorem refill_zeroWord : s.refill.dict.zeroWord = s.dict.zeroWord := by simp [refill]

@[simp] theorem refillFlows_zeroWord : s.refillFlows.dict.zeroWord = s.dict.zeroWord := by simp [refillFlows]

@[simp] theorem chargeFlow_zeroWord (i n : Nat) : (s.chargeFlow i n).dict.zeroWord = s.dict.zeroWord := by simp [chargeFlow]

@[simp] theorem setGate_zeroWord (vc : Nat) (g : Gate) : (s.setGate vc g).dict.zeroWord = s.dict.zeroWord := by simp [setGate]

@[simp] theorem showGates_zeroWord : s.showGates.dict.zeroWord = s.dict.zeroWord := by simp [showGates]

@[simp] theorem startGate_zeroWord (vc : Nat) : (s.startGate vc).dict.zeroWord = s.dict.zeroWord := by simp [startGate]

@[simp] theorem startGates_zeroWord : s.startGates.dict.zeroWord = s.dict.zeroWord := by simp [startGates]

@[simp] theorem stopGates_zeroWord : s.stopGates.dict.zeroWord = s.dict.zeroWord := by simp [stopGates]

@[simp] theorem settlePending_zeroWord : s.settlePending.dict.zeroWord = s.dict.zeroWord := by simp [settlePending]

@[simp] theorem gateStarts_zeroWord (vc : Nat) : (s.gateStarts vc).dict.zeroWord = s.dict.zeroWord := by simp [gateStarts]

@[simp] theorem gateTick_zeroWord (vc : Nat) : (s.gateTick vc).dict.zeroWord = s.dict.zeroWord := by simp [gateTick]

/-! ### Machine/Admission -/

@[simp] theorem remember_zeroWord (q : HopQuery) : (s.remember q).dict.zeroWord = s.dict.zeroWord := by
  unfold remember
  split <;> simp

@[simp] theorem showRegister_zeroWord : s.showRegister.dict.zeroWord = s.dict.zeroWord := by simp [showRegister]

@[simp] theorem unregister_zeroWord (home index : Nat) : (s.unregister home index).dict.zeroWord = s.dict.zeroWord := by simp [unregister]

@[simp] theorem withdrawOwn_zeroWord (i cause : Nat) : (s.withdrawOwn i cause).dict.zeroWord = s.dict.zeroWord := by simp [withdrawOwn]

@[simp] theorem withdraw_zeroWord (home index cause : Nat) :
    (s.withdraw home index cause).dict.zeroWord = s.dict.zeroWord := by simp [withdraw]

@[simp] theorem withdrawLink_zeroWord (cause : Nat) : (s.withdrawLink cause).dict.zeroWord = s.dict.zeroWord := by simp [withdrawLink]

@[simp] theorem setSlack_zeroWord (home index slack : Nat) :
    (s.setSlack home index slack).dict.zeroWord = s.dict.zeroWord := by simp [setSlack]

@[simp] theorem reduceSlack_zeroWord (i ps : Nat) : (s.reduceSlack i ps).dict.zeroWord = s.dict.zeroWord := by simp [reduceSlack]

@[simp] theorem transitUpdate_zeroWord (u : TransitUpdate) : (s.transitUpdate u).dict.zeroWord = s.dict.zeroWord := by
  cases u with
  | register q slack =>
    simp only [transitUpdate]
    split <;> simp
  | _ => simp [transitUpdate]

@[simp] theorem recomputeFlows_zeroWord : s.recomputeFlows.dict.zeroWord = s.dict.zeroWord := by simp [recomputeFlows]

@[simp] theorem startRecheck_zeroWord (rate : Nat) : (s.startRecheck rate).dict.zeroWord = s.dict.zeroWord := by simp [startRecheck]

@[simp] theorem askWalk_zeroWord (flows : List Nat) : (s.askWalk flows).dict.zeroWord = s.dict.zeroWord := by simp [askWalk]

@[simp] theorem admitFlow_zeroWord (i : Nat) (v : Verdict) : (s.admitFlow i v).dict.zeroWord = s.dict.zeroWord := by simp [admitFlow]

@[simp] theorem rewalk_zeroWord (answers : List HopAnswer) (flows : List Nat) :
    (s.rewalk answers flows).dict.zeroWord = s.dict.zeroWord := by
  simp [rewalk]

/-! ### Machine/Results -/

@[simp] theorem setResult_zeroWord (e res map : Nat) : (s.setResult e res map).dict.zeroWord = s.dict.zeroWord := by simp [setResult]

@[simp] theorem showScreen_zeroWord : s.showScreen.dict.zeroWord = s.dict.zeroWord := by simp [showScreen]

@[simp] theorem abandonTests_zeroWord (f : TestUnit → Bool) : (s.abandonTests f).dict.zeroWord = s.dict.zeroWord := by
  simp only [abandonTests]
  split
  · rfl
  · rw [showScreen_zeroWord, foldl_zeroWord]
    intro t x
    split <;> simp

/-! ### Machine/Sectors -/

@[simp] theorem setSlot_zeroWord (k : KeySlot) : (s.setSlot k).dict.zeroWord = s.dict.zeroWord := by simp [setSlot]

@[simp] theorem contribution_zeroWord (h : Hdr) (st : Nat) : (s.contribution h st).dict.zeroWord = s.dict.zeroWord := by simp [contribution]

@[simp] theorem performed_zeroWord (h : Hdr) (st : Nat) (ou dropped : Bool) (payload : List Byte) (poison : List (Nat × Nat)) :
    (s.performed h st ou dropped payload poison).dict.zeroWord = s.dict.zeroWord := by
  simp only [performed]
  repeat' split
  all_goals simp

@[simp] theorem jobDone_zeroWord (j : Job) : (s.jobDone j).dict.zeroWord = s.dict.zeroWord := by
  unfold jobDone
  split <;> simp

@[simp] theorem scrubNext_zeroWord (part addr : Nat) : (s.scrubNext part addr).dict.zeroWord = s.dict.zeroWord := by
  simp only [scrubNext]
  repeat' split
  all_goals simp

@[simp] theorem rekeyNext_zeroWord (slot addr : Nat) : (s.rekeyNext slot addr).dict.zeroWord = s.dict.zeroWord := by
  unfold rekeyNext
  split <;> simp

@[simp] theorem finishOp_zeroWord (op : StkOp) (st : Nat) (ou : Bool) (data : List Byte) (poison : Bool) :
    (s.finishOp op st ou data poison).dict.zeroWord = s.dict.zeroWord := by
  simp only [finishOp]
  repeat' split
  all_goals simp

@[simp] theorem pushOp_zeroWord (op : StkOp) : (s.pushOp op).dict.zeroWord = s.dict.zeroWord := by simp [pushOp]

@[simp] theorem setPc_zeroWord (p : Nat) (c : Pc) : (s.setPc p c).dict.zeroWord = s.dict.zeroWord := by simp [setPc]

@[simp] theorem openJob_zeroWord (h : Hdr) (own : Option OwnUse) (n : Nat) (fromLink : Bool) :
    (s.openJob h own n fromLink).dict.zeroWord = s.dict.zeroWord := by
  simp [openJob]

@[simp] theorem serve_zeroWord (p : Packet) (fromLink : Bool) : (s.serve p fromLink).dict.zeroWord = s.dict.zeroWord := by simp [serve]

@[simp] theorem serveSpill_zeroWord (u : OwnUse) (addr : Nat) (data : Option (List Byte)) :
    (s.serveSpill u addr data).dict.zeroWord = s.dict.zeroWord := by
  simp [serveSpill]

@[simp] theorem arrayOp_zeroWord (id addr part tc : Nat) (data : Option (List Byte)) (poison rmw : Bool) :
    (s.arrayOp id addr part tc data poison rmw).dict.zeroWord = s.dict.zeroWord := by
  simp [arrayOp]

/-! ### Machine/TakeOn -/

@[simp] theorem updateXoff_zeroWord : s.updateXoff.dict.zeroWord = s.dict.zeroWord := by simp [updateXoff]

@[simp] theorem giveCredits_zeroWord (vc n : Nat) : (s.giveCredits vc n).dict.zeroWord = s.dict.zeroWord := by simp [giveCredits]

@[simp] theorem popIngress_zeroWord (src : Ingress) (p : InPkt) : (s.popIngress src p).dict.zeroWord = s.dict.zeroWord := by
  unfold popIngress
  split <;> simp

@[simp] theorem releaseCredits_zeroWord : s.releaseCredits.dict.zeroWord = s.dict.zeroWord := by simp [releaseCredits]

theorem admitReq_zeroWord {h : Hdr} {fromLink : Bool} {t : State} (ht : s.admitReq h fromLink = some t) :
    t.dict.zeroWord = s.dict.zeroWord := by
  unfold admitReq at ht
  dsimp only at ht
  split at ht
  · cases ht; rfl
  · split at ht
    · cases ht
    · cases ht; simp

@[simp] theorem reqHere_zeroWord (p : Packet) (fromLink : Bool) : (s.reqHere p fromLink).dict.zeroWord = s.dict.zeroWord := by
  unfold reqHere
  dsimp only
  split
  · simp
  · split
    · simp
    · next t ht => simp [admitReq_zeroWord _ ht]

@[simp] theorem dispatch_zeroWord (p : Packet) (fromLink : Bool) :
    (s.dispatch p fromLink).dict.zeroWord = s.dict.zeroWord := by simp [dispatch]

@[simp] theorem enterStream_zeroWord (p : Packet) : (s.enterStream p).dict.zeroWord = s.dict.zeroWord := by
  simp only [enterStream]
  repeat' split
  all_goals simp

@[simp] theorem enter_zeroWord (src : Ingress) (p : InPkt) : (s.enter src p).dict.zeroWord = s.dict.zeroWord := by
  simp only [enter]
  repeat' split
  all_goals simp

/-! ### Machine/LinkDown -/

@[simp] theorem emit_zeroWord (l : List (Nat × List Byte × Nat)) : (s.emit l).dict.zeroWord = s.dict.zeroWord := by simp [emit]

@[simp] theorem sendTrain_zeroWord (f : TrainFrame) : (s.sendTrain f).dict.zeroWord = s.dict.zeroWord := by simp [sendTrain]

@[simp] theorem enterTraining_zeroWord (st : Nat) : (s.enterTraining st).dict.zeroWord = s.dict.zeroWord := by simp [enterTraining]

@[simp] theorem startAttempt_zeroWord : s.startAttempt.dict.zeroWord = s.dict.zeroWord := by simp [startAttempt]

@[simp] theorem startTraining_zeroWord (boot : Bool) : (s.startTraining boot).dict.zeroWord = s.dict.zeroWord := by
  unfold startTraining
  split <;> simp

@[simp] theorem stopTraining_zeroWord : s.stopTraining.dict.zeroWord = s.dict.zeroWord := by simp [stopTraining]

@[simp] theorem refuseDl_zeroWord : s.refuseDl.dict.zeroWord = s.dict.zeroWord := by simp [refuseDl]

@[simp] theorem unlocked_zeroWord : s.unlocked.dict.zeroWord = s.dict.zeroWord := by simp [unlocked]

@[simp] theorem dropSpillRequests_zeroWord : s.dropSpillRequests.dict.zeroWord = s.dict.zeroWord := by simp [dropSpillRequests]

@[simp] theorem dropFromLink_zeroWord : s.dropFromLink.dict.zeroWord = s.dict.zeroWord := by
  unfold dropFromLink
  exact count_zeroWord (o := .lnkDownDrops) _ _ nofun

@[simp] theorem emptyTx_zeroWord : s.emptyTx.dict.zeroWord = s.dict.zeroWord := by simp [emptyTx]

@[simp] theorem dropPlans_zeroWord : s.dropPlans.dict.zeroWord = s.dict.zeroWord := by simp [dropPlans]

@[simp] theorem settleLink_zeroWord : s.settleLink.dict.zeroWord = s.dict.zeroWord := by simp [settleLink]

@[simp] theorem showDown_zeroWord : s.showDown.dict.zeroWord = s.dict.zeroWord := by simp [showDown]

@[simp] theorem dropCal_zeroWord : s.dropCal.dict.zeroWord = s.dict.zeroWord := by simp [dropCal]

@[simp] theorem linkDown_zeroWord (cause : Nat) : (s.linkDown cause).dict.zeroWord = s.dict.zeroWord := by simp [linkDown]

/-! ### Machine/Telemetry -/

@[simp] theorem sampleStart_zeroWord (e : Egress) (vc delay : Nat) : (s.sampleStart e vc delay).dict.zeroWord = s.dict.zeroWord := by
  simp [sampleStart]

@[simp] theorem noteStart_zeroWord (e : Egress) (q : QPkt) : (s.noteStart e q).dict.zeroWord = s.dict.zeroWord := by simp [noteStart]

@[simp] theorem noteIn_zeroWord (e : Egress) (n : Nat) : (s.noteIn e n).dict.zeroWord = s.dict.zeroWord := by simp [noteIn]

@[simp] theorem sampleDepth_zeroWord (e : Egress) (vc : Nat) : (s.sampleDepth e vc).dict.zeroWord = s.dict.zeroWord := by simp [sampleDepth]

@[simp] theorem readSamples_zeroWord : s.readSamples.dict.zeroWord = s.dict.zeroWord := by simp [readSamples]

@[simp] theorem readPort_zeroWord (e : Egress) : (s.readPort e).dict.zeroWord = s.dict.zeroWord := by simp [readPort]

@[simp] theorem idleEgress_zeroWord (e : Egress) (stalled : Bool) :
    (s.idleEgress e stalled).dict.zeroWord = s.dict.zeroWord := by simp [idleEgress]

/-! ### Machine/LinkTx -/

@[simp] theorem showSpill_zeroWord : s.showSpill.dict.zeroWord = s.dict.zeroWord := by simp [showSpill]

@[simp] theorem addFlit_zeroWord (head : Nat) (payload : List Byte) (id : Option Nat) (hdr : Option Hdr) (desc : Nat) :
    (s.addFlit head payload id hdr desc).dict.zeroWord = s.dict.zeroWord := by
  simp [addFlit]

@[simp] theorem readSpill_zeroWord (block : Nat) : (s.readSpill block).dict.zeroWord = s.dict.zeroWord := by simp [readSpill]

@[simp] theorem startReplay_zeroWord (v : Nat) : (s.startReplay v).dict.zeroWord = s.dict.zeroWord := by simp [startReplay]

@[simp] theorem nakReplay_zeroWord (v : Nat) : (s.nakReplay v).dict.zeroWord = s.dict.zeroWord := by simp [nakReplay]

@[simp] theorem freeTo_zeroWord (v : Nat) : (s.freeTo v).dict.zeroWord = s.dict.zeroWord := by simp [freeTo]

@[simp] theorem ackDelivered_zeroWord (v : Nat) : (s.ackDelivered v).dict.zeroWord = s.dict.zeroWord := by simp [ackDelivered]

@[simp] theorem countRecordWaits_zeroWord : s.countRecordWaits.dict.zeroWord = s.dict.zeroWord := by simp [countRecordWaits]

@[simp] theorem startLink_zeroWord (q : QPkt) : (s.startLink q).dict.zeroWord = s.dict.zeroWord := by simp [startLink]

@[simp] theorem sendReplay_zeroWord (v : Nat) : (s.sendReplay v).dict.zeroWord = s.dict.zeroWord := by simp [sendReplay]

theorem takeDone_zeroWord {u : OwnUse} {status : Nat} {d : OwnDone} {t : State} (ht : s.takeDone u status = some (d, t)) :
    t.dict.zeroWord = s.dict.zeroWord := by
  unfold takeDone at ht
  split at ht
  · cases ht; rfl
  · cases ht

/-! ### Machine/Trims -/

@[simp] theorem setApplied_zeroWord (p : Nat) (f : Nat → Int) : (s.setApplied p f).dict.zeroWord = s.dict.zeroWord := by simp [setApplied]

@[simp] theorem loadTrims_zeroWord (p r : Nat) : (s.loadTrims p r).dict.zeroWord = s.dict.zeroWord := by simp [loadTrims]

@[simp] theorem setTrimFlag_zeroWord (p i : Nat) (b : Bool) : (s.setTrimFlag p i b).dict.zeroWord = s.dict.zeroWord := by simp [setTrimFlag]

/-! ### Machine/Lanes -/

@[simp] theorem showMonitor_zeroWord : s.showMonitor.dict.zeroWord = s.dict.zeroWord := by simp [showMonitor]

@[simp] theorem yieldMonitor_zeroWord : s.yieldMonitor.dict.zeroWord = s.dict.zeroWord := by
  unfold yieldMonitor
  repeat' split
  all_goals simp

@[simp] theorem dropMeasurement_zeroWord (p : Nat) : (s.dropMeasurement p).dict.zeroWord = s.dict.zeroWord := by simp [dropMeasurement]

@[simp] theorem sendLaneFault_zeroWord (lanes reason : Nat) : (s.sendLaneFault lanes reason).dict.zeroWord = s.dict.zeroWord :=
  whenOk_zeroWord _ _ rfl

@[simp] theorem failRx_zeroWord (m : Nat) : (s.failRx m).dict.zeroWord = s.dict.zeroWord := by simp [failRx]

@[simp] theorem declareFault_zeroWord (p reason : Nat) : (s.declareFault p reason).dict.zeroWord = s.dict.zeroWord := by simp [declareFault]

@[simp] theorem retireRx_zeroWord (lane reason : Nat) : (s.retireRx lane reason).dict.zeroWord = s.dict.zeroWord := by simp [retireRx]

@[simp] theorem sendSplice_zeroWord (phase : Nat) (p : SplicePlan) :
    (s.sendSplice phase p).dict.zeroWord = s.dict.zeroWord := by simp [sendSplice]

@[simp] theorem sendPrepare_zeroWord : s.sendPrepare.dict.zeroWord = s.dict.zeroWord := by simp [sendPrepare]

@[simp] theorem cancelPlan_zeroWord (p : SplicePlan) : (s.cancelPlan p).dict.zeroWord = s.dict.zeroWord := by simp [cancelPlan]

@[simp] theorem failTx_zeroWord (m : Nat) : (s.failTx m).dict.zeroWord = s.dict.zeroWord := by simp [failTx]

@[simp] theorem switchTx_zeroWord (p : SplicePlan) : (s.switchTx p).dict.zeroWord = s.dict.zeroWord := by simp [switchTx]

@[simp] theorem acceptPrepare_zeroWord (pay : List Byte) : (s.acceptPrepare pay).dict.zeroWord = s.dict.zeroWord := by simp [acceptPrepare]

@[simp] theorem switchRx_zeroWord : s.switchRx.dict.zeroWord = s.dict.zeroWord := by
  unfold switchRx
  split
  · rfl
  · rw [setFld_zeroWord (o := .phyMapGen) (h := nofun)]
    dsimp only
    simp

@[simp] theorem acceptCommit_zeroWord (pay : List Byte) : (s.acceptCommit pay).dict.zeroWord = s.dict.zeroWord := by
  unfold acceptCommit
  split <;> simp

@[simp] theorem dropPending_zeroWord : s.dropPending.dict.zeroWord = s.dict.zeroWord := by simp [dropPending]

@[simp] theorem groupOff_zeroWord (g : Nat) : (s.groupOff g).dict.zeroWord = s.dict.zeroWord := by simp [groupOff]

@[simp] theorem writeGroupOff_zeroWord (v : Nat) : (s.writeGroupOff v).dict.zeroWord = s.dict.zeroWord := by
  unfold writeGroupOff
  dsimp only
  split
  · simp
  · rw [foldl_zeroWord (f := fun t g => t.switchDom (2 + g) true) fun _ _ => rfl]
    simp

/-! ### Machine/Latency -/

@[simp] theorem setLat_zeroWord (i : Nat) (b : Bool) : (s.setLat i b).dict.zeroWord = s.dict.zeroWord := by simp [setLat]

@[simp] theorem sendMarker_zeroWord (m : Marker) : (s.sendMarker m).dict.zeroWord = s.dict.zeroWord := by simp [sendMarker]

@[simp] theorem ask_zeroWord (kind seq : Nat) : (s.ask kind seq).dict.zeroWord = s.dict.zeroWord := by simp [ask]

@[simp] theorem startMeasure_zeroWord (attempt : Nat) : (s.startMeasure attempt).dict.zeroWord = s.dict.zeroWord := by simp [startMeasure]

@[simp] theorem latencyFails_zeroWord (cause : Nat) : (s.latencyFails cause).dict.zeroWord = s.dict.zeroWord := by simp [latencyFails]

@[simp] theorem attemptFails_zeroWord : s.attemptFails.dict.zeroWord = s.dict.zeroWord := by simp [attemptFails]

@[simp] theorem lockLost_zeroWord : s.lockLost.dict.zeroWord = s.dict.zeroWord := by simp [lockLost]

@[simp] theorem checkFails_zeroWord : s.checkFails.dict.zeroWord = s.dict.zeroWord := by simp [checkFails]

@[simp] theorem gotMeasure_zeroWord (m : Marker) : (s.gotMeasure m).dict.zeroWord = s.dict.zeroWord := by simp [gotMeasure]

@[simp] theorem gotReturn_zeroWord (m : Marker) : (s.gotReturn m).dict.zeroWord = s.dict.zeroWord := by
  unfold gotReturn
  rw [whenOk_zeroWord]
  dsimp only
  repeat' split
  all_goals simp

@[simp] theorem gotSet_zeroWord (m : Marker) : (s.gotSet m).dict.zeroWord = s.dict.zeroWord := by simp [gotSet]

@[simp] theorem gotVerify_zeroWord (m : Marker) : (s.gotVerify m).dict.zeroWord = s.dict.zeroWord := by simp [gotVerify]

@[simp] theorem gotVerifyReturn_zeroWord (m : Marker) : (s.gotVerifyReturn m).dict.zeroWord = s.dict.zeroWord := by simp [gotVerifyReturn]

@[simp] theorem gotMarker_zeroWord (m : Marker) : (s.gotMarker m).dict.zeroWord = s.dict.zeroWord := by
  unfold gotMarker
  split <;> simp

/-! ### Machine/LinkRx -/

@[simp] theorem countSlot_zeroWord : s.countSlot.dict.zeroWord = s.dict.zeroWord := by simp [countSlot]

@[simp] theorem countError_zeroWord (slot : Nat) : (s.countError slot).dict.zeroWord = s.dict.zeroWord := by simp [countError]

@[simp] theorem checkErrorRate_zeroWord : s.checkErrorRate.dict.zeroWord = s.dict.zeroWord := by simp [checkErrorRate]

@[simp] theorem deliverCtrl_zeroWord (c : Nat) : (s.deliverCtrl c).dict.zeroWord = s.dict.zeroWord := by simp [deliverCtrl]

@[simp] theorem advanceE_zeroWord : s.advanceE.dict.zeroWord = s.dict.zeroWord := by simp [advanceE]

@[simp] theorem countCrossing_zeroWord (h : Hdr) : (s.countCrossing h).dict.zeroWord = s.dict.zeroWord := by simp [countCrossing]

@[simp] theorem acceptData_zeroWord (bs : List Byte) : (s.acceptData bs).dict.zeroWord = s.dict.zeroWord := by
  simp only [acceptData]
  split <;> simp

@[simp] theorem failFlit_zeroWord (slot : Nat) (o : FecOut) : (s.failFlit slot o).dict.zeroWord = s.dict.zeroWord := by simp [failFlit]

@[simp] theorem useFlit_zeroWord (bs : List Byte) : (s.useFlit bs).dict.zeroWord = s.dict.zeroWord := by
  unfold useFlit
  split <;> simp

@[simp] theorem receive_zeroWord (f : RxFlit) : (s.receive f).dict.zeroWord = s.dict.zeroWord := by
  unfold receive
  split
  · rfl
  · dsimp only
    split <;> simp
    · refine (rx_zeroWord _ _).trans ?_
      split <;> simp
    · refine (rx_zeroWord _ _).trans ?_
      split <;> simp

@[simp] theorem clearLog_zeroWord : s.clearLog.dict.zeroWord = s.dict.zeroWord := by simp [clearLog]

@[simp] theorem startDiagnosis_zeroWord : s.startDiagnosis.dict.zeroWord = s.dict.zeroWord := by simp [startDiagnosis]

/-! ### Machine/Training -/

@[simp] theorem sendSlate_zeroWord : s.sendSlate.dict.zeroWord = s.dict.zeroWord := s.whenOk_out_zeroWord _ _

@[simp] theorem loadAllTrims_zeroWord : s.loadAllTrims.dict.zeroWord = s.dict.zeroWord := by simp [loadAllTrims]

@[simp] theorem enterEqualise_zeroWord : s.enterEqualise.dict.zeroWord = s.dict.zeroWord := by simp [enterEqualise]

@[simp] theorem enterMap_zeroWord : s.enterMap.dict.zeroWord = s.dict.zeroWord := by simp [enterMap]

@[simp] theorem trainingFails_zeroWord : s.trainingFails.dict.zeroWord = s.dict.zeroWord := by simp [trainingFails]

@[simp] theorem afterCheck_zeroWord : s.afterCheck.dict.zeroWord = s.dict.zeroWord := by
  unfold afterCheck
  split <;> simp

@[simp] theorem afterSlate_zeroWord : s.afterSlate.dict.zeroWord = s.dict.zeroWord := by
  unfold afterSlate
  dsimp only
  split
  · simp
  · split <;> simp

@[simp] theorem advanceTraining_zeroWord : s.advanceTraining.dict.zeroWord = s.dict.zeroWord := by
  unfold advanceTraining
  split
  · rfl
  · split <;> simp

@[simp] theorem endWork_zeroWord : s.endWork.dict.zeroWord = s.dict.zeroWord := by simp [endWork]

@[simp] theorem tryEqualise_zeroWord : s.tryEqualise.dict.zeroWord = s.dict.zeroWord := by simp [tryEqualise]

@[simp] theorem startRetrain_zeroWord (rate : Nat) (farIn : Bool) : (s.startRetrain rate farIn).dict.zeroWord = s.dict.zeroWord := by
  simp [startRetrain]

@[simp] theorem writeRetrain_zeroWord : s.writeRetrain.1.dict.zeroWord = s.dict.zeroWord := by
  unfold writeRetrain
  split
  · rfl
  · split <;> simp

@[simp] theorem writeTrain_zeroWord : s.writeTrain.1.dict.zeroWord = s.dict.zeroWord := by simp [writeTrain]

@[simp] theorem takeResult_zeroWord (f : TrainFrame) : (s.takeResult f).dict.zeroWord = s.dict.zeroWord := by
  unfold takeResult
  dsimp only
  split
  · rfl
  · split <;> simp

@[simp] theorem learnLane_zeroWord (p code : Nat) : (s.learnLane p code).dict.zeroWord = s.dict.zeroWord := by
  unfold learnLane
  rw [foldl_zeroWord]
  intro t k
  split <;> simp

@[simp] theorem learnFar_zeroWord (p tx code : Nat) : (s.learnFar p tx code).2.dict.zeroWord = s.dict.zeroWord := by
  refine List.foldlRecOn (motive := fun acc : Nat × State => acc.2.dict.zeroWord = s.dict.zeroWord) txTrims _ rfl fun acc h k _ => ?_
  split
  · exact h
  · simpa using h

@[simp] theorem sendSbState_zeroWord : s.sendSbState.dict.zeroWord = s.dict.zeroWord := by simp [sendSbState]

/-! ### Machine/Calib -/

@[simp] theorem settleTrims_zeroWord (p : Nat) : (s.settleTrims p).dict.zeroWord = s.dict.zeroWord := by simp [settleTrims]

@[simp] theorem rejectTrim_zeroWord (p k : Nat) (code : Int) (kind : Nat) :
    (s.rejectTrim p k code kind).dict.zeroWord = s.dict.zeroWord := by
  simp [rejectTrim]

@[simp] theorem takeTrim_zeroWord (p k : Nat) (code : Int) : (s.takeTrim p k code).dict.zeroWord = s.dict.zeroWord := by simp [takeTrim]

@[simp] theorem closeSamples_zeroWord : s.closeSamples.dict.zeroWord = s.dict.zeroWord := by
  unfold closeSamples
  dsimp only
  rw [foldl_zeroWord]
  intro t p
  simp

@[simp] theorem forecastLane_zeroWord (p : Nat) : (s.forecastLane p).dict.zeroWord = s.dict.zeroWord := by simp [forecastLane]

@[simp] theorem waitLock_zeroWord (n : Nat) : (s.waitLock n).dict.zeroWord = s.dict.zeroWord := by simp [waitLock]

@[simp] theorem endStep_zeroWord (held : Bool) : (s.endStep held).dict.zeroWord = s.dict.zeroWord := by simp [endStep]

@[simp] theorem stepWrites_zeroWord : s.stepWrites.dict.zeroWord = s.dict.zeroWord := by
  unfold stepWrites
  dsimp only
  repeat' split
  all_goals simp

@[simp] theorem stepLast_zeroWord (r : Nat) : (s.stepLast r).dict.zeroWord = s.dict.zeroWord := by simp [stepLast]

@[simp] theorem stepResult_zeroWord (n : Nat) : (s.stepResult n).dict.zeroWord = s.dict.zeroWord := by
  unfold stepResult
  split <;> simp

@[simp] theorem checkMargin_zeroWord : s.checkMargin.dict.zeroWord = s.dict.zeroWord := by simp [checkMargin]

@[simp] theorem planEnds_zeroWord : s.planEnds.dict.zeroWord = s.dict.zeroWord := by simp [planEnds]

@[simp] theorem runPlan_zeroWord : s.runPlan.dict.zeroWord = s.dict.zeroWord := by
  rw [runPlan, planEnds_zeroWord]
  simp

@[simp] theorem retireHead_zeroWord : s.retireHead.dict.zeroWord = s.dict.zeroWord := by
  unfold retireHead
  split <;> simp

@[simp] theorem seqStop_zeroWord : s.seqStop.dict.zeroWord = s.dict.zeroWord := by simp [seqStop]

@[simp] theorem seqStart_zeroWord : s.seqStart.dict.zeroWord = s.dict.zeroWord := by simp [seqStart]

@[simp] theorem dropSeqLocks_zeroWord : s.dropSeqLocks.dict.zeroWord = s.dict.zeroWord := by simp [dropSeqLocks]

@[simp] theorem takeCount_zeroWord (m count : Nat) : (s.takeCount m count).dict.zeroWord = s.dict.zeroWord := by simp [takeCount]

/-! ### Machine/StackPort -/

@[simp] theorem issueStack_zeroWord (p : Nat) : (s.issueStack p).dict.zeroWord = s.dict.zeroWord := by
  unfold issueStack
  dsimp only
  repeat' split
  all_goals simp

@[simp] theorem again_zeroWord (p : Nat) (op : StkOp) : (s.again p op).dict.zeroWord = s.dict.zeroWord := by simp [again]

@[simp] theorem readTail_zeroWord (p : Nat) (op : StkOp) (cipher : List Byte) (parity fixed md : Nat) :
    (s.readTail p op cipher parity fixed md).dict.zeroWord = s.dict.zeroWord := by
  unfold readTail
  dsimp only
  repeat' split
  all_goals simp

@[simp] theorem lockSector_zeroWord (a : Nat) : (s.lockSector a).dict.zeroWord = s.dict.zeroWord := by simp [lockSector]

@[simp] theorem readResponse_zeroWord (p : Nat) (op : StkOp) (data : List Byte) (md err : Nat) :
    (s.readResponse p op data md err).dict.zeroWord = s.dict.zeroWord := by
  unfold readResponse
  dsimp only
  repeat' split
  all_goals simp

@[simp] theorem stackResponse_zeroWord (p : Nat) (op : StkOp) (data : List Byte) (md err : Nat) :
    (s.stackResponse p op data md err).dict.zeroWord = s.dict.zeroWord := by
  unfold stackResponse
  dsimp only
  repeat' split
  all_goals simp

@[simp] theorem degrade_zeroWord : s.degrade.dict.zeroWord = s.dict.zeroWord := by simp [degrade]

@[simp] theorem abandonStack_zeroWord (st : Nat) (answer : Bool) : (s.abandonStack st answer).dict.zeroWord = s.dict.zeroWord := by
  unfold abandonStack
  dsimp only
  rw [foldl_zeroWord, foldl_zeroWord]
  · intro t j
    repeat' split
    all_goals simp
  · intro t op
    split <;> simp

@[simp] theorem restartStack_zeroWord : s.restartStack.dict.zeroWord = s.dict.zeroWord := by simp [restartStack]

/-! ### Machine/Ports -/

@[simp] theorem takeCredits_zeroWord (vc n : Nat) : (s.takeCredits vc n).dict.zeroWord = s.dict.zeroWord := by simp [takeCredits]

@[simp] theorem streamIngress_zeroWord (vc : Nat) (bytes : List Byte) (poisonBeats badBeats : List Nat) :
    (s.streamIngress vc bytes poisonBeats badBeats).dict.zeroWord = s.dict.zeroWord := by
  simp [streamIngress]

@[simp] theorem startStream_zeroWord (sub : Nat) (q : QPkt) : (s.startStream sub q).dict.zeroWord = s.dict.zeroWord := by simp [startStream]

@[simp] theorem relayClock_zeroWord : s.relayClock.dict.zeroWord = s.dict.zeroWord := by simp [relayClock]

@[simp] theorem startRelay_zeroWord (q : QPkt) : (s.startRelay q).dict.zeroWord = s.dict.zeroWord := by simp [startRelay]

@[simp] theorem setLock_zeroWord (p : Port) (l : LockPhase) :
    (s.setLock p l).dict.zeroWord = s.dict.zeroWord := by cases p <;> simp [setLock]

@[simp] theorem enableLock_zeroWord (p : Port) : (s.enableLock p).dict.zeroWord = s.dict.zeroWord := by simp [enableLock]

@[simp] theorem disableLock_zeroWord (p : Port) : (s.disableLock p).dict.zeroWord = s.dict.zeroWord := by simp [disableLock]

@[simp] theorem showPort_zeroWord (p : Port) (clk : Nat) (up : Bool) :
    (s.showPort p clk up).dict.zeroWord = s.dict.zeroWord := by simp [showPort]

@[simp] theorem dropStream_zeroWord : s.dropStream.dict.zeroWord = s.dict.zeroWord := by simp [dropStream]

@[simp] theorem restartStream_zeroWord : s.restartStream.dict.zeroWord = s.dict.zeroWord := by simp [restartStream]

@[simp] theorem streamDown_zeroWord (byClock : Bool) : (s.streamDown byClock).dict.zeroWord = s.dict.zeroWord := by simp [streamDown]

@[simp] theorem writeStreamRestart_zeroWord : s.writeStreamRestart.dict.zeroWord = s.dict.zeroWord := by simp [writeStreamRestart]

@[simp] theorem restartStackPort_zeroWord : s.restartStackPort.dict.zeroWord = s.dict.zeroWord := by simp [restartStackPort]

@[simp] theorem writeStackRestart_zeroWord : s.writeStackRestart.dict.zeroWord = s.dict.zeroWord := by simp [writeStackRestart]

/-! ### Machine/Submit -/

@[simp] theorem submit_zeroWord (p : Packet) (fromLink : Bool) : (s.submit p fromLink).dict.zeroWord = s.dict.zeroWord := by simp [submit]

@[simp] theorem showWcet_zeroWord : s.showWcet.dict.zeroWord = s.dict.zeroWord := by simp [showWcet]

/-! ### Machine/Array -/

@[simp] theorem setDesc_zeroWord (d : Desc) : (s.setDesc d).dict.zeroWord = s.dict.zeroWord := by simp [setDesc]

@[simp] theorem countTally_zeroWord (t : Tally) : (s.countTally t).dict.zeroWord = s.dict.zeroWord := by simp [countTally]

@[simp] theorem dropWork_zeroWord (id : Nat) : (s.dropWork id).dict.zeroWord = s.dict.zeroWord := by simp [dropWork]

@[simp] theorem failDesc_zeroWord (d : Desc) (st : Nat) : (s.failDesc d st).dict.zeroWord = s.dict.zeroWord := by simp [failDesc]

@[simp] theorem startAccess_zeroWord (d : Desc) (part addr n : Nat) (data : Option (List Byte)) (poison : Bool)
    (patch : Option (List (Nat × List Byte))) : (s.startAccess d part addr n data poison patch).dict.zeroWord = s.dict.zeroWord := by
  unfold startAccess
  dsimp only
  repeat' split
  all_goals simp

@[simp] theorem readSectors_zeroWord (d : Desc) (need : List Nat) :
    (s.readSectors d need).dict.zeroWord = s.dict.zeroWord := by simp [readSectors]

@[simp] theorem countDataErr_zeroWord (op : Nat) : (s.countDataErr op).dict.zeroWord = s.dict.zeroWord := by simp [countDataErr]

@[simp] theorem feedTile_zeroWord (id t : Nat) : (s.feedTile id t).dict.zeroWord = s.dict.zeroWord := by
  unfold feedTile
  repeat' split
  all_goals simp

@[simp] theorem issueSector_zeroWord (d : Desc) (r : ByteRange) (sec : Nat) : (s.issueSector d r sec).dict.zeroWord = s.dict.zeroWord := by
  simp [issueSector]

@[simp] theorem issueRange_zeroWord (d : Desc) (i : Nat) (r : ByteRange) : (s.issueRange d i r).dict.zeroWord = s.dict.zeroWord := by
  simp [issueRange]

@[simp] theorem emitResult_zeroWord (id : Nat) (l : List Piece) : (s.emitResult id l).dict.zeroWord = s.dict.zeroWord := by
  unfold emitResult
  dsimp only
  split
  · rfl
  · split
    · simp
    · rw [foldl_zeroWord, setDesc_zeroWord]
      intro t x
      split <;> simp

@[simp] theorem countOperator_zeroWord (op found : Nat) (res : Vals) : (s.countOperator op found res).dict.zeroWord = s.dict.zeroWord := by
  simp [countOperator]

@[simp] theorem addInitial_zeroWord (desc first : Nat) (l : List Acc) : (s.addInitial desc first l).dict.zeroWord = s.dict.zeroWord := by
  unfold addInitial
  split <;> simp

@[simp] theorem mergeOne_zeroWord (d : Desc) (t : Nat) (res : Vals) :
    (s.mergeOne d t res).dict.zeroWord = s.dict.zeroWord := by simp [mergeOne]

@[simp] theorem mergeReady_zeroWord (n : Nat) (s : State) (id : Nat) : (mergeReady n s id).dict.zeroWord = s.dict.zeroWord := by
  induction n generalizing s with
  | zero => rfl
  | succ n ih =>
    unfold mergeReady
    split
    · rfl
    · split <;> simp [ih]

@[simp] theorem lastTile_zeroWord (id : Nat) : (s.lastTile id).dict.zeroWord = s.dict.zeroWord := by
  unfold lastTile
  split <;> simp

@[simp] theorem complete_zeroWord (d : Desc) (st : Nat) : (s.complete d st).dict.zeroWord = s.dict.zeroWord := by
  unfold complete
  dsimp only
  repeat' split
  all_goals simp [fresh]

/-! ### Machine/Reduce -/

@[simp] theorem setRed_zeroWord (r : Reduction) : (s.setRed r).dict.zeroWord = s.dict.zeroWord := by simp [setRed]

@[simp] theorem endWith_zeroWord (d : Desc) (info : Nat) : (s.endWith d info).dict.zeroWord = s.dict.zeroWord := by simp [endWith]

@[simp] theorem openRed_zeroWord (d : Desc) : (s.openRed d).dict.zeroWord = s.dict.zeroWord := by simp [openRed]

@[simp] theorem startFlush_zeroWord (d : Desc) : (s.startFlush d).dict.zeroWord = s.dict.zeroWord := by
  unfold startFlush
  split <;> simp

@[simp] theorem takeRed_zeroWord (p : Packet) : (s.takeRed p).dict.zeroWord = s.dict.zeroWord := by
  unfold takeRed
  dsimp only
  repeat' split
  all_goals simp

@[simp] theorem closeRed_zeroWord (desc : Nat) : (s.closeRed desc).dict.zeroWord = s.dict.zeroWord := by
  unfold closeRed
  dsimp only
  repeat' split
  all_goals simp

/-! ### Machine/Tiles -/

@[simp] theorem giveTile_zeroWord (cell : Nat) (d : Desc) (t : Nat) :
    (s.giveTile cell d t).dict.zeroWord = s.dict.zeroWord := by simp [giveTile]

@[simp] theorem dispatchCell_zeroWord (x : Nat) : (s.dispatchCell x).dict.zeroWord = s.dict.zeroWord := by
  unfold dispatchCell
  dsimp only
  repeat' split
  all_goals simp

@[simp] theorem accessDone_zeroWord (a : OpAccess) (st : Nat) (ou : Bool) (data : List Byte) :
    (s.accessDone a st ou data).dict.zeroWord = s.dict.zeroWord := by
  unfold accessDone
  dsimp only
  repeat' split
  all_goals simp

@[simp] theorem endDesc_zeroWord (d : Desc) (st : Nat) : (s.endDesc d st).dict.zeroWord = s.dict.zeroWord := by simp [endDesc]

@[simp] theorem endAll_zeroWord (l : List Desc) (st : Nat) : (s.endAll l st).dict.zeroWord = s.dict.zeroWord := by
  unfold endAll
  rw [foldl_zeroWord]
  intro t d
  split <;> simp

@[simp] theorem markFenced_zeroWord : s.markFenced.dict.zeroWord = s.dict.zeroWord := by simp [markFenced]

@[simp] theorem fenceArray_zeroWord : s.fenceArray.dict.zeroWord = s.dict.zeroWord := by simp [fenceArray]

@[simp] theorem setCell_zeroWord (x code : Nat) : (s.setCell x code).dict.zeroWord = s.dict.zeroWord := by
  unfold setCell
  dsimp only
  split
  · split <;> simp
  · simp

@[simp] theorem clusterCells_zeroWord (k : Nat) (on : Bool) :
    (s.clusterCells k on).dict.zeroWord = s.dict.zeroWord := by simp [clusterCells]

@[simp] theorem clusterSpare_zeroWord (k : Nat) : (s.clusterSpare k).dict.zeroWord = s.dict.zeroWord := by simp [clusterSpare]

@[simp] theorem emptyQueues_zeroWord : s.emptyQueues.dict.zeroWord = s.dict.zeroWord := by simp [emptyQueues]

/-! ### Machine/Clocks -/

@[simp] theorem stackDown_zeroWord : s.stackDown.dict.zeroWord = s.dict.zeroWord := by simp [stackDown]

@[simp] theorem clockAction_zeroWord (i : Nat) : (s.clockAction i).dict.zeroWord = s.dict.zeroWord := by
  unfold clockAction
  split <;> simp

@[simp] theorem setClock_zeroWord (i code : Nat) : (s.setClock i code).dict.zeroWord = s.dict.zeroWord := by simp [setClock]

@[simp] theorem portsCome_zeroWord : s.portsCome.dict.zeroWord = s.dict.zeroWord := by simp [portsCome]

@[simp] theorem countClock_zeroWord (i count : Nat) : (s.countClock i count).dict.zeroWord = s.dict.zeroWord := by simp [countClock]

@[simp] theorem restartSeq_zeroWord : s.restartSeq.dict.zeroWord = s.dict.zeroWord := by simp [restartSeq]

@[simp] theorem restartArray_zeroWord : s.restartArray.dict.zeroWord = s.dict.zeroWord := by simp [restartArray]

/-! ### Machine/Mailbox -/

@[simp] theorem setMbx_zeroWord (j : Nat) (m : Mailbox) : (s.setMbx j m).dict.zeroWord = s.dict.zeroWord := by simp [setMbx]

@[simp] theorem sendTunnel_zeroWord (j st : Nat) (isReply : Bool) (msg : List Byte) :
    (s.sendTunnel j st isReply msg).dict.zeroWord = s.dict.zeroWord :=
  s.whenOk_zeroWord _ rfl

@[simp] theorem endExchange_zeroWord (j st : Nat) (msg : List Byte) : (s.endExchange j st msg).dict.zeroWord = s.dict.zeroWord := by
  simp [endExchange]

@[simp] theorem replyTaken_zeroWord (t : Taken) (st : Nat) (msg : List Byte) : (s.replyTaken t st msg).dict.zeroWord = s.dict.zeroWord := by
  simp [replyTaken]

@[simp] theorem take_zeroWord (t : Taken) (key : Bool) : (s.take t key).dict.zeroWord = s.dict.zeroWord := by simp [take]

@[simp] theorem tunnelComplete_zeroWord (j st : Nat) (isReply : Bool) (msg : List Byte) :
    (s.tunnelComplete j st isReply msg).dict.zeroWord = s.dict.zeroWord := by
  simp [tunnelComplete]

@[simp] theorem tunnelFrame_zeroWord (key : Bool) (f : List Byte) : (s.tunnelFrame key f).dict.zeroWord = s.dict.zeroWord := by
  unfold tunnelFrame
  dsimp only
  repeat' split
  all_goals simp

@[simp] theorem answerTakenOff_zeroWord : s.answerTakenOff.dict.zeroWord = s.dict.zeroWord := by simp [answerTakenOff]

/-! ### Machine/Keys -/

@[simp] theorem keyCommand_zeroWord (cmd : Nat) (msg : List Byte) : (s.keyCommand cmd msg).2.dict.zeroWord = s.dict.zeroWord := by
  unfold keyCommand
  dsimp only
  repeat' split
  all_goals simp

@[simp] theorem keyUnit_zeroWord (cmd : Nat) (msg : List Byte) : (s.keyUnit cmd msg).dict.zeroWord = s.dict.zeroWord := by
  unfold keyUnit
  dsimp only
  split
  · rfl
  · split <;> simp

@[simp] theorem applyParts_zeroWord : s.applyParts.dict.zeroWord = s.dict.zeroWord := by
  unfold applyParts
  split <;> simp

@[simp] theorem fencePart_zeroWord (p : Nat) : (s.fencePart p).dict.zeroWord = s.dict.zeroWord := by simp [fencePart]

@[simp] theorem fenceSlot_zeroWord (p : Nat) : (s.fenceSlot p).dict.zeroWord = s.dict.zeroWord := by simp [fenceSlot]

/-! ### Machine/Engines -/

@[simp] theorem setEng_zeroWord (e code : Nat) : (s.setEng e code).dict.zeroWord = s.dict.zeroWord := by simp [setEng]

@[simp] theorem raiseUnprotected_zeroWord (e reason : Nat) : (s.raiseUnprotected e reason).dict.zeroWord = s.dict.zeroWord := by
  simp [raiseUnprotected]

@[simp] theorem engineOff_zeroWord (e code : Nat) : (s.engineOff e code).dict.zeroWord = s.dict.zeroWord := by simp [engineOff]

@[simp] theorem setHealth_zeroWord (e hi lo v : Nat) : (s.setHealth e hi lo v).dict.zeroWord = s.dict.zeroWord := by simp [setHealth]

@[simp] theorem endPass_zeroWord (e res : Nat) : (s.endPass e res).dict.zeroWord = s.dict.zeroWord := by simp [endPass]

@[simp] theorem storeWord_zeroWord (a v : Nat) : (s.storeWord a v).dict.zeroWord = s.dict.zeroWord := by simp [storeWord]

@[simp] theorem applyFrame_zeroWord (v : Nat) : (s.applyFrame v).dict.zeroWord = s.dict.zeroWord := by simp [applyFrame]

@[simp] theorem applyHeld_zeroWord : s.applyHeld.dict.zeroWord = s.dict.zeroWord := by
  unfold applyHeld
  split <;> simp

@[simp] theorem startResync_zeroWord (e : Nat) : (s.startResync e).dict.zeroWord = s.dict.zeroWord := by simp [startResync]

@[simp] theorem dropHeldPackets_zeroWord : s.dropHeldPackets.dict.zeroWord = s.dict.zeroWord := by simp [dropHeldPackets]

@[simp] theorem endOwn_zeroWord : s.endOwn.dict.zeroWord = s.dict.zeroWord := by simp [endOwn]

@[simp] theorem fenceWork_zeroWord (silent : Bool) : (s.fenceWork silent).dict.zeroWord = s.dict.zeroWord := by simp [fenceWork]

@[simp] theorem fenceSettle_zeroWord (silent : Bool) : (s.fenceSettle silent).dict.zeroWord = s.dict.zeroWord := by simp [fenceSettle]

@[simp] theorem fenceNow_zeroWord (cause : Nat) : (s.fenceNow cause).dict.zeroWord = s.dict.zeroWord := by simp [fenceNow]

@[simp] theorem writeFence_zeroWord : s.writeFence.dict.zeroWord = s.dict.zeroWord := by simp [writeFence]

@[simp] theorem writeUnfence_zeroWord : s.writeUnfence.1.dict.zeroWord = s.dict.zeroWord := by simp [writeUnfence]

@[simp] theorem noEngine_zeroWord : s.noEngine.dict.zeroWord = s.dict.zeroWord := by simp [noEngine]

@[simp] theorem noteYield_zeroWord (e code : Nat) : (s.noteYield e code).dict.zeroWord = s.dict.zeroWord := by simp [noteYield]

@[simp] theorem takeOver_zeroWord (e : Nat) : (s.takeOver e).dict.zeroWord = s.dict.zeroWord := by simp [takeOver]

@[simp] theorem testEngine_zeroWord (e : Nat) : (s.testEngine e).dict.zeroWord = s.dict.zeroWord := by simp [testEngine]

@[simp] theorem enginePassed_zeroWord (e : Nat) : (s.enginePassed e).dict.zeroWord = s.dict.zeroWord := by simp [enginePassed]

@[simp] theorem engineFailed_zeroWord (e : Nat) : (s.engineFailed e).dict.zeroWord = s.dict.zeroWord := by simp [engineFailed]

@[simp] theorem spareRow_zeroWord (array row : Nat) : (s.spareRow array row).dict.zeroWord = s.dict.zeroWord := by simp [spareRow]

@[simp] theorem correctedWord_zeroWord (array row : Nat) :
    (s.correctedWord array row).dict.zeroWord = s.dict.zeroWord := by simp [correctedWord]

@[simp] theorem badWord_zeroWord (e : EccError) : (s.badWord e).dict.zeroWord = s.dict.zeroWord := by
  simp only [badWord]
  split <;> simp

/-! ### Machine/Screen -/

@[simp] theorem beginTests_zeroWord : s.beginTests.dict.zeroWord = s.dict.zeroWord := by
  unfold beginTests
  dsimp only
  rw [foldl_zeroWord]
  intro t r
  split <;> simp

theorem tryRun_zeroWord {u : TestUnit} {t : State} (ht : s.tryRun u = some t) : t.dict.zeroWord = s.dict.zeroWord := by
  unfold tryRun at ht
  split at ht
  · cases ht
  · dsimp only at ht
    split at ht
    · cases ht
    · cases ht; simp

@[simp] theorem getD_tryRun_zeroWord (u : TestUnit) : ((s.tryRun u).getD s).dict.zeroWord = s.dict.zeroWord := by
  cases ht : s.tryRun u with
  | none => rfl
  | some t => exact s.tryRun_zeroWord ht

@[simp] theorem runOrWait_zeroWord (u : TestUnit) : (s.runOrWait u).dict.zeroWord = s.dict.zeroWord := by
  unfold runOrWait
  split
  · next t ht => exact s.tryRun_zeroWord ht
  · rfl

@[simp] theorem startWaiting_zeroWord : s.startWaiting.dict.zeroWord = s.dict.zeroWord := by simp [startWaiting]

@[simp] theorem bootEngines_zeroWord : s.bootEngines.dict.zeroWord = s.dict.zeroWord := by simp [bootEngines]

@[simp] theorem startScreen_zeroWord : s.startScreen.dict.zeroWord = s.dict.zeroWord := by simp [startScreen]

@[simp] theorem raiseScreen_zeroWord (entry res map : Nat) :
    (s.raiseScreen entry res map).dict.zeroWord = s.dict.zeroWord := by simp [raiseScreen]

@[simp] theorem record_zeroWord (e map : Nat) : (s.record e map).dict.zeroWord = s.dict.zeroWord := by simp [record]

@[simp] theorem testedCells_zeroWord (k map : Nat) : (s.testedCells k map).dict.zeroWord = s.dict.zeroWord := by simp [testedCells]

@[simp] theorem markFailed_zeroWord (m : Nat) : (s.markFailed m).dict.zeroWord = s.dict.zeroWord := by simp [markFailed]

@[simp] theorem analogDone_zeroWord (c v : Nat) : (s.analogDone c v).dict.zeroWord = s.dict.zeroWord := by
  unfold analogDone
  split <;> simp

@[simp] theorem finishTest_zeroWord (u : TestUnit) (map : Nat) (rows : List (Nat × Nat)) :
    (s.finishTest u map rows).dict.zeroWord = s.dict.zeroWord := by
  unfold finishTest
  split <;> simp

@[simp] theorem skipTest_zeroWord (u : TestUnit) : (s.skipTest u).dict.zeroWord = s.dict.zeroWord := by
  unfold skipTest
  split <;> simp

@[simp] theorem runTest_zeroWord (u : TestUnit) : (s.runTest u).1.dict.zeroWord = s.dict.zeroWord := by simp [runTest]

@[simp] theorem writeScrRun_zeroWord (code index : Nat) : (s.writeScrRun code index).1.dict.zeroWord = s.dict.zeroWord := by
  unfold writeScrRun
  split <;> simp

@[simp] theorem scrRun_zeroWord (code index : Nat) : (s.scrRun code index).dict.zeroWord = s.dict.zeroWord := by simp [scrRun]

/-! ### Machine/Images -/

@[simp] theorem scriptCode_zeroWord : s.scriptCode.2.dict.zeroWord = s.dict.zeroWord := by
  have hover : (s.overlay (fun o => (imageWrites true s.mgt.script).any fun x => x.obj == o) (imageWrites true s.mgt.script)).dict.zeroWord =
      s.dict.zeroWord :=
    s.overlay_zeroWord (List.any_eq_false.2 fun x hx => by simpa using (ne_of_mem_imageWrites hx).symm) fun _ hw => ne_of_mem_imageWrites hw
  unfold scriptCode
  dsimp only
  split
  · rfl
  · split
    · rfl
    · split
      · rfl
      · split
        · rfl
        · split
          · simp
          · exact hover

@[simp] theorem applyScript_zeroWord : s.applyScript.dict.zeroWord = s.dict.zeroWord := by simp [applyScript]

/-! ### Machine/Power -/

@[simp] theorem cellsOff_zeroWord (failed : List Nat) : (s.cellsOff failed).dict.zeroWord = s.dict.zeroWord := by simp [cellsOff]

@[simp] theorem arrayOff_zeroWord : s.arrayOff.dict.zeroWord = s.dict.zeroWord := by simp [arrayOff]

@[simp] theorem clusterOff_zeroWord (k : Nat) : (s.clusterOff k).dict.zeroWord = s.dict.zeroWord := by
  unfold clusterOff
  dsimp only
  rw [ite_zeroWord, arrayOff_zeroWord, ite_self, emptyQueues_zeroWord, clusterCells_zeroWord, foldl_zeroWord]
  · simp
  · intro t w
    split
    · split <;> simp
    · rfl

@[simp] theorem sportOff_zeroWord : s.sportOff.dict.zeroWord = s.dict.zeroWord := by
  unfold sportOff
  rw [clearHolder_zeroWord (h := .sport) (hh := nofun), switchDom_dict, ite_zeroWord, stk_zeroWord]
  simp

@[simp] theorem seqOff_zeroWord : s.seqOff.dict.zeroWord = s.dict.zeroWord := by simp [seqOff]

@[simp] theorem coreOff_zeroWord : s.coreOff.dict.zeroWord = s.dict.zeroWord := by simp [coreOff]

@[simp] theorem engineDown_zeroWord (e : Nat) : (s.engineDown e).dict.zeroWord = s.dict.zeroWord := by simp [engineDown]

@[simp] theorem domainOff_zeroWord (d : Nat) : (s.domainOff d).dict.zeroWord = s.dict.zeroWord := by simp [domainOff]

@[simp] theorem domainsOn_zeroWord (m : Nat) : (s.domainsOn m).dict.zeroWord = s.dict.zeroWord := by simp [domainsOn]

@[simp] theorem domainsOff_zeroWord (m : Nat) : (s.domainsOff m).dict.zeroWord = s.dict.zeroWord := by simp [domainsOff]

@[simp] theorem writeDomainCtrl_zeroWord (v : Nat) : (s.writeDomainCtrl v).1.dict.zeroWord = s.dict.zeroWord := by simp [writeDomainCtrl]

@[simp] theorem writeCycle_zeroWord (v : Nat) : (s.writeCycle v).1.dict.zeroWord = s.dict.zeroWord := by simp [writeCycle]

@[simp] theorem sportReady_zeroWord : s.sportReady.dict.zeroWord = s.dict.zeroWord := by simp [sportReady]

@[simp] theorem becomeReady_zeroWord (d : Nat) : (s.becomeReady d).dict.zeroWord = s.dict.zeroWord := by simp [becomeReady]

@[simp] theorem takeImage_zeroWord : s.takeImage.dict.zeroWord = s.dict.zeroWord := by simp [takeImage]

@[simp] theorem fwLoad_zeroWord : s.fwLoad.dict.zeroWord = s.dict.zeroWord := by simp [fwLoad]

@[simp] theorem fwUpdate_zeroWord : s.fwUpdate.dict.zeroWord = s.dict.zeroWord := by simp [fwUpdate]

@[simp] theorem enterStep2_zeroWord : s.enterStep2.dict.zeroWord = s.dict.zeroWord := by simp [enterStep2]

@[simp] theorem setRing_zeroWord : s.setRing.dict.zeroWord = s.dict.zeroWord := by simp [setRing]

@[simp] theorem afterScreen_zeroWord : s.afterScreen.dict.zeroWord = s.dict.zeroWord := by simp [afterScreen]

@[simp] theorem endStepOf_zeroWord (n : Nat) : (s.endStepOf n).dict.zeroWord = s.dict.zeroWord := by
  unfold endStepOf
  split <;> simp

/-- A domain reset keeps the read-only objects of the AON domain (15, R429). -/
@[simp] theorem domainReset_zeroWord : s.domainReset.dict.zeroWord = s.dict.zeroWord := by
  simp [domainReset, Dict.zeroWord_drop, show Obj.scrZeroRecord.kept = true from rfl]

@[simp] theorem writeReset_zeroWord : s.writeReset.dict.zeroWord = s.dict.zeroWord := by simp [writeReset]

/-! ### Machine/Zeroise -/

@[simp] theorem clearSecureStore_zeroWord : s.clearSecureStore.dict.zeroWord = s.dict.zeroWord := by simp [clearSecureStore]

@[simp] theorem stopTests_zeroWord : s.stopTests.dict.zeroWord = s.dict.zeroWord := by simp [stopTests]

@[simp] theorem zeroise_zeroWord : s.zeroise.dict.zeroWord = s.dict.zeroWord := by simp [zeroise]

/-! ### Machine/Rules -/

@[simp] theorem newFa_zeroWord (v : Nat) : (s.newFa v).dict.zeroWord = s.dict.zeroWord := by simp [newFa]

@[simp] theorem newEpoch_zeroWord (v : Nat) : (s.newEpoch v).dict.zeroWord = s.dict.zeroWord := by simp [newEpoch]

@[simp] theorem writeLock_zeroWord (p : Port) (v : Nat) : (s.writeLock p v).dict.zeroWord = s.dict.zeroWord := by simp [writeLock]

@[simp] theorem newFclk_zeroWord (v : Nat) : (s.newFclk v).dict.zeroWord = s.dict.zeroWord := by simp [newFclk]

@[simp] theorem newClusters_zeroWord (v : Nat) : (s.newClusters v).dict.zeroWord = s.dict.zeroWord := by simp [newClusters]

@[simp] theorem newTrimSet_zeroWord (e v : Nat) : (s.newTrimSet e v).dict.zeroWord = s.dict.zeroWord := by simp [newTrimSet]

@[simp] theorem store_zeroWord {o : Obj} (e v : Nat) (h : .scrZeroRecord ≠ o) : (s.store o e v).dict.zeroWord = s.dict.zeroWord := by
  unfold store
  split <;> simp [h]

theorem stores_zeroWord (l : List Write) (h : ∀ w ∈ l, .scrZeroRecord ≠ w.obj) (s : State) :
    (l.foldl (fun t w => t.store w.obj w.entry w.val) s).dict.zeroWord = s.dict.zeroWord := by
  induction l generalizing s with
  | nil => rfl
  | cons w l ih =>
    exact (ih (fun x hx => h x (List.mem_cons_of_mem w hx)) _).trans (s.store_zeroWord _ _ (h w List.mem_cons_self))

/-! ### Machine/Scenes -/

@[simp] theorem loadImage_zeroWord (slot : Option Nat) (r : Requester) : (s.loadImage slot r).dict.zeroWord = s.dict.zeroWord := by
  unfold loadImage
  split <;> simp

@[simp] theorem refuseCommit_zeroWord (m : Nat) (f : CommitFault) : (s.refuseCommit m f).dict.zeroWord = s.dict.zeroWord := by
  unfold refuseCommit
  dsimp only
  split
  · split <;> simp
  · simp

@[simp] theorem startCommit_zeroWord (m : Nat) (r : Requester) : (s.startCommit m r).dict.zeroWord = s.dict.zeroWord := by
  unfold startCommit
  split <;> simp

@[simp] theorem closeCommit_zeroWord : s.closeCommit.dict.zeroWord = s.dict.zeroWord := by simp [closeCommit]

@[simp] theorem endRefused_zeroWord (m : Nat) (f : CommitFault) : (s.endRefused m f).dict.zeroWord = s.dict.zeroWord := by simp [endRefused]

@[simp] theorem refuseAdmission_zeroWord (s c : State) (m i : Nat) (v : Verdict) (told : List Nat) :
    (s.refuseAdmission c m i v told).dict.zeroWord = s.dict.zeroWord := by
  simp [refuseAdmission]

@[simp] theorem clearFlows_zeroWord : s.clearFlows.dict.zeroWord = s.dict.zeroWord := by simp [clearFlows]

theorem takeChanges_zeroWord {l : List Write} (h : ∀ w ∈ l, .scrZeroRecord ≠ w.obj) :
    (s.takeChanges l).dict.zeroWord = s.dict.zeroWord := by
  simp [takeChanges, stores_zeroWord l h]

theorem applyCommit_zeroWord (m : Nat) {l : List Write} (verdicts : List (Nat × Verdict)) (h : ∀ w ∈ l, .scrZeroRecord ≠ w.obj) :
    (s.applyCommit m l verdicts).dict.zeroWord = s.dict.zeroWord := by
  simp [applyCommit, takeChanges_zeroWord _ h]

@[simp] theorem finishCommit_zeroWord (m : Nat) (answers : List HopAnswer) :
    (s.finishCommit m answers).dict.zeroWord = s.dict.zeroWord := by
  unfold finishCommit
  split
  · simp
  · dsimp only
    split
    · simp
    · exact s.applyCommit_zeroWord _ _ fun w hw => s.ne_of_mem_changes _ hw

@[simp] theorem complementFault_zeroWord (v : CompValue) : (s.complementFault v).dict.zeroWord = s.dict.zeroWord := by
  unfold complementFault
  split <;> simp

/-! ### Machine/Dictionary -/

@[simp] theorem setCapture_zeroWord (r : Requester) (c : Capture) : (s.setCapture r c).dict.zeroWord = s.dict.zeroWord := by
  unfold setCapture
  split <;> simp

@[simp] theorem clearOnRead_zeroWord (o : Obj) : (s.clearOnRead o).dict.zeroWord = s.dict.zeroWord := by
  unfold clearOnRead
  split <;> simp

@[simp] theorem readWord_zeroWord (r : Requester) (o : Obj) (off : Nat) : (s.readWord r o off).1.dict.zeroWord = s.dict.zeroWord := by
  unfold readWord
  split <;> simp

@[simp] theorem readWords_zeroWord (r : Requester) (o : Obj) (off n : Nat) : (s.readWords r o off n).1.dict.zeroWord = s.dict.zeroWord := by
  induction n generalizing s off with
  | zero => rfl
  | succ n ih => simp [readWords, ih]

@[simp] theorem readObject_zeroWord (r : Requester) (index sub off len : Nat) :
    (s.readObject r index sub off len).1.dict.zeroWord = s.dict.zeroWord := by
  unfold readObject
  dsimp only
  split
  · split
    · split <;> rfl
    · rfl
  · split <;> simp

@[simp] theorem forceLocks_zeroWord (m : Nat) : (s.forceLocks m).dict.zeroWord = s.dict.zeroWord := by simp [forceLocks]

@[simp] theorem stageEntry_zeroWord {o : Obj} (e v : Nat) (h : .scrZeroRecord ≠ o) :
    (s.stageEntry o e v).dict.zeroWord = s.dict.zeroWord := by
  simp [stageEntry, h]

theorem command_zeroWord (r : Requester) {o : Obj} (e v : Nat) (h : .scrZeroRecord ≠ o) :
    (s.command r o e v).1.dict.zeroWord = s.dict.zeroWord := by
  unfold command
  split <;> simp [h]

/-- SCR_ZERO_RECORD is read-only: no requester's write reaches it (R386). -/
@[simp] theorem writeValue_zeroWord (r : Requester) (o : Obj) (e v : Nat) : (s.writeValue r o e v).1.dict.zeroWord = s.dict.zeroWord := by
  unfold writeValue
  dsimp only
  split
  · rfl
  · next hmay =>
    refine s.command_zeroWord r e _ ?_
    rintro rfl
    exact hmay rfl

@[simp] theorem writePiece_zeroWord (r : Requester) (o : Obj) (off : Nat) (bytes : List Byte) :
    (s.writePiece r o off bytes).1.dict.zeroWord = s.dict.zeroWord := by
  unfold writePiece
  dsimp only
  split
  · refine List.foldlRecOn (motive := fun x : State × Nat => x.1.dict.zeroWord = s.dict.zeroWord) _ _ (by simp) fun x hx i _ => ?_
    exact (x.1.writeValue_zeroWord _ _ _ _).trans hx
  · split <;> simp

@[simp] theorem writeGo_zeroWord (r : Requester) (o : Obj) (n : Nat) (s : State) (off : Nat) (bytes : List Byte) :
    (writeGo r o n s off bytes).1.dict.zeroWord = s.dict.zeroWord := by
  induction n generalizing s off bytes with
  | zero => rfl
  | succ n ih =>
    unfold writeGo
    split
    · rfl
    · simp [ih]

@[simp] theorem writeObject_zeroWord (r : Requester) (index sub off : Nat) (bytes : List Byte) :
    (s.writeObject r index sub off bytes).1.dict.zeroWord = s.dict.zeroWord := by
  unfold writeObject
  split
  · rfl
  · simp

@[simp] theorem dxNext_zeroWord : s.dxNext.dict.zeroWord = s.dict.zeroWord := by simp [dxNext]

@[simp] theorem writeWhole_zeroWord (r : Requester) (o : Obj) (e v : Nat) : (s.writeWhole r o e v).dict.zeroWord = s.dict.zeroWord := by
  simp [writeWhole]

@[simp] theorem replySeq_zeroWord (t : Taken) (st : Nat) (rest : List Byte) : (s.replySeq t st rest).dict.zeroWord = s.dict.zeroWord := by
  simp [replySeq]

/-! ### Machine/Ring -/

@[simp] theorem readLock_zeroWord (r : Requester) (n : Nat) : (s.readLock r n).1.dict.zeroWord = s.dict.zeroWord := by simp [readLock]

@[simp] theorem freeLock_zeroWord (r : Requester) (n : Nat) : (s.freeLock r n).1.dict.zeroWord = s.dict.zeroWord := by
  unfold freeLock
  split <;> simp

@[simp] theorem placeEvent_zeroWord (m : List Byte) : (s.placeEvent m).1.dict.zeroWord = s.dict.zeroWord := by simp [placeEvent]

@[simp] theorem ringTarget_zeroWord (r : Requester) (m : List Byte) : (s.ringTarget r m).1.dict.zeroWord = s.dict.zeroWord := by
  unfold ringTarget
  split
  · exact s.readObject_zeroWord _ _ _ _ _
  · exact (fst_mk_zeroWord _ _).trans (s.writeObject_zeroWord _ _ _ _ _)
  · rw [ite_fst_zeroWord]
    split
    · rfl
    · exact (fst_mk_zeroWord _ _).trans (s.readLock_zeroWord _ _)
  · split
    · rfl
    · exact (fst_mk_zeroWord _ _).trans (s.freeLock_zeroWord _ _)
  · split
    · exact (fst_mk_zeroWord _ _).trans (s.placeEvent_zeroWord _)
    · rfl

@[simp] theorem recordDelivered_zeroWord : s.recordDelivered.dict.zeroWord = s.dict.zeroWord := by simp [recordDelivered]

@[simp] theorem endGateway_zeroWord (st : Nat) (m : Option (List Byte)) :
    (s.endGateway st m).dict.zeroWord = s.dict.zeroWord := by simp [endGateway]

@[simp] theorem ringDeliver_zeroWord (m : List Byte) : (s.ringDeliver m).dict.zeroWord = s.dict.zeroWord := by simp [ringDeliver]

@[simp] theorem sendBack_zeroWord (m : List Byte) : (s.sendBack m).dict.zeroWord = s.dict.zeroWord := by simp [sendBack]

@[simp] theorem ringHop_zeroWord (m : List Byte) : (s.ringHop m).dict.zeroWord = s.dict.zeroWord := by
  unfold ringHop
  split <;> simp

@[simp] theorem ringRequest_zeroWord (kind gw : Nat) (m : List Byte) : (s.ringRequest kind gw m).dict.zeroWord = s.dict.zeroWord := by
  simp [ringRequest]

@[simp] theorem gatewaySend_zeroWord (sec : Bool) : (s.gatewaySend sec).dict.zeroWord = s.dict.zeroWord := by simp [gatewaySend]

/-! ### Machine/Dailies -/

@[simp] theorem overflowRecord_zeroWord : s.overflowRecord.dict.zeroWord = s.dict.zeroWord := by simp [overflowRecord]

@[simp] theorem writeRecord_zeroWord : s.writeRecord.dict.zeroWord = s.dict.zeroWord := by
  unfold writeRecord
  split <;> simp

@[simp] theorem recordWritten_zeroWord (gateway : Bool) :
    (s.recordWritten gateway).dict.zeroWord = s.dict.zeroWord := by simp [recordWritten]

@[simp] theorem recordFailed_zeroWord : s.recordFailed.dict.zeroWord = s.dict.zeroWord := by simp [recordFailed]

/-! ### Machine/FlitRows -/

@[simp] theorem receiveAs_zeroWord (f : RxFlit) (ok : Option FlitKind → Bool) : (s.receiveAs f ok).dict.zeroWord = s.dict.zeroWord := by
  unfold receiveAs
  split <;> simp

/-! ### Machine/Tap -/

@[simp] theorem setTap_zeroWord (i : Nat) : (s.setTap i).dict.zeroWord = s.dict.zeroWord := by simp [setTap]

@[simp] theorem setWrapper_zeroWord (i : Nat) : (s.setWrapper i).dict.zeroWord = s.dict.zeroWord := by simp [setWrapper]

/-! ### Machine/Tick -/

@[simp] theorem tickLink_zeroWord : s.tickLink.dict.zeroWord = s.dict.zeroWord := by simp [tickLink]

@[simp] theorem tickEgress_zeroWord (e : Egress) : (s.tickEgress e).dict.zeroWord = s.dict.zeroWord := by simp [tickEgress]

@[simp] theorem tickLclk_zeroWord : s.tickLclk.dict.zeroWord = s.dict.zeroWord := by simp [tickLclk]

/-! ### Machine/Step -/

end State

end Sys2Proof.Machine
end

section
/-! The zeroisation record (14, R373): O60. What every command keeps, one lemma for each command. -/

namespace Sys2Proof.Machine

/-- What a command answers at s keeps the record. -/
def KeepsRecord (s : State) (o : Host.Outcome State Fault Refusal) : Prop :=
  s.zeroRecord = true → ∀ t, o = .next t → t.zeroRecord = true

variable {s : State}

theorem keepsRecord_next {t : State} (h : t.dict.zeroWord = s.dict.zeroWord) : KeepsRecord s (.next t) := by
  rintro hs _ ⟨⟩
  rwa [State.zeroRecord_eq, h]

theorem keepsRecord_of_run {f : State → State} (h : s.zeroRecord = true → (f s).zeroRecord = true) : KeepsRecord s (s.run f) := by
  intro hs t ht
  unfold State.run at ht
  split at ht
  · cases ht; exact h hs
  · cases ht; exact hs

theorem keepsRecord_run {f : State → State} (h : (f s).dict.zeroWord = s.dict.zeroWord) : KeepsRecord s (s.run f) :=
  keepsRecord_of_run fun hs => by rwa [State.zeroRecord_eq, h]

theorem keepsRecord_runIf {ok : Bool} {name : String} {f : State → State} (h : (f s).dict.zeroWord = s.dict.zeroWord) :
    KeepsRecord s (s.runIf ok name f) := by
  unfold State.runIf
  split
  · exact keepsRecord_run h
  · exact fun _ _ => nofun

theorem keepsRecord_access {r : Requester} {f : State → State} (h : (f s).dict.zeroWord = s.dict.zeroWord) : KeepsRecord s (s.access r f) :=
  keepsRecord_run (s.whenOk_zeroWord _ h)

theorem keepsRecord_runAon {a : Aon} {f : State → State} (h : ∀ t, (f t).dict.zeroWord = t.dict.zeroWord) :
    KeepsRecord s (s.runAon a f) := by
  unfold State.runAon
  split
  · exact keepsRecord_next (h _)
  · exact keepsRecord_next rfl

/-! ### Machine/Flows -/

theorem execGateStart_keeps (vc : Fin 8) : KeepsRecord s (execGateStart vc s) := keepsRecord_run (by simp)

/-! ### Machine/Admission -/

theorem execAdmissionHopQuery_keeps (q : HopQuery) : KeepsRecord s (execAdmissionHopQuery q s) := keepsRecord_run (by simp)

theorem execTransitRegisterUpdate_keeps (u : TransitUpdate) : KeepsRecord s (execTransitRegisterUpdate u s) := keepsRecord_run (by simp)

theorem execFlowRecompute_keeps : KeepsRecord s (execFlowRecompute s) := keepsRecord_run (by simp)

theorem execAdmissionHopTimeout_keeps : KeepsRecord s (execAdmissionHopTimeout s) := keepsRecord_run (by split <;> simp)

/-! ### Machine/TakeOn -/

theorem execPacketTakeOn_keeps (src : Ingress) (vc : Fin 8) : KeepsRecord s (execPacketTakeOn src vc s) :=
  keepsRecord_run (s.whenOk_zeroWord _ (by split <;> simp))

theorem execReqTimeout_keeps (tag : Fin 4096) : KeepsRecord s (execReqTimeout tag s) := keepsRecord_run (by split <;> simp)

theorem execMsgTimeout_keeps (n : Nat) : KeepsRecord s (execMsgTimeout n s) := keepsRecord_run (by split <;> simp)

theorem execHoldRelease_keeps (slot : Fin 32) : KeepsRecord s (execHoldRelease slot s) :=
  keepsRecord_run (by
    split
    · rfl
    · split <;> simp)

theorem execDrainRelayHoldEnd_keeps : KeepsRecord s (execDrainRelayHoldEnd s) := keepsRecord_run (by simp)

/-! ### Machine/Telemetry -/

theorem execQueueSample_keeps : KeepsRecord s (execQueueSample s) := keepsRecord_run (by simp)

theorem execQueueSamplesRead_keeps (r : Requester) : KeepsRecord s (execQueueSamplesRead r s) :=
  keepsRecord_access (by
    rw [State.ite_zeroWord, State.reply_dict, State.reply_dict, State.readSamples_zeroWord, State.out_dict, ite_self])

theorem execPortCountersRead_keeps (r : Requester) (e : Egress) : KeepsRecord s (execPortCountersRead r e s) := keepsRecord_access (by simp)

/-! ### Machine/LinkTx -/

theorem execAckTimeoutReplay_keeps : KeepsRecord s (execAckTimeoutReplay s) := keepsRecord_run (by simp)

theorem execLinkPacketStart_keeps : KeepsRecord s (execLinkPacketStart s) :=
  keepsRecord_run (s.whenOk_zeroWord _ (by
    dsimp only
    split
    · simp
    · split
      · simp
      · split <;> simp))

theorem execSpillWrite_keeps : KeepsRecord s (execSpillWrite s) := keepsRecord_run (s.whenOk_zeroWord _ (by split <;> simp))

theorem execSpillWriteDone_keeps (block status : Nat) : KeepsRecord s (execSpillWriteDone block status s) :=
  keepsRecord_run (by
    dsimp only
    split
    · rfl
    · next ht => simp [State.takeDone_zeroWord _ ht])

theorem execSpillReadDone_keeps (block status : Nat) (data : List Byte) : KeepsRecord s (execSpillReadDone block status data s) :=
  keepsRecord_run (by
    dsimp only
    split
    · rfl
    · next t ht =>
      rw [← State.takeDone_zeroWord _ ht, State.ite_zeroWord, State.ite_zeroWord, State.whenOk_zeroWord _ _ rfl]
      simp)

theorem execLnkSpillEnWrite_keeps (r : Requester) (value : Nat) :
    KeepsRecord s (execLnkSpillEnWrite r value s) := keepsRecord_access (by simp)

/-! ### Machine/Lanes -/

theorem execCdrLockLoss_keeps (lane : Fin 72) : KeepsRecord s (execCdrLockLoss lane s) := keepsRecord_run (by simp)

theorem execLaneFecThreshold_keeps (lane : Fin 72) : KeepsRecord s (execLaneFecThreshold lane s) := keepsRecord_run (by simp)

theorem execRxRetire_keeps (r : Requester) (lane : Nat) : KeepsRecord s (execRxRetire r lane s) := keepsRecord_access (by simp)

theorem execLaneFaultRepeat_keeps : KeepsRecord s (execLaneFaultRepeat s) := keepsRecord_run (s.whenOk_zeroWord _ rfl)

theorem execLaneAck_keeps (lanes : Nat) : KeepsRecord s (execLaneAck lanes s) := keepsRecord_run (by simp)

theorem execPrepareSend_keeps : KeepsRecord s (execPrepareSend s) := keepsRecord_run (by simp)

theorem execSpliceRetry_keeps : KeepsRecord s (execSpliceRetry s) := keepsRecord_run (by simp)

theorem execSpliceTimeout_keeps : KeepsRecord s (execSpliceTimeout s) := keepsRecord_run (by split <;> simp)

theorem execLaneFault_keeps (lanes reason : Nat) : KeepsRecord s (execLaneFault lanes reason s) :=
  keepsRecord_run (s.whenOk_zeroWord _ (State.whenOk_zeroWord _ _ ((State.whenOk_zeroWord _ _ (by
    split
    · rfl
    · dsimp only
      split <;> simp)).trans (State.failTx_zeroWord _ _))))

theorem execCommitSend_keeps : KeepsRecord s (execCommitSend s) := keepsRecord_run (by split <;> simp)

theorem execSpliceReady_keeps : KeepsRecord s (execSpliceReady s) := keepsRecord_run (by simp)

theorem execPhyGroupOffWrite_keeps (r : Requester) (value : Nat) :
    KeepsRecord s (execPhyGroupOffWrite r value s) := keepsRecord_access (by simp)

theorem execScramblerReload_keeps : KeepsRecord s (execScramblerReload s) := keepsRecord_run (by simp)

/-! ### Machine/Latency -/

theorem execLatMeasureRepeat_keeps : KeepsRecord s (execLatMeasureRepeat s) := keepsRecord_run (by simp)

theorem execLatCheckTimer_keeps : KeepsRecord s (execLatCheckTimer s) := keepsRecord_run (by simp)

theorem execMarkerTimeout_keeps : KeepsRecord s (execMarkerTimeout s) := keepsRecord_run (by simp)

/-! ### Machine/LinkRx -/

theorem execNakRepeat_keeps : KeepsRecord s (execNakRepeat s) := keepsRecord_run (by simp)

theorem execDiagnosisStart_keeps : KeepsRecord s (execDiagnosisStart s) := keepsRecord_run (by simp)

theorem execDiagnosisEnd_keeps : KeepsRecord s (execDiagnosisEnd s) :=
  keepsRecord_run (by
    split
    · rfl
    · refine s.whenOk_zeroWord _ ?_
      dsimp only
      split <;> simp)

theorem execIdleLimitTimeout_keeps : KeepsRecord s (execIdleLimitTimeout s) := keepsRecord_run (by simp)

theorem execAckStallTimeout_keeps : KeepsRecord s (execAckStallTimeout s) := keepsRecord_run (by simp)

theorem execLnkForceDown_keeps (r : Requester) : KeepsRecord s (execLnkForceDown r s) := keepsRecord_access (by simp)

/-! ### Machine/Training -/

theorem execPlannedRetrain_keeps (r : Requester) : KeepsRecord s (execPlannedRetrain r s) := keepsRecord_access (by simp)

theorem execTrnStart_keeps (r : Requester) : KeepsRecord s (execTrnStart r s) := keepsRecord_access (by simp)

theorem execTrain_keeps (f : TrainFrame) : KeepsRecord s (execTrain f s) :=
  keepsRecord_run (s.whenOk_zeroWord _ (by
    dsimp only
    split
    · simp
    · split
      · split <;> simp
      · simp))

theorem execTrainFrameRepeat_keeps : KeepsRecord s (execTrainFrameRepeat s) := keepsRecord_run (by split <;> simp)

theorem execConnectDone_keeps (table : List Nat) : KeepsRecord s (execConnectDone table s) :=
  keepsRecord_run (s.whenOk_zeroWord _ (by simp))

theorem execEqualiseDone_keeps (codes : List Nat) : KeepsRecord s (execEqualiseDone codes s) :=
  keepsRecord_run (s.whenOk_zeroWord _ (by
    simp only [State.advanceTraining_zeroWord, State.sendTrain_zeroWord]
    rw [State.foldl_zeroWord (fun t p => t.loadTrims_zeroWord p _)]
    refine List.foldlRecOn (motive := fun acc : List Nat × State => acc.2.dict.zeroWord = s.dict.zeroWord) _ _ rfl fun acc h p _ => ?_
    split <;> simp [h]))

theorem execLaneCheckDone_keeps (errors noLock : List Nat) : KeepsRecord s (execLaneCheckDone errors noLock s) := keepsRecord_run (by simp)

theorem execFlitSync_keeps : KeepsRecord s (execFlitSync s) :=
  keepsRecord_run (s.whenOk_zeroWord _ (by
    dsimp only
    rw [State.ite_zeroWord, State.startMeasure_zeroWord, ite_self, State.enterTraining_zeroWord]
    split <;> simp))

theorem execLinkActive_keeps : KeepsRecord s (execLinkActive s) := keepsRecord_run (by simp)

theorem execTrainStateTimeout_keeps : KeepsRecord s (execTrainStateTimeout s) := keepsRecord_run (by simp)

theorem execSbLaneFailed_keeps (lane : Fin 2) : KeepsRecord s (execSbLaneFailed lane s) := keepsRecord_run (by simp)

theorem execSbLaneUsable_keeps (lane : Fin 2) : KeepsRecord s (execSbLaneUsable lane s) := keepsRecord_run (by simp)

theorem execSbStateTimer_keeps : KeepsRecord s (execSbStateTimer s) := keepsRecord_run (by simp)

theorem execSbState_keeps (bits : Nat) : KeepsRecord s (execSbState bits s) := keepsRecord_run (by simp)

theorem execSidebandFrameDiscard_keeps (type len : Nat) (crcOk : Bool) : KeepsRecord s (execSidebandFrameDiscard type len crcOk s) :=
  keepsRecord_run (by simp)

theorem execSbCharacterLock_keeps : KeepsRecord s (execSbCharacterLock s) := keepsRecord_run (by dsimp only; split <;> simp)

theorem execSlate_keeps (bytes : List Byte) : KeepsRecord s (execSlate bytes s) :=
  keepsRecord_runIf (s.whenOk_zeroWord _ (by simp))

/-! ### Machine/Calib -/

theorem execTempSample_keeps (temps : List Int) : KeepsRecord s (execTempSample temps s) :=
  keepsRecord_run (s.whenOk_zeroWord _ (by simp))

theorem execTrimStep_keeps : KeepsRecord s (execTrimStep s) := keepsRecord_run (by simp)

theorem execRecalStart_keeps (lane : Fin 72) : KeepsRecord s (execRecalStart lane s) := keepsRecord_run (by simp)

theorem execRecalDone_keeps (codes : List Int) : KeepsRecord s (execRecalDone codes s) := keepsRecord_run (by split <;> simp)

theorem execDeskewCheck_keeps (attempts : List (List Nat × List Nat)) : KeepsRecord s (execDeskewCheck attempts s) :=
  keepsRecord_run (s.whenOk_zeroWord _ (by split <;> simp))

theorem execStepGraceEnd_keeps : KeepsRecord s (execStepGraceEnd s) := keepsRecord_run (by simp)

theorem execRecheckDone_keeps : KeepsRecord s (execRecheckDone s) := keepsRecord_run (by split <;> simp)

theorem execMarginPlan_keeps : KeepsRecord s (execMarginPlan s) := keepsRecord_run (by simp)

theorem execLaneRetire_keeps (lane : Fin 72) : KeepsRecord s (execLaneRetire lane s) := keepsRecord_run (by simp)

theorem execSeqLockRetry_keeps : KeepsRecord s (execSeqLockRetry s) := keepsRecord_run (s.whenOk_zeroWord _ (by split <;> simp))

theorem execSeqWatchdog_keeps (imageOk : Bool) : KeepsRecord s (execSeqWatchdog imageOk s) := keepsRecord_run (by simp)

theorem execAgeingMonitor_keeps (counts : List Nat) : KeepsRecord s (execAgeingMonitor counts s) := keepsRecord_run (by simp)

theorem execEyeScanStart_keeps (lane : Fin 72) :
    KeepsRecord s (execEyeScanStart lane s) := keepsRecord_run (s.whenOk_zeroWord _ (by split <;> simp))

theorem execEyeScanDone_keeps (height width : Nat) : KeepsRecord s (execEyeScanDone height width s) := keepsRecord_run (by split <;> simp)

/-! ### Machine/StackPort -/

theorem execStackCmdIssue_keeps (p : Fin 32) : KeepsRecord s (execStackCmdIssue p s) := keepsRecord_run (by simp)

theorem execStackCmdAccept_keeps (p : Fin 32) :
    KeepsRecord s (execStackCmdAccept p s) := keepsRecord_run (s.whenOk_zeroWord _ (by split <;> simp))

theorem execStackResponse_keeps (p : Fin 32) (tag : Fin 256) (data : List Byte) (md : Nat) (err : Fin 4) :
    KeepsRecord s (execStackResponse p tag data md err s) :=
  keepsRecord_runIf (s.whenOk_zeroWord _ (by dsimp only; split <;> simp))

theorem execStackRspTimeout_keeps (p : Fin 32) (tag : Fin 256) : KeepsRecord s (execStackRspTimeout p tag s) :=
  keepsRecord_run (by dsimp only; split <;> simp)

theorem execSkPcDown_keeps (p : Fin 32) (level : Bool) : KeepsRecord s (execSkPcDown p level s) := keepsRecord_run (by simp)

theorem execScrubRead_keeps : KeepsRecord s (execScrubRead s) := keepsRecord_run (s.whenOk_zeroWord _ (by dsimp only; split <;> simp))

theorem execRekeyStep_keeps : KeepsRecord s (execRekeyStep s) :=
  keepsRecord_run (s.whenOk_zeroWord _ (by
    split
    · split <;> simp
    · rfl))

/-! ### Machine/Ports -/

theorem execStreamIngressPacket_keeps (sub : Fin 2) (vc : Fin 8) (bytes : List Byte) (poisonBeats badBeats : List Nat) :
    KeepsRecord s (execStreamIngressPacket sub vc bytes poisonBeats badBeats s) :=
  keepsRecord_runIf (by simp)

theorem execStreamEgressCredit_keeps (vc : Fin 8) (n : Fin 16) : KeepsRecord s (execStreamEgressCredit vc n s) := keepsRecord_run (by simp)

theorem execStreamEgressStart_keeps (sub : Fin 2) : KeepsRecord s (execStreamEgressStart sub s) :=
  keepsRecord_run (s.whenOk_zeroWord _ (by split <;> simp))

theorem execStreamEgressEop_keeps (sub : Fin 2) : KeepsRecord s (execStreamEgressEop sub s) := keepsRecord_run (by split <;> simp)

theorem execRelayIngressPacket_keeps (vc : Fin 8) (flits : List (List Byte)) (bad : List Nat) :
    KeepsRecord s (execRelayIngressPacket vc flits bad s) :=
  keepsRecord_runIf (by simp)

theorem execRelayCredit_keeps (vc : Fin 8) (n : Fin 16) : KeepsRecord s (execRelayCredit vc n s) := keepsRecord_run (by simp)

theorem execRelayEgressStart_keeps : KeepsRecord s (execRelayEgressStart s) := keepsRecord_run (s.whenOk_zeroWord _ (by split <;> simp))

theorem execRlIUpChange_keeps (bits : Nat) : KeepsRecord s (execRlIUpChange bits s) := keepsRecord_run (by simp)

theorem execPortLockEnable_keeps (r : Requester) (port : Port) : KeepsRecord s (execPortLockEnable r port s) := keepsRecord_access (by simp)

theorem execPortLockMeasure_keeps (port : Port) (onGrid moved : Bool) : KeepsRecord s (execPortLockMeasure port onGrid moved s) :=
  keepsRecord_run (by simp)

theorem execPortLockSet_keeps (port : Port) : KeepsRecord s (execPortLockSet port s) := keepsRecord_run (by split <;> simp)

theorem execPortLockCheck_keeps (port : Port) (moved : Bool) : KeepsRecord s (execPortLockCheck port moved s) := keepsRecord_run (by simp)

theorem execPortLockDisable_keeps (r : Requester) (port : Port) :
    KeepsRecord s (execPortLockDisable r port s) := keepsRecord_access (by simp)

theorem execPortLockExit_keeps (port : Port) : KeepsRecord s (execPortLockExit port s) := keepsRecord_run (by simp)

theorem execPktSportRestart_keeps (r : Requester) : KeepsRecord s (execPktSportRestart r s) := keepsRecord_access (by simp)

theorem execStkSportRestart_keeps (r : Requester) : KeepsRecord s (execStkSportRestart r s) := keepsRecord_access (by simp)

/-! ### Machine/Submit -/

theorem execOpSubmit_keeps : KeepsRecord s (execOpSubmit s) := keepsRecord_run (by split <;> simp)

theorem execWcetRecompute_keeps : KeepsRecord s (execWcetRecompute s) := keepsRecord_run (by simp)

/-! ### Machine/Reduce -/

theorem execRedWr_keeps : KeepsRecord s (execRedWr s) := keepsRecord_run (by split <;> simp)

theorem execRedWrAddDone_keeps : KeepsRecord s (execRedWrAddDone s) :=
  keepsRecord_run (by
    dsimp only
    split
    · split <;> simp
    · rfl)

theorem execReduceFinish_keeps (id : Nat) : KeepsRecord s (execReduceFinish id s) :=
  keepsRecord_run (by
    split
    · rfl
    · split <;> simp)

/-! ### Machine/Tiles -/

theorem execDescriptorStart_keeps (q : Fin 64) :
    KeepsRecord s (execDescriptorStart q s) := keepsRecord_run (s.whenOk_zeroWord _ (by split <;> simp))

theorem execTileDispatch_keeps (cell : Fin 136) : KeepsRecord s (execTileDispatch cell s) := keepsRecord_run (by simp)

theorem execTileDone_keeps (cell : Fin 136) : KeepsRecord s (execTileDone cell s) :=
  keepsRecord_run (s.whenOk_zeroWord _ (by
    split
    · split
      · rfl
      · split <;> simp
    · rfl))

theorem execOperandAccessDone_keeps (id : Nat) : KeepsRecord s (execOperandAccessDone id s) :=
  keepsRecord_run (by
    split
    · rfl
    · split <;> simp)

theorem execDescriptorFinish_keeps (q : Fin 64) : KeepsRecord s (execDescriptorFinish q s) := keepsRecord_run (by split <;> simp)

theorem execCellFault_keeps (cell : Fin 136) : KeepsRecord s (execCellFault cell s) :=
  keepsRecord_run (by
    dsimp only
    split
    · rfl
    · split
      · simp
      · split <;> simp)

theorem execClusterIdleGate_keeps (k : Fin 8) : KeepsRecord s (execClusterIdleGate k s) := keepsRecord_run (by simp)

theorem execClusterWake_keeps (k : Fin 8) : KeepsRecord s (execClusterWake k s) := keepsRecord_run (by simp)

/-! ### Machine/Clocks -/

theorem execClockWindow_keeps (lclk aclk sclk fclk hclk mclk : Nat) : KeepsRecord s (execClockWindow lclk aclk sclk fclk hclk mclk s) :=
  keepsRecord_run (by simp)

theorem execPllLossOfLock_keeps (pll : Pll) : KeepsRecord s (execPllLossOfLock pll s) := keepsRecord_run (by simp)

theorem execRclkAbsent_keeps : KeepsRecord s (execRclkAbsent s) := keepsRecord_runAon (by simp)

theorem execRclkReturn_keeps : KeepsRecord s (execRclkReturn s) := keepsRecord_runAon (by simp)

theorem execPwrClkRestartSeq_keeps (r : Requester) : KeepsRecord s (execPwrClkRestartSeq r s) := keepsRecord_access (by simp)

theorem execPwrClkRestartArray_keeps (r : Requester) : KeepsRecord s (execPwrClkRestartArray r s) := keepsRecord_access (by simp)

/-! ### Machine/Mailbox -/

theorem execMailboxSend_keeps (sec : Bool) (j : Fin 6) (len : Nat) :
    KeepsRecord s (execMailboxSend sec j len s) := keepsRecord_run (by simp)

theorem execMailboxAbort_keeps (sec : Bool) (j : Fin 6) : KeepsRecord s (execMailboxAbort sec j s) := keepsRecord_run (by simp)

theorem execMailboxRelease_keeps (sec : Bool) (j : Fin 6) : KeepsRecord s (execMailboxRelease sec j s) := keepsRecord_run (by simp)

theorem execMailboxTaken_keeps (j : Fin 6) : KeepsRecord s (execMailboxTaken j s) := keepsRecord_run (by simp)

theorem execMailboxBufferWrite_keeps (sec : Bool) (j : Fin 6) (inbound : Bool) (offset value : Nat) :
    KeepsRecord s (execMailboxBufferWrite sec j inbound offset value s) :=
  keepsRecord_run (by simp)

theorem execTunnel_keeps (bytes : List Byte) : KeepsRecord s (execTunnel bytes s) := keepsRecord_run (by simp)

theorem execTunnelS_keeps (bytes : List Byte) : KeepsRecord s (execTunnelS bytes s) := keepsRecord_run (by simp)

theorem execTunnelTimeout_keeps (j : Fin 6) : KeepsRecord s (execTunnelTimeout j s) := keepsRecord_run (by simp)

theorem execEcho_keeps : KeepsRecord s (execEcho s) := keepsRecord_run (by split <;> simp)

/-! ### Machine/Keys -/

theorem execKeyLoad_keeps (msg : List Byte) : KeepsRecord s (execKeyLoad msg s) := keepsRecord_run (by simp)

theorem execKeySelect_keeps (msg : List Byte) : KeepsRecord s (execKeySelect msg s) := keepsRecord_run (by simp)

theorem execKeyClear_keeps (msg : List Byte) : KeepsRecord s (execKeyClear msg s) := keepsRecord_run (by simp)

theorem execDigestDone_keeps : KeepsRecord s (execDigestDone s) := keepsRecord_run (by simp)

/-! ### Machine/Engines -/

theorem execContinuityFrame_keeps (frame : List Byte) : KeepsRecord s (execContinuityFrame frame s) := keepsRecord_runIf (by simp)

theorem execResyncDone_keeps : KeepsRecord s (execResyncDone s) :=
  keepsRecord_run (s.whenOk_zeroWord _ ((State.whenOk_zeroWord _ _ (by simp)).trans s.applyHeld_zeroWord))

theorem execFence_keeps (r : Requester) : KeepsRecord s (execFence r s) := keepsRecord_access (by simp)

theorem execUnfence_keeps (r : Requester) : KeepsRecord s (execUnfence r s) := keepsRecord_access (by simp)

theorem execYieldEngine_keeps (code : Fin 5) : KeepsRecord s (execYieldEngine code s) := keepsRecord_run (by simp)

theorem execTakeoverResume_keeps : KeepsRecord s (execTakeoverResume s) := keepsRecord_run (by simp)

theorem execEngineRetestDone_keeps (pass : Bool) : KeepsRecord s (execEngineRetestDone pass s) := keepsRecord_run (by split <;> simp)

theorem execStandinSegmentTest_keeps : KeepsRecord s (execStandinSegmentTest s) := keepsRecord_run (by simp)

theorem execSegmentDone_keeps (pass : Bool) : KeepsRecord s (execSegmentDone pass s) := keepsRecord_run (by split <;> simp)

theorem execSharedEccError_keeps (e : EccError) : KeepsRecord s (execSharedEccError e s) := keepsRecord_run (by simp)

/-! ### Machine/Screen -/

theorem execTestDone_keeps (u : TestUnit) (map : Nat) (rows : List (Nat × Nat)) : KeepsRecord s (execTestDone u map rows s) :=
  keepsRecord_run (by simp)

theorem execFieldTestTurn_keeps (u : TestUnit) (taken : Bool) : KeepsRecord s (execFieldTestTurn u taken s) :=
  keepsRecord_run (s.whenOk_zeroWord _ (by simp))

theorem execPowerEstimate_keeps (mW : Nat) : KeepsRecord s (execPowerEstimate mW s) := keepsRecord_run (by simp)

theorem execSensorReferenceCheck_keeps (g : Fin 8) (deviation : Int) : KeepsRecord s (execSensorReferenceCheck g deviation s) :=
  keepsRecord_run (by simp)

theorem execScrRunCluster_keeps (r : Requester) (index : Nat) : KeepsRecord s (execScrRunCluster r index s) := keepsRecord_access (by simp)

theorem execScrRunLaneGroup_keeps (r : Requester) (index : Nat) :
    KeepsRecord s (execScrRunLaneGroup r index s) := keepsRecord_access (by simp)

theorem execScrRunFarTest_keeps (r : Requester) (index : Nat) : KeepsRecord s (execScrRunFarTest r index s) := keepsRecord_access (by simp)

theorem execScrRunFarRespond_keeps (r : Requester) (index : Nat) :
    KeepsRecord s (execScrRunFarRespond r index s) := keepsRecord_access (by simp)

theorem execScrRunStandin_keeps (r : Requester) : KeepsRecord s (execScrRunStandin r s) := keepsRecord_access (by simp)

theorem execScrRunScratch_keeps (r : Requester) : KeepsRecord s (execScrRunScratch r s) := keepsRecord_access (by simp)

theorem execScrRunSharedStorage_keeps (r : Requester) : KeepsRecord s (execScrRunSharedStorage r s) := keepsRecord_access (by simp)

theorem execScrRunAnalog_keeps (r : Requester) : KeepsRecord s (execScrRunAnalog r s) := keepsRecord_access (by simp)

/-! ### Machine/Power -/

theorem execPwrDomainCtrlWrite_keeps (r : Requester) (value : Nat) :
    KeepsRecord s (execPwrDomainCtrlWrite r value s) := keepsRecord_access (by simp)

theorem execPwrCycle_keeps (r : Requester) (value : Nat) : KeepsRecord s (execPwrCycle r value s) := keepsRecord_access (by simp)

theorem execDomainReady_keeps (d : Fin 20) : KeepsRecord s (execDomainReady d s) := keepsRecord_run (by simp)

theorem execPwrFwLoad_keeps (r : Requester) : KeepsRecord s (execPwrFwLoad r s) := keepsRecord_access (by simp)

theorem execFwOnlineUpdate_keeps (r : Requester) : KeepsRecord s (execFwOnlineUpdate r s) := keepsRecord_access (by simp)

theorem execBringupStep_keeps (n : Fin 11) : KeepsRecord s (execBringupStep n s) := keepsRecord_run (by simp)

theorem execPwrReset_keeps (r : Requester) : KeepsRecord s (execPwrReset r s) := keepsRecord_access (by simp)

theorem execResetSettleTimeout_keeps : KeepsRecord s (execResetSettleTimeout s) := keepsRecord_run (by simp)

theorem execAonPowerLoss_keeps : KeepsRecord s (execAonPowerLoss s) := keepsRecord_next rfl

/-! ### Machine/Zeroise -/

theorem execScrZeroise_keeps (r : Requester) : KeepsRecord s (execScrZeroise r s) := keepsRecord_access (by simp)

theorem execZeroiseClearTimeout_keeps (d : Fin 20) : KeepsRecord s (execZeroiseClearTimeout d s) := keepsRecord_run (by simp)

/-- ZEROISE_DONE writes a record (R373): bit 0 of its word is 1. -/
theorem execZeroiseDone_keeps : KeepsRecord s (execZeroiseDone s) := by
  have hword (b : Bool) : (Obj.scrZeroRecord.fit 1 (1 + 2 * ofBool b)).testBit 0 = true := by cases b <;> decide
  refine keepsRecord_of_run fun hs => ?_
  dsimp only [State.whenOk]
  split
  · split <;> simp [State.zeroRecord_eq, State.setEntry_zeroWord_self, hword]
  · exact hs

/-! ### Machine/Scenes -/

theorem execMgtScriptLoad_keeps (r : Requester) : KeepsRecord s (execMgtScriptLoad r s) := keepsRecord_access (by simp)

theorem execMgtSceneLoad_keeps (r : Requester) (n : Nat) : KeepsRecord s (execMgtSceneLoad r n s) := keepsRecord_access (by simp)

theorem execMgtSceneCommit_keeps (r : Requester) (mask : Nat) : KeepsRecord s (execMgtSceneCommit r mask s) := keepsRecord_access (by simp)

theorem execCommitDone_keeps (answers : List HopAnswer) : KeepsRecord s (execCommitDone answers s) := keepsRecord_run (by split <;> simp)

theorem execComplementCheck_keeps (v : CompValue) : KeepsRecord s (execComplementCheck v s) := keepsRecord_run (by simp)

/-! ### Machine/Dictionary -/

theorem execDxSelWrite_keeps (sec : Bool) (value : Nat) : KeepsRecord s (execDxSelWrite sec value s) := keepsRecord_access (by simp)

theorem execDxDataRead_keeps (sec : Bool) : KeepsRecord s (execDxDataRead sec s) := keepsRecord_access (by simp)

theorem execDxDataWrite_keeps (sec : Bool) (value : Nat) : KeepsRecord s (execDxDataWrite sec value s) := keepsRecord_access (by simp)

theorem execObjectWrite_keeps (r : Requester) (index sub offset : Nat) (data : List Byte) :
    KeepsRecord s (execObjectWrite r index sub offset data s) :=
  keepsRecord_access (by simp)

theorem execPktFaWrite_keeps (r : Requester) (value : Nat) : KeepsRecord s (execPktFaWrite r value s) := keepsRecord_access (by simp)

theorem execRouteActiveWrite_keeps (r : Requester) (value : Nat) :
    KeepsRecord s (execRouteActiveWrite r value s) := keepsRecord_access (by simp)

theorem execRouteTableWrite_keeps (r : Requester) (table : Fin 2) (die : Fin 64) (value : Nat) :
    KeepsRecord s (execRouteTableWrite r table die value s) :=
  keepsRecord_access (by simp)

theorem execTclRecheckRate_keeps (r : Requester) (value : Nat) :
    KeepsRecord s (execTclRecheckRate r value s) := keepsRecord_access (by simp)

theorem execStkPartApply_keeps (r : Requester) : KeepsRecord s (execStkPartApply r s) := keepsRecord_access (by simp)

theorem execMgtLockForce_keeps (r : Requester) (value : Nat) : KeepsRecord s (execMgtLockForce r value s) := keepsRecord_access (by simp)

theorem execMgtSeal_keeps (r : Requester) (value : Nat) : KeepsRecord s (execMgtSeal r value s) := keepsRecord_access (by simp)

theorem execMgtEvtCidxWrite_keeps (r : Requester) (value : Nat) :
    KeepsRecord s (execMgtEvtCidxWrite r value s) := keepsRecord_access (by simp)

theorem execObjRead_keeps : KeepsRecord s (execObjRead s) := keepsRecord_run (by split <;> simp)

theorem execObjWrite_keeps : KeepsRecord s (execObjWrite s) := keepsRecord_run (by split <;> simp)

/-! ### Machine/Ring -/

theorem execLockRead_keeps (r : Requester) (n : Fin 32) : KeepsRecord s (execLockRead r n s) :=
  keepsRecord_access ((State.out_zeroWord _ _).trans (s.readLock_zeroWord r n))

theorem execLockRelease_keeps (r : Requester) (n : Fin 32) : KeepsRecord s (execLockRelease r n s) := keepsRecord_access (by simp)

theorem execRingRead_keeps (input : RingInput) (msg : List Byte) : KeepsRecord s (execRingRead input msg s) := keepsRecord_run (by simp)

theorem execRingWrite_keeps (gw : Nat) (input : RingInput) (msg : List Byte) : KeepsRecord s (execRingWrite gw input msg s) :=
  keepsRecord_run (by simp)

theorem execRingLock_keeps (gw : Nat) (input : RingInput) (msg : List Byte) :
    KeepsRecord s (execRingLock gw input msg s) := keepsRecord_run (by simp)

theorem execRingUnlock_keeps (gw : Nat) (input : RingInput) (msg : List Byte) : KeepsRecord s (execRingUnlock gw input msg s) :=
  keepsRecord_run (by simp)

theorem execRingEvent_keeps (input : RingInput) (msg : List Byte) : KeepsRecord s (execRingEvent input msg s) := keepsRecord_run (by simp)

theorem execRingHop_keeps (input : RingInput) (msg : List Byte) : KeepsRecord s (execRingHop input msg s) := keepsRecord_run (by simp)

theorem execRingReply_keeps (input : RingInput) (msg : List Byte) : KeepsRecord s (execRingReply input msg s) := keepsRecord_run (by simp)

theorem execRingBroken_keeps : KeepsRecord s (execRingBroken s) := keepsRecord_run (by simp)

theorem execRingRestored_keeps : KeepsRecord s (execRingRestored s) := keepsRecord_run (by simp)

theorem execGatewaySend_keeps (sec : Bool) (value : Nat) : KeepsRecord s (execGatewaySend sec value s) := keepsRecord_access (by simp)

theorem execGatewayRequestWrite_keeps (sec : Bool) (offset value : Nat) : KeepsRecord s (execGatewayRequestWrite sec offset value s) :=
  keepsRecord_access (by simp)

theorem execGatewayTimeout_keeps : KeepsRecord s (execGatewayTimeout s) := keepsRecord_run (by simp)

/-! ### Machine/Dailies -/

theorem execEventRecordWrite_keeps : KeepsRecord s (execEventRecordWrite s) := keepsRecord_run (by simp)

theorem execEventWriteDone_keeps (status : Nat) : KeepsRecord s (execEventWriteDone status s) :=
  keepsRecord_run (by
    split
    · next ht => simp [State.takeDone_zeroWord _ ht]
    · next ht => simp [State.takeDone_zeroWord _ ht]
    · rfl)

theorem execEventWriteRetry_keeps : KeepsRecord s (execEventWriteRetry s) := keepsRecord_run (by simp)

theorem execPstateWrite_keeps : KeepsRecord s (execPstateWrite s) := keepsRecord_run (by simp)

theorem execEventRingTimeout_keeps : KeepsRecord s (execEventRingTimeout s) := keepsRecord_run (by simp)

theorem execEventRingRetry_keeps : KeepsRecord s (execEventRingRetry s) := keepsRecord_run (by simp)

/-! ### Machine/FlitRows -/

theorem execDataFlit_keeps (f : RxFlit) : KeepsRecord s (execDataFlit f s) := keepsRecord_runIf (by simp)

theorem execIdleFlit_keeps (f : RxFlit) : KeepsRecord s (execIdleFlit f s) := keepsRecord_runIf (by simp)

theorem execFlitFail_keeps (f : RxFlit) : KeepsRecord s (execFlitFail f s) := keepsRecord_runIf (by simp)

theorem execFlitProtoErr_keeps (f : RxFlit) : KeepsRecord s (execFlitProtoErr f s) := keepsRecord_runIf (by simp)

theorem execPrepareFlit_keeps (f : RxFlit) : KeepsRecord s (execPrepareFlit f s) := keepsRecord_runIf (by simp)

theorem execCommitFlit_keeps (f : RxFlit) : KeepsRecord s (execCommitFlit f s) := keepsRecord_runIf (by simp)

theorem execCancelFlit_keeps (f : RxFlit) : KeepsRecord s (execCancelFlit f s) := keepsRecord_runIf (by simp)

theorem execMeasureMarker_keeps (f : RxFlit) : KeepsRecord s (execMeasureMarker f s) := keepsRecord_runIf (by simp)

theorem execReturnMarker_keeps (f : RxFlit) : KeepsRecord s (execReturnMarker f s) := keepsRecord_runIf (by simp)

theorem execSetMarker_keeps (f : RxFlit) : KeepsRecord s (execSetMarker f s) := keepsRecord_runIf (by simp)

theorem execVerifyMarker_keeps (f : RxFlit) : KeepsRecord s (execVerifyMarker f s) := keepsRecord_runIf (by simp)

theorem execVerifyReturn_keeps (f : RxFlit) : KeepsRecord s (execVerifyReturn f s) := keepsRecord_runIf (by simp)

/-! ### Machine/Tap -/

theorem execBypass_keeps : KeepsRecord s (execBypass s) := keepsRecord_run (by simp)

theorem execSamplePreload_keeps (pins preload : List Bool) : KeepsRecord s (execSamplePreload pins preload s) := keepsRecord_run (by simp)

theorem execExtest_keeps : KeepsRecord s (execExtest s) := keepsRecord_run (by simp)

theorem execIdcode_keeps (mfr : Fin 2048) : KeepsRecord s (execIdcode mfr s) := keepsRecord_run (by simp)

theorem execIntestWrap_keeps : KeepsRecord s (execIntestWrap s) := keepsRecord_run (by simp)

theorem execWsBypass_keeps : KeepsRecord s (execWsBypass s) := keepsRecord_run (by simp)

theorem execWsExtest_keeps : KeepsRecord s (execWsExtest s) := keepsRecord_run (by simp)

theorem execWsIntest_keeps : KeepsRecord s (execWsIntest s) := keepsRecord_run (by simp)

theorem execWsScan_keeps : KeepsRecord s (execWsScan s) := keepsRecord_run (by simp)

end Sys2Proof.Machine
end

section
/-! The zeroisation record (14, R373): O60. The statement's clauses. -/

namespace Sys2Proof.Machine

/-! ### Every command and every tick keep the record -/

theorem exec_keepsRecord {s : State} (c : Instr) (hc : ∀ strap, c ≠ .aonPowerUp strap) : KeepsRecord s (exec c s) := by
  cases c with
  | aonPowerUp strap => exact absurd rfl (hc strap)
  | aonPowerLoss => exact execAonPowerLoss_keeps
  | clockWindow lclk aclk sclk fclk hclk mclk => exact execClockWindow_keeps lclk aclk sclk fclk hclk mclk
  | pllLossOfLock pll => exact execPllLossOfLock_keeps pll
  | rclkAbsent => exact execRclkAbsent_keeps
  | rclkReturn => exact execRclkReturn_keeps
  | pwrClkRestartSeq r => exact execPwrClkRestartSeq_keeps r
  | pwrClkRestartArray r => exact execPwrClkRestartArray_keeps r
  | pktSportRestart r => exact execPktSportRestart_keeps r
  | stkSportRestart r => exact execStkSportRestart_keeps r
  | portLockEnable r port => exact execPortLockEnable_keeps r port
  | portLockMeasure port onGrid moved => exact execPortLockMeasure_keeps port onGrid moved
  | portLockSet port => exact execPortLockSet_keeps port
  | portLockCheck port moved => exact execPortLockCheck_keeps port moved
  | portLockDisable r port => exact execPortLockDisable_keeps r port
  | portLockExit port => exact execPortLockExit_keeps port
  | streamIngressPacket sub vc bytes poisonBeats badBeats => exact execStreamIngressPacket_keeps sub vc bytes poisonBeats badBeats
  | streamEgressCredit vc n => exact execStreamEgressCredit_keeps vc n
  | streamEgressStart sub => exact execStreamEgressStart_keeps sub
  | streamEgressEop sub => exact execStreamEgressEop_keeps sub
  | holdRelease slot => exact execHoldRelease_keeps slot
  | stackCmdIssue p => exact execStackCmdIssue_keeps p
  | stackCmdAccept p => exact execStackCmdAccept_keeps p
  | stackResponse p tag data md err => exact execStackResponse_keeps p tag data md err
  | stackRspTimeout p tag => exact execStackRspTimeout_keeps p tag
  | skPcDown p level => exact execSkPcDown_keeps p level
  | relayIngressPacket vc flits bad => exact execRelayIngressPacket_keeps vc flits bad
  | relayCredit vc n => exact execRelayCredit_keeps vc n
  | relayEgressStart => exact execRelayEgressStart_keeps
  | rlIUpChange bits => exact execRlIUpChange_keeps bits
  | dxSelWrite sec value => exact execDxSelWrite_keeps sec value
  | dxDataRead sec => exact execDxDataRead_keeps sec
  | dxDataWrite sec value => exact execDxDataWrite_keeps sec value
  | objectWrite r index sub offset data => exact execObjectWrite_keeps r index sub offset data
  | sbLaneFailed lane => exact execSbLaneFailed_keeps lane
  | sbLaneUsable lane => exact execSbLaneUsable_keeps lane
  | sbStateTimer => exact execSbStateTimer_keeps
  | sbState bits => exact execSbState_keeps bits
  | sidebandFrameDiscard type len crcOk => exact execSidebandFrameDiscard_keeps type len crcOk
  | train f => exact execTrain_keeps f
  | trainFrameRepeat => exact execTrainFrameRepeat_keeps
  | slate bytes => exact execSlate_keeps bytes
  | laneFault lanes reason => exact execLaneFault_keeps lanes reason
  | laneFaultRepeat => exact execLaneFaultRepeat_keeps
  | laneAck lanes => exact execLaneAck_keeps lanes
  | bypass => exact execBypass_keeps
  | samplePreload pins preload => exact execSamplePreload_keeps pins preload
  | extest => exact execExtest_keeps
  | idcode mfr => exact execIdcode_keeps mfr
  | intestWrap => exact execIntestWrap_keeps
  | wsBypass => exact execWsBypass_keeps
  | wsExtest => exact execWsExtest_keeps
  | wsIntest => exact execWsIntest_keeps
  | wsScan => exact execWsScan_keeps
  | trnStart r => exact execTrnStart_keeps r
  | plannedRetrain r => exact execPlannedRetrain_keeps r
  | trainStateTimeout => exact execTrainStateTimeout_keeps
  | connectDone table => exact execConnectDone_keeps table
  | equaliseDone codes => exact execEqualiseDone_keeps codes
  | laneCheckDone errors noLock => exact execLaneCheckDone_keeps errors noLock
  | flitSync => exact execFlitSync_keeps
  | linkActive => exact execLinkActive_keeps
  | scramblerReload => exact execScramblerReload_keeps
  | phyGroupOffWrite r value => exact execPhyGroupOffWrite_keeps r value
  | cdrLockLoss lane => exact execCdrLockLoss_keeps lane
  | laneFecThreshold lane => exact execLaneFecThreshold_keeps lane
  | rxRetire r lane => exact execRxRetire_keeps r lane
  | prepareSend => exact execPrepareSend_keeps
  | prepareFlit f => exact execPrepareFlit_keeps f
  | spliceReady => exact execSpliceReady_keeps
  | commitSend => exact execCommitSend_keeps
  | commitFlit f => exact execCommitFlit_keeps f
  | spliceTimeout => exact execSpliceTimeout_keeps
  | spliceRetry => exact execSpliceRetry_keeps
  | cancelFlit f => exact execCancelFlit_keeps f
  | measureMarker f => exact execMeasureMarker_keeps f
  | latMeasureRepeat => exact execLatMeasureRepeat_keeps
  | returnMarker f => exact execReturnMarker_keeps f
  | setMarker f => exact execSetMarker_keeps f
  | verifyMarker f => exact execVerifyMarker_keeps f
  | verifyReturn f => exact execVerifyReturn_keeps f
  | latCheckTimer => exact execLatCheckTimer_keeps
  | markerTimeout => exact execMarkerTimeout_keeps
  | dataFlit f => exact execDataFlit_keeps f
  | idleFlit f => exact execIdleFlit_keeps f
  | flitFail f => exact execFlitFail_keeps f
  | flitProtoErr f => exact execFlitProtoErr_keeps f
  | linkPacketStart => exact execLinkPacketStart_keeps
  | nakRepeat => exact execNakRepeat_keeps
  | ackTimeoutReplay => exact execAckTimeoutReplay_keeps
  | spillWrite => exact execSpillWrite_keeps
  | spillWriteDone block status => exact execSpillWriteDone_keeps block status
  | spillReadDone block status data => exact execSpillReadDone_keeps block status data
  | lnkSpillEnWrite r value => exact execLnkSpillEnWrite_keeps r value
  | diagnosisStart => exact execDiagnosisStart_keeps
  | diagnosisEnd => exact execDiagnosisEnd_keeps
  | idleLimitTimeout => exact execIdleLimitTimeout_keeps
  | ackStallTimeout => exact execAckStallTimeout_keeps
  | lnkForceDown r => exact execLnkForceDown_keeps r
  | packetTakeOn src vc => exact execPacketTakeOn_keeps src vc
  | pktFaWrite r value => exact execPktFaWrite_keeps r value
  | reqTimeout tag => exact execReqTimeout_keeps tag
  | msgTimeout n => exact execMsgTimeout_keeps n
  | routeActiveWrite r value => exact execRouteActiveWrite_keeps r value
  | routeTableWrite r table die value => exact execRouteTableWrite_keeps r table die value
  | gateStart vc => exact execGateStart_keeps vc
  | admissionHopTimeout => exact execAdmissionHopTimeout_keeps
  | flowRecompute => exact execFlowRecompute_keeps
  | tclRecheckRate r value => exact execTclRecheckRate_keeps r value
  | recheckDone => exact execRecheckDone_keeps
  | queueSample => exact execQueueSample_keeps
  | queueSamplesRead r => exact execQueueSamplesRead_keeps r
  | portCountersRead r e => exact execPortCountersRead_keeps r e
  | opSubmit => exact execOpSubmit_keeps
  | descriptorStart q => exact execDescriptorStart_keeps q
  | tileDispatch cell => exact execTileDispatch_keeps cell
  | tileDone cell => exact execTileDone_keeps cell
  | cellFault cell => exact execCellFault_keeps cell
  | operandAccessDone id => exact execOperandAccessDone_keeps id
  | descriptorFinish q => exact execDescriptorFinish_keeps q
  | clusterIdleGate k => exact execClusterIdleGate_keeps k
  | clusterWake k => exact execClusterWake_keeps k
  | wcetRecompute => exact execWcetRecompute_keeps
  | redWr => exact execRedWr_keeps
  | reduceFinish id => exact execReduceFinish_keeps id
  | scrubRead => exact execScrubRead_keeps
  | rekeyStep => exact execRekeyStep_keeps
  | stkPartApply r => exact execStkPartApply_keeps r
  | keyLoad msg => exact execKeyLoad_keeps msg
  | keySelect msg => exact execKeySelect_keeps msg
  | keyClear msg => exact execKeyClear_keeps msg
  | digestDone => exact execDigestDone_keeps
  | complementCheck v => exact execComplementCheck_keeps v
  | continuityFrame frame => exact execContinuityFrame_keeps frame
  | yieldEngine code => exact execYieldEngine_keeps code
  | takeoverResume => exact execTakeoverResume_keeps
  | standinSegmentTest => exact execStandinSegmentTest_keeps
  | segmentDone pass => exact execSegmentDone_keeps pass
  | engineRetestDone pass => exact execEngineRetestDone_keeps pass
  | resyncDone => exact execResyncDone_keeps
  | sharedEccError e => exact execSharedEccError_keeps e
  | fence r => exact execFence_keeps r
  | unfence r => exact execUnfence_keeps r
  | tempSample temps => exact execTempSample_keeps temps
  | trimStep => exact execTrimStep_keeps
  | recalStart lane => exact execRecalStart_keeps lane
  | recalDone codes => exact execRecalDone_keeps codes
  | deskewCheck attempts => exact execDeskewCheck_keeps attempts
  | seqWatchdog imageOk => exact execSeqWatchdog_keeps imageOk
  | ageingMonitor counts => exact execAgeingMonitor_keeps counts
  | eyeScanStart lane => exact execEyeScanStart_keeps lane
  | eyeScanDone height width => exact execEyeScanDone_keeps height width
  | marginPlan => exact execMarginPlan_keeps
  | laneRetire lane => exact execLaneRetire_keeps lane
  | stepGraceEnd => exact execStepGraceEnd_keeps
  | fieldTestTurn u taken => exact execFieldTestTurn_keeps u taken
  | testDone u map rows => exact execTestDone_keeps u map rows
  | powerEstimate mW => exact execPowerEstimate_keeps mW
  | scrRunCluster r index => exact execScrRunCluster_keeps r index
  | scrRunLaneGroup r index => exact execScrRunLaneGroup_keeps r index
  | scrRunFarTest r index => exact execScrRunFarTest_keeps r index
  | scrRunFarRespond r index => exact execScrRunFarRespond_keeps r index
  | scrRunStandin r => exact execScrRunStandin_keeps r
  | scrRunScratch r => exact execScrRunScratch_keeps r
  | scrRunSharedStorage r => exact execScrRunSharedStorage_keeps r
  | scrRunAnalog r => exact execScrRunAnalog_keeps r
  | scrZeroise r => exact execScrZeroise_keeps r
  | zeroiseDone => exact execZeroiseDone_keeps
  | ringRead input msg => exact execRingRead_keeps input msg
  | ringWrite gw input msg => exact execRingWrite_keeps gw input msg
  | ringLock gw input msg => exact execRingLock_keeps gw input msg
  | ringUnlock gw input msg => exact execRingUnlock_keeps gw input msg
  | ringEvent input msg => exact execRingEvent_keeps input msg
  | ringHop input msg => exact execRingHop_keeps input msg
  | ringReply input msg => exact execRingReply_keeps input msg
  | ringBroken => exact execRingBroken_keeps
  | ringRestored => exact execRingRestored_keeps
  | gatewaySend sec value => exact execGatewaySend_keeps sec value
  | gatewayTimeout => exact execGatewayTimeout_keeps
  | mgtScriptLoad r => exact execMgtScriptLoad_keeps r
  | mgtSceneLoad r n => exact execMgtSceneLoad_keeps r n
  | mgtSceneCommit r mask => exact execMgtSceneCommit_keeps r mask
  | commitDone answers => exact execCommitDone_keeps answers
  | lockRead r n => exact execLockRead_keeps r n
  | lockRelease r n => exact execLockRelease_keeps r n
  | mgtLockForce r value => exact execMgtLockForce_keeps r value
  | mgtSeal r value => exact execMgtSeal_keeps r value
  | mailboxSend sec j len => exact execMailboxSend_keeps sec j len
  | mailboxAbort sec j => exact execMailboxAbort_keeps sec j
  | mailboxRelease sec j => exact execMailboxRelease_keeps sec j
  | mailboxTaken j => exact execMailboxTaken_keeps j
  | tunnel bytes => exact execTunnel_keeps bytes
  | tunnelS bytes => exact execTunnelS_keeps bytes
  | tunnelTimeout j => exact execTunnelTimeout_keeps j
  | echo => exact execEcho_keeps
  | objRead => exact execObjRead_keeps
  | objWrite => exact execObjWrite_keeps
  | eventRecordWrite => exact execEventRecordWrite_keeps
  | eventWriteDone status => exact execEventWriteDone_keeps status
  | eventWriteRetry => exact execEventWriteRetry_keeps
  | pstateWrite => exact execPstateWrite_keeps
  | mgtEvtCidxWrite r value => exact execMgtEvtCidxWrite_keeps r value
  | eventRingTimeout => exact execEventRingTimeout_keeps
  | eventRingRetry => exact execEventRingRetry_keeps
  | pwrDomainCtrlWrite r value => exact execPwrDomainCtrlWrite_keeps r value
  | pwrCycle r value => exact execPwrCycle_keeps r value
  | domainReady d => exact execDomainReady_keeps d
  | pwrReset r => exact execPwrReset_keeps r
  | bringupStep n => exact execBringupStep_keeps n
  | pwrFwLoad r => exact execPwrFwLoad_keeps r
  | fwOnlineUpdate r => exact execFwOnlineUpdate_keeps r
  | sbCharacterLock => exact execSbCharacterLock_keeps
  | sensorReferenceCheck g deviation => exact execSensorReferenceCheck_keeps g deviation
  | seqLockRetry => exact execSeqLockRetry_keeps
  | zeroiseClearTimeout d => exact execZeroiseClearTimeout_keeps d
  | resetSettleTimeout => exact execResetSettleTimeout_keeps
  | drainRelayHoldEnd => exact execDrainRelayHoldEnd_keeps
  | redWrAddDone => exact execRedWrAddDone_keeps
  | admissionHopQuery q => exact execAdmissionHopQuery_keeps q
  | transitRegisterUpdate u => exact execTransitRegisterUpdate_keeps u
  | mailboxBufferWrite sec j inbound offset value => exact execMailboxBufferWrite_keeps sec j inbound offset value
  | gatewayRequestWrite sec offset value => exact execGatewayRequestWrite_keeps sec offset value

theorem State.tick_zeroWord (s : State) : s.tick.dict.zeroWord = s.dict.zeroWord := by simp [tick]

theorem step_keepsRecord {s t : State} (h : s.zeroRecord = true) (hq : s.pending = []) (ht : step s = .next t) : t.zeroRecord = true := by
  unfold step at ht
  rw [hq] at ht
  cases ht
  rwa [State.zeroRecord_eq, s.tick_zeroWord]

/-- AON power-up puts every object at its default, and SCR_ZERO_RECORD reads 0. -/
theorem aonPowerUp_endsRecord (strap : Bool) (s : State) : Ends (.aonPowerUp strap) s fun t => t.zeroRecord = false :=
  ⟨_, rfl, show State.reset.zeroRecord = false by decide⟩

section

variable {s : State} (up : s.aon.up = true)
include up

theorem ends_of_run_on {c : Instr} {f : State → State} {P : State → Prop} (hc : exec c s = s.run f)
    (hP : P { f s with pending := s.pending, aon := s.aon }) : Ends c s P :=
  ⟨_, hc.trans (s.run_on f up), hP⟩

/-! ### External scan (02, R49, R50) -/

theorem extest_inForce (h : s.zeroRecord = true) : Ends .extest s fun t => t.pwr.tap = 3 :=
  ends_of_run_on up (execExtest.eq_1 s) (by simp [h, State.setTap])

theorem wsIntest_inForce (h : s.zeroRecord = true) : Ends .wsIntest s fun t => t.pwr.wrapper = 2 :=
  ends_of_run_on up (execWsIntest.eq_1 s) (by simp [h, State.setWrapper])

theorem wsScan_inForce (h : s.zeroRecord = true) : Ends .wsScan s fun t => t.pwr.wrapper = 3 :=
  ends_of_run_on up (execWsScan.eq_1 s) (by simp [h, State.setWrapper])

end

/-! ### The key unit's refusal (11, R317) -/

theorem only_mgt (s : State) (m : Mgmt) : Only [.mgt] [] s { s with mgt := m } :=
  ⟨fun p hp => by cases p <;> simp_all [Part.same], fun _ _ _ => rfl⟩

/-- The reply to a message of the Control Port's own mailbox. -/
theorem State.replyTaken_near (s : State) (j : Nat) (m : List Byte) (st : Nat) (reply : List Byte) : s.replyTaken ⟨j, false, m⟩ st reply =
    { s with mgt := { s.mgt with taken := s.mgt.taken.erase ⟨j, false, m⟩ } }.endExchange j st reply := rfl

theorem only_replyTaken_near (s : State) (j : Nat) (m : List Byte) (st : Nat) (reply : List Byte) :
    Only [.mgt] [] s (s.replyTaken ⟨j, false, m⟩ st reply) := only_mgt s _

theorem State.mbx_replyTaken_near (s : State) {j : Nat} (m : List Byte) (st : Nat) (reply : List Byte) (hj : j < s.mgt.mailboxes.length) :
    ((s.replyTaken ⟨j, false, m⟩ st reply).mbx j).inFull = true ∧
      ((s.replyTaken ⟨j, false, m⟩ st reply).mbx j).inn = slice reply 0 256 := by
  simp [State.replyTaken_near, State.endExchange, State.setMbx, State.mbx, hj]

/-- The two first bytes of a reply, as the mailbox holds it. -/
theorem slice_reply (a b : Byte) (rest : List Byte) : slice (slice (a :: b :: rest) 0 256) 0 2 = [a, b] := by
  simp [slice, zeros]

/-- While the record is there the key unit refuses the command that it holds with RESULT 6, and moves no key. -/
theorem State.keyUnit_zeroised {s : State} {cmd : Nat} {body : List Byte} (h : s.zeroRecord = true) (hroom : (s.mbx 4).inFull = false)
    (htaken : s.mgt.taken = [⟨4, false, b8 cmd :: body⟩]) :
    ∃ rest, s.keyUnit cmd body = (s.count .stkKeyRefused 1).replyTaken ⟨4, false, b8 cmd :: body⟩ stOk (b8 (cmd + 0x80) :: b8 6 :: rest) := by
  have hkeys : s.noKeys = true := by
    have hz : s.zeroised = true := h
    simp [State.noKeys, hz]
  have hmsg : s.keyCommand cmd body = (6, s) := by simp [State.keyCommand, hkeys]
  simp only [State.keyUnit, htaken, hmsg]
  simp [mbxSecure, State.mayReply, hroom]
  exact ⟨_, rfl⟩

theorem keyUnit_refuses {s : State} {c : Instr} {cmd : Nat} {body : List Byte} (up : s.aon.up = true)
    (hc : exec c s = s.run fun s => s.keyUnit cmd body) (h : s.zeroRecord = true) (hcnt : s.obj .stkKeyRefused + 1 < 2 ^ 32)
    (hlen : s.mgt.mailboxes.length = 6) (hroom : (s.mbx 4).inFull = false) (htaken : s.mgt.taken = [⟨4, false, b8 cmd :: body⟩]) :
    Ends c s fun t => t.stk = s.stk ∧ t.obj .stkKeyRefused = s.obj .stkKeyRefused + 1 ∧ (t.mbx 4).inFull = true ∧
      slice (t.mbx 4).inn 0 2 = [b8 (cmd + 0x80), 6] ∧ Only [.mgt] [.stkKeyRefused] s t := by
  obtain ⟨rest, hunit⟩ := State.keyUnit_zeroised h hroom htaken
  have hcount := only_count s .stkKeyRefused 1
  have hreply := only_replyTaken_near (s.count .stkKeyRefused 1) 4 (b8 cmd :: body) stOk (b8 (cmd + 0x80) :: b8 6 :: rest)
  have hall : Only [.mgt] [.stkKeyRefused] s _ := hcount.trans hreply
  have hmgt : (s.count .stkKeyRefused 1).mgt = s.mgt := hcount.1 .mgt (by simp)
  obtain ⟨hfull, hinn⟩ := State.mbx_replyTaken_near (s.count .stkKeyRefused 1) (j := 4) (b8 cmd :: body) stOk (b8 (cmd + 0x80) :: b8 6 :: rest)
    (by rw [hmgt, hlen]; decide)
  refine Ends.of_run hc up hunit hall (by simp) (by simp)
    ⟨hall.1 .stk (by simp), (hreply.obj (by simp)).trans (State.obj_count_one rfl rfl hcnt), hfull, ?_, hall⟩
  rw [hinn, slice_reply]
  rfl

/-! ### The march of the key-slot memory (R373) -/

theorem State.foldl_scr {α : Type} {f : State → α → State} (h : ∀ t x, (f t x).scr = t.scr) (l : List α) (s : State) :
    (l.foldl f s).scr = s.scr := by
  induction l generalizing s with
  | nil => rfl
  | cons x l ih => exact (ih _).trans (h s x)

theorem State.degrade_scr (s : State) : s.degrade.scr = s.scr := by
  unfold State.degrade
  split
  · rfl
  · apply State.foldl_scr
    exact fun _ _ => rfl

theorem State.clearSecureStore_scr (s : State) : s.clearSecureStore.scr = s.scr := by
  simp [State.clearSecureStore, State.degrade_scr]

/-- Zeroisation that starts abandons every test, and the march of the key-slot memory is the one that runs. -/
theorem State.zeroise_running {s : State} (h : s.obj .scrZeroise = 0) : s.zeroise.scr.running = [⟨.secureStore, 0, 0, true⟩] := by
  unfold State.zeroise
  rw [if_neg (by rw [h]; decide)]
  dsimp only
  split <;> simp [State.clearSecureStore_scr, State.stopTests, State.showScreen]

theorem scrZeroise_marches {s : State} {r : Requester} (up : s.aon.up = true) (heard : s.heard r = true) (hr : isSecure r = true)
    (h : s.obj .scrZeroise = 0) :
    Ends (.scrZeroise r) s fun t => t.scr.running = [⟨.secureStore, 0, 0, true⟩] ∧ t.zeroRecord = s.zeroRecord := by
  refine ⟨_, s.access_on r _ up heard, ?_⟩
  simp [hr, State.zeroRecord_eq, State.zeroise_running h]

theorem zeroiseDone_waits {s : State} (h : ∃ x ∈ s.scr.running, x.test = .secureStore) : exec .zeroiseDone s = .next s := by
  obtain ⟨x, hx, htest⟩ := h
  have hmarch : s.tests (fun u => u == .secureStore) = true := List.any_eq_true.2 ⟨x, hx, by simp [htest]⟩
  exact State.run_eq_self (by simp [hmarch])

/-- Settles O60: SCR_ZERO_RECORD keeps its word through every operation but ZEROISE_DONE's own write (`exec_keepsRecord`,
`State.tick_zeroWord`), and what is closed or open with it reads that word. -/
theorem zeroisationRecordLasts : Obligations.ZeroisationRecordLasts := by
  unfold Obligations.ZeroisationRecordLasts
  refine ⟨fun c s t h hc ht => exec_keepsRecord c hc h t ht, fun _ _ => step_keepsRecord, aonPowerUp_endsRecord,
    fun s up => ⟨fun h => ?_, ?_, ?_⟩⟩
  · refine ⟨extest_inForce up h, wsIntest_inForce up h, wsScan_inForce up h, fun hcnt hlen hroom body x hx _ htaken => ?_⟩
    simp only [List.mem_cons, List.not_mem_nil, or_false] at hx
    obtain rfl | rfl | rfl := hx
    · exact keyUnit_refuses (cmd := 1) up rfl h hcnt hlen hroom htaken
    · exact keyUnit_refuses (cmd := 2) up rfl h hcnt hlen hroom htaken
    · exact keyUnit_refuses (cmd := 3) up rfl h hcnt hlen hroom htaken
  · exact fun r heard hr h => scrZeroise_marches up heard hr h
  · exact fun _ => zeroiseDone_waits

end Sys2Proof.Machine
end

section
/-! The numbers of the dictionary's objects, and the window onto it (15, R383, R385, R387): O59. -/

namespace Sys2Proof.Machine

/-! ### The list of all objects -/

/-- The list of all objects has them in the order of their numbers. -/
theorem Obj.all_map_num : Obj.all.map Obj.num = List.range 335 := by decide +kernel

theorem Obj.num_lt_335 (o : Obj) : o.num < 335 := by cases o <;> decide

theorem Obj.mem_all (o : Obj) : o ∈ Obj.all := by
  have hnum : o.num ∈ Obj.all.map Obj.num := by rw [Obj.all_map_num]; exact List.mem_range.2 o.num_lt_335
  obtain ⟨p, hp, heq⟩ := List.mem_map.1 hnum
  exact Obj.num_inj heq ▸ hp

/-- Index and sub-index as one number. -/
def Obj.place (o : Obj) : Nat := o.row.index * 2 ^ 8 + o.row.sub

/-- The tables list the objects by rising index and sub-index. -/
theorem Obj.all_rises : (Obj.all.map Obj.place).IsChain (· < ·) := by decide +kernel

theorem Obj.place_inj {o p : Obj} (h : o.place = p.place) : o = p :=
  List.inj_on_of_nodup_map (List.isChain_iff_pairwise.1 Obj.all_rises).nodup o.mem_all p.mem_all h

/-- MGT_ID_COUNT alone is itself at sub-index 0. -/
theorem Obj.sub_eq_zero_iff (o : Obj) : o.row.sub = 0 ↔ o = .mgtIdCount :=
  (by decide +kernel : ∀ o ∈ Obj.all, o.row.sub = 0 ↔ o = .mgtIdCount) o o.mem_all

theorem Obj.sub_lt (o : Obj) : o.row.sub < 2 ^ 8 := (by decide +kernel : ∀ o ∈ Obj.all, o.row.sub < 2 ^ 8) o o.mem_all

theorem Obj.index_lt (o : Obj) : o.row.index < 2 ^ 16 :=
  (by decide +kernel : ∀ o ∈ Obj.all, o.row.index < 2 ^ 16) o o.mem_all

/-! ### Objects found by number -/

theorem objAt_row (o : Obj) : objAt o.row.index o.row.sub = some o := by
  obtain ⟨p, hp⟩ : ∃ p, objAt o.row.index o.row.sub = some p :=
    Option.isSome_iff_exists.1 (List.find?_isSome.2 ⟨o, o.mem_all, by simp⟩)
  have hrow := List.find?_some hp
  simp only [Bool.and_eq_true, beq_iff_eq] at hrow
  rw [hp, Obj.place_inj (o := p) (p := o) (by rw [Obj.place, Obj.place, hrow.1, hrow.2])]

/-- Sub-index 0 names no object of an index other than MGT_ID_COUNT's. -/
theorem objAt_zero {index : Nat} (h : index ≠ Obj.mgtIdCount.row.index) : objAt index 0 = none := by
  refine List.find?_eq_none.2 fun p _ hp => ?_
  simp only [Bool.and_eq_true, beq_iff_eq] at hp
  obtain rfl := p.sub_eq_zero_iff.1 hp.2
  exact h hp.1.symm

/-- A list's highest member, as a fold from 0. -/
theorem foldl_max_eq_iff {l : List Nat} (hl : l ≠ []) (h : Nat) : l.foldl max 0 = h ↔ h ∈ l ∧ ∀ a ∈ l, a ≤ h := by
  rw [List.foldl_eq_foldr, ← List.maximum_eq_coe_iff, ← List.foldr_max_of_ne_nil hl]
  exact WithBot.coe_inj.symm

/-- The highest sub-index of an index that holds objects is one of theirs, and none of theirs is higher. -/
theorem highestSub_row (o : Obj) : ∃ h, highestSub o.row.index = some h ∧ (∀ p : Obj, p.row.index = o.row.index → p.row.sub ≤ h) ∧
    ∃ p : Obj, p.row.index = o.row.index ∧ p.row.sub = h := by
  have hmem : ∀ p : Obj, p ∈ Obj.all.filter (fun x => x.row.index == o.row.index) ↔ p.row.index = o.row.index := fun p => by
    simp [p.mem_all]
  have hne := List.ne_nil_of_mem ((hmem o).2 rfl)
  obtain ⟨hin, hmax⟩ := (foldl_max_eq_iff (mt List.map_eq_nil_iff.1 hne) _).1 (List.foldl_map (f := fun x : Obj => x.row.sub) (g := max) (init := 0) (l := Obj.all.filter fun x => x.row.index == o.row.index))
  obtain ⟨p, hp, hsub⟩ := List.mem_map.1 hin
  exact ⟨_, if_neg (by simpa using hne), fun q hq => hmax _ (List.mem_map_of_mem ((hmem q).2 hq)), p, (hmem p).1 hp, hsub⟩

/-! ### The window (R387) -/

section

variable {s t : State} (up : s.aon.up = true) (hclk : s.pwr.hclkStop = false)
include up hclk

/-- DX_DATA_READ answers what the read of the object finds, and the offset advances. -/
theorem dxDataRead_ends {sec : Bool} {index sub st : Nat} {bytes : List Byte} (hindex : field s.mgt.dxSel 31 16 = index)
    (hsub : field s.mgt.dxSel 15 8 = sub) (h : s.readObject (.port sec) index sub s.mgt.dxOffset 4 = (t, st, bytes)) (ht : Only [.mgt] [] s t) :
    Ends (.dxDataRead sec) s fun u => u.outbox = s.outbox ++ [.reply st (ofBytes bytes)] ∧ u.mgt = t.dxNext.mgt ∧ Only [.mgt, .outbox] [] s u := by
  subst hindex hsub
  have honly := ((ht.trans (only_mgt t t.dxNext.mgt)).trans (only_out t.dxNext (.reply st (ofBytes bytes)))).mono
    (qs := [.mgt, .outbox]) (xs := []) (by simp) (by simp)
  have hout : t.outbox = s.outbox := ht.1 .outbox (by simp)
  exact Ends.of_access (t := t.dxNext.out (.reply st (ofBytes bytes))) rfl up (by simp [State.heard, hclk]) (by rw [h]) honly
    (by simp) (by simp) ⟨congrArg (· ++ [_]) hout, rfl, honly⟩

/-- DX_DATA_WRITE answers the status of the write, and the offset advances. -/
theorem dxDataWrite_ends {sec : Bool} {index sub st v : Nat} (hindex : field s.mgt.dxSel 31 16 = index)
    (hsub : field s.mgt.dxSel 15 8 = sub) (h : s.writeObject (.port sec) index sub s.mgt.dxOffset (toBytes 4 v) = (s, st)) :
    Ends (.dxDataWrite sec v) s fun u => u.outbox = s.outbox ++ [.reply st 0] ∧ u.mgt = s.dxNext.mgt ∧ Only [.mgt, .outbox] [] s u := by
  subst hindex hsub
  have honly := ((only_mgt s s.dxNext.mgt).trans (only_reply s.dxNext st)).mono (qs := [.mgt, .outbox]) (xs := []) (by simp) (by simp)
  exact Ends.of_access (t := s.dxNext.reply st) rfl up (by simp [State.heard, hclk]) (by rw [h]) honly (by simp) (by simp) ⟨rfl, rfl, honly⟩

end

/-! ### Words of small objects (R387, R388) -/

@[simp] theorem length_slice (bs : List Byte) (off len : Nat) : (slice bs off len).length = len := by
  simp [slice, zeros]

/-- Bytes cut to the length they have. -/
theorem slice_self {bs : List Byte} {len : Nat} (h : bs.length = len) : slice bs 0 len = bs := by
  simp [slice, zeros, ← h]

theorem slice_append_left {l : List Byte} (l' : List Byte) {off len : Nat} (h : off + len ≤ l.length) :
    slice (l ++ l') off len = slice l off len := by
  have hlen : len - (l.length - off) = 0 := by omega
  simp [slice, List.drop_append_of_le_length (by omega : off ≤ l.length), List.take_append, hlen]

theorem slice_append_right (l : List Byte) {l' : List Byte} {len : Nat} (h : l'.length = len) : slice (l ++ l') l.length len = l' := by
  simp [slice, zeros, ← h]

section

variable {s : State} {o : Obj} {b c : Nat} (hl : o.row.layout = .uniform b c)
include hl

theorem State.entryBytes_step (k : Nat) : s.entryBytes o 0 (k + 1) =
    s.entryBytes o 0 k ++ zeros (b * k - (s.entryBytes o 0 k).length) ++ toBytes b (s.view o k) := by
  simp [State.entryBytes, hl, List.range_succ, Layout.offset, Layout.size]

theorem State.length_entryBytes (k : Nat) : (s.entryBytes o 0 k).length = b * k := by
  induction k with
  | zero => rfl
  | succ k ih => simp [State.entryBytes_step hl, ih, zeros, Nat.mul_succ]

/-- Entries of one size follow each other without a gap (R384). -/
theorem State.entryBytes_succ (k : Nat) : s.entryBytes o 0 (k + 1) = s.entryBytes o 0 k ++ toBytes b (s.view o k) := by
  simp [State.entryBytes_step hl, State.length_entryBytes hl, zeros]

/-- Each entry is at its own place among the entries. -/
theorem State.slice_entryBytes {i k : Nat} (hi : i < k) : slice (s.entryBytes o 0 k) (b * i) b = toBytes b (s.view o i) := by
  induction k with
  | zero => omega
  | succ k ih =>
    have hlen := State.length_entryBytes (s := s) hl k
    rw [State.entryBytes_succ hl]
    by_cases h : i = k
    · rw [h, ← hlen, slice_append_right _ (length_toBytes _ _)]
    · rw [slice_append_left _ (by rw [hlen, ← Nat.mul_succ]; exact Nat.mul_le_mul_left b (by omega)), ih (by omega)]

end

/-- DX_SEL of an index and sub-index. -/
theorem field_dxSel {v index sub : Nat} (h : v = index * 2 ^ 16 + sub * 2 ^ 8) (hi : index < 2 ^ 16) (hs : sub < 2 ^ 8) :
    field v 31 16 = index ∧ field v 15 8 = sub := by
  simp only [field, Nat.shiftRight_eq_div_pow]
  omega

/-- An access answers OK where the holder has power, the requester may, and the offset lies inside the object. -/
theorem State.accessCode_ok {s : State} {o : Obj} {allowed : Bool} {off : Nat} (hpower : s.holderOn o = true) (hmay : allowed = true)
    (hoff : off < o.row.layout.bytes) : s.accessCode o allowed off = stOk := by
  simp [State.accessCode, hpower, hmay, hoff, worst, worse]

/-- A read of one whole word of an object that answers. -/
theorem State.readObject_word {s : State} {r : Requester} {o : Obj} {off : Nat} (hacc : s.accessCode o (o.mayRead r) off = stOk)
    (hwo : o.row.access ≠ .wo) (hoff : off % 4 = 0) :
    s.readObject r o.row.index o.row.sub off 4 = ((s.readWord r o off).1, stOk, slice (s.readWord r o off).2 0 4) := by
  have hlast : (off + 3) / 4 * 4 = off := by omega
  have hone : (off + 3) / 4 + 1 - off / 4 = 1 := by omega
  have hword : off / 4 * 4 = off := by omega
  simp [State.readObject, objAt_row, hlast, hone, hword, hacc, hwo, hoff, State.readWords]

/-- The capture of a whole object by a requester's path (R388). -/
def State.captureWhole (s : State) (r : Requester) (o : Obj) : State :=
  s.setCapture r { s.capture r with obj := some o, base := 0, data := s.viewBytes o }

theorem only_captureWhole (s : State) (r : Requester) (o : Obj) : Only [.mgt] [] s (s.captureWhole r o) := by
  cases r <;> exact only_mgt s _

/-- The word at the start of a small object captures the whole object; another word, on a path that holds no capture of the object,
captures nothing. -/
theorem State.readWord_small {s : State} {r : Requester} {o : Obj} (off : Nat) (hsize : o.row.layout.bytes ≤ 1024)
    (hcap : off ≠ 0 → (s.capture r).obj ≠ some o) (hclear : ∀ t : State, t.clearOnRead o = t) :
    s.readWord r o off = (if off = 0 then s.captureWhole r o else s, slice (s.viewBytes o) off 4) := by
  by_cases h : off = 0
  · simp [State.readWord, State.newCapture, State.captureWhole, hsize, h, hclear]
  · simp [State.readWord, State.newCapture, hsize, h, hcap h]

/-- A read of a word of a small object that clears nothing. -/
theorem State.readObject_small {s : State} {r : Requester} {o : Obj} {off : Nat} (hacc : s.accessCode o (o.mayRead r) off = stOk)
    (hwo : o.row.access ≠ .wo) (hoff : off % 4 = 0) (hsize : o.row.layout.bytes ≤ 1024) (hcap : off ≠ 0 → (s.capture r).obj ≠ some o)
    (hclear : ∀ t : State, t.clearOnRead o = t) : s.readObject r o.row.index o.row.sub off 4 =
      (if off = 0 then s.captureWhole r o else s, stOk, slice (s.viewBytes o) off 4) := by
  rw [State.readObject_word hacc hwo hoff, State.readWord_small off hsize hcap hclear, slice_self (length_slice _ _ _)]

/-! ### Sub-index 0 (R385) -/

/-- Where no object is, the word of sub-index 0 is the highest sub-index. -/
theorem State.readObject_subZero (s : State) (r : Requester) {index h : Nat} (hindex : index ≠ Obj.mgtIdCount.row.index)
    (hh : highestSub index = some h) : s.readObject r index 0 0 4 = (s, stOk, [b8 h, 0, 0, 0]) := by
  simp [State.readObject, objAt_zero hindex, hh, slice, zeros]

theorem State.writeObject_subZero (s : State) (r : Requester) {index : Nat} (off : Nat) (bytes : List Byte)
    (hindex : index ≠ Obj.mgtIdCount.row.index) : s.writeObject r index 0 off bytes = (s, stDenied) := by
  simp [State.writeObject, objAt_zero hindex]

/-- What O59 says of sub-index 0 holds at every index but MGT_ID_COUNT's. -/
theorem subZero_ends {s : State} (sec : Bool) {o : Obj} (up : s.aon.up = true) (hclk : s.pwr.hclkStop = false) (hoff : s.mgt.dxOffset = 0)
    (hsel : s.mgt.dxSel = o.row.index * 2 ^ 16) (hindex : o.row.index ≠ Obj.mgtIdCount.row.index) :
    ∃ h, (∀ p : Obj, p.row.index = o.row.index → p.row.sub ≤ h) ∧ (∃ p : Obj, p.row.index = o.row.index ∧ p.row.sub = h) ∧
      (Ends (.dxDataRead sec) s fun t => t.outbox = s.outbox ++ [.reply 0 h] ∧ t.mgt = { s.mgt with dxOffset := 4 } ∧ Only [.mgt, .outbox] [] s t) ∧
      ∀ v : Nat, Ends (.dxDataWrite sec v) s fun t => t.outbox = s.outbox ++ [.reply 3 0] ∧ t.mgt = { s.mgt with dxOffset := 4 } ∧ Only [.mgt, .outbox] [] s t := by
  obtain ⟨h, hh, hmax, p, hp, hsub⟩ := highestSub_row o
  obtain ⟨hi, h0⟩ := field_dxSel (sub := 0) (by simpa using hsel) o.index_lt (by decide)
  have hnext : s.dxNext.mgt = { s.mgt with dxOffset := 4 } := by simp [State.dxNext, hoff]
  have hbyte : ofBytes [b8 h, 0, 0, 0] = h := by
    have := p.sub_lt
    simp [ofBytes, b8]
    omega
  refine ⟨h, hmax, ⟨p, hp, hsub⟩, ?_, fun v => ?_⟩
  · have hread := dxDataRead_ends up hclk (sec := sec) hi h0 (by rw [hoff]; exact s.readObject_subZero _ hindex hh) (Only.refl s)
    rwa [hbyte, hnext] at hread
  · have hwrite := dxDataWrite_ends up hclk (sec := sec) (v := v) hi h0 (s.writeObject_subZero _ _ _ hindex)
    rwa [hnext] at hwrite

/-- At MGT_ID_COUNT's own index the word of sub-index 0 is the object's value, and the read captures the object (R388). -/
theorem dxDataRead_idCount {s : State} (sec : Bool) (up : s.aon.up = true) (hclk : s.pwr.hclkStop = false) (hoff : s.mgt.dxOffset = 0)
    (hsel : s.mgt.dxSel = Obj.mgtIdCount.row.index * 2 ^ 16) : Ends (.dxDataRead sec) s fun t =>
      t.outbox = s.outbox ++ [.reply 0 (s.obj .mgtIdCount)] ∧ t.mgt.capPort.obj = some .mgtIdCount ∧ Only [.mgt, .outbox] [] s t := by
  have hzero : Obj.mgtIdCount.row.sub = 0 := (Obj.sub_eq_zero_iff _).2 rfl
  obtain ⟨hindex, hsub⟩ := field_dxSel (v := s.mgt.dxSel) (index := Obj.mgtIdCount.row.index) (sub := Obj.mgtIdCount.row.sub)
    (by rw [hsel, hzero, Nat.zero_mul, Nat.add_zero]) (Obj.index_lt _) (Obj.sub_lt _)
  have hbytes : s.viewBytes .mgtIdCount = toBytes 1 (s.obj .mgtIdCount) :=
    (State.entryBytes_succ (o := .mgtIdCount) (b := 1) (c := 1) rfl 0).trans (List.nil_append _)
  have hread := State.readObject_small (s := s) (r := .port sec) (o := .mgtIdCount) (off := 0)
    (State.accessCode_ok rfl rfl (by decide)) (by decide) rfl (by decide) (absurd rfl) fun _ => rfl
  rw [if_pos rfl, hbytes, ← hoff] at hread
  obtain ⟨t, hexec, hout, hmgt, honly⟩ := dxDataRead_ends up hclk hindex hsub hread (only_captureWhole s _ _)
  have hvalue : ofBytes (slice (toBytes 1 (s.obj .mgtIdCount)) 0 4) = s.obj .mgtIdCount := by
    have hlt : s.obj .mgtIdCount < 2 ^ 8 := s.obj_lt .mgtIdCount
    simpa [slice, toBytes, zeros, ofBytes] using hlt
  rw [hoff, hvalue] at hout
  exact ⟨t, hexec, hout, congrArg (·.capPort.obj) hmgt, honly⟩

/-- Refutes O59: it gives every object a sub-index of 1 or more, and MGT_ID_COUNT, an object of its own in the table of 00, is at
0x1000:00. Every object is at its own number (`objAt_row`), MGT_ID_COUNT is the only one at sub-index 0 (`Obj.sub_eq_zero_iff`), and
at every other index sub-index 0 reads and refuses as stated (`subZero_ends`). At 0x1000 the read is of MGT_ID_COUNT, and leaves a
capture besides the new offset (`dxDataRead_idCount`). -/
theorem not_objectNumbersAndSubIndexZero : ¬ Obligations.ObjectNumbersAndSubIndexZero := by
  unfold Obligations.ObjectNumbersAndSubIndexZero
  rintro ⟨hnumbers, -⟩
  obtain ⟨-, hsub, -⟩ := hnumbers .mgtIdCount
  exact absurd hsub (by rw [(Obj.sub_eq_zero_iff _).2 rfl]; decide)

end Sys2Proof.Machine
end

section
/-! Locks, their owner codes and their forced release (15, R398 to R401): O45. -/

namespace Sys2Proof.Machine

/-! ### Owner codes (R399) -/

/-- GW and RANK of an owner code; 0 of a lock without an owner. -/
def ownerBits : Option Requester → Nat
  | none => 0
  | some r => rankOf r + gwOf r % 4096 * 2 ^ 16

theorem rankOf_bounds (r : Requester) : 1 ≤ rankOf r ∧ rankOf r ≤ 4 := by
  cases r
  case port sec => cases sec <;> decide
  all_goals simp [rankOf]

theorem State.lockCode_eq (s : State) (n : Nat) :
    s.lockCode n = ownerBits (s.mgt.locks.getD n none) + ofBool (s.mgt.lockFault.testBit n) * 2 ^ 31 := by
  unfold State.lockCode
  cases s.mgt.locks.getD n none <;> rfl

theorem ownerBits_lt (o : Option Requester) : ownerBits o < 2 ^ 28 := by
  cases o with
  | none => decide
  | some r => have := rankOf_bounds r; simp only [ownerBits]; omega

theorem ofBool_le (b : Bool) : ofBool b ≤ 1 := by cases b <;> decide

theorem State.lockCode_lt (s : State) (n : Nat) : s.lockCode n < 2 ^ 32 := by
  have := ownerBits_lt (s.mgt.locks.getD n none)
  have := ofBool_le (s.mgt.lockFault.testBit n)
  rw [s.lockCode_eq]
  omega

/-- A faulted lock never reads as free. -/
theorem State.lockCode_ne_zero_of_fault {s : State} {n : Nat} (h : s.mgt.lockFault.testBit n = true) : s.lockCode n ≠ 0 := by
  rw [s.lockCode_eq, h, ofBool]
  simp

/-- The fields of an owner code: FAULT [31], GW [27:16], RANK [3:0]. -/
theorem State.lockCode_fields {s : State} {n : Nat} {o : Option Requester} (h : s.mgt.locks[n]? = some o) :
    field (s.lockCode n) 31 31 = ofBool (s.mgt.lockFault.testBit n) ∧ field (s.lockCode n) 30 28 = 0 ∧ field (s.lockCode n) 15 4 = 0 ∧
      field (s.lockCode n) 27 16 = o.elim 0 (fun q => gwOf q % 4096) ∧ field (s.lockCode n) 3 0 = o.elim 0 rankOf := by
  have hfault := ofBool_le (s.mgt.lockFault.testBit n)
  rw [s.lockCode_eq, List.getD_eq_getElem?_getD, h, Option.getD_some]
  cases o with
  | none => simp only [field, Nat.shiftRight_eq_div_pow, ownerBits, Option.elim]; omega
  | some q =>
    have hrank := rankOf_bounds q
    simp only [field, Nat.shiftRight_eq_div_pow, ownerBits, Option.elim]
    omega

/-! ### LOCK_READ and LOCK_RELEASE (R398, R399) -/

/-- Only the owner frees a lock. -/
theorem State.freeLock_owned {s : State} {n : Nat} {o : Requester} (r : Requester) (h : s.mgt.locks[n]? = some (some o)) :
    s.freeLock r n = if rankOf o = rankOf r ∧ gwOf o = gwOf r ∧ s.mgt.lockFault.testBit n = false then
      ({ s with mgt := { s.mgt with locks := s.mgt.locks.set n none } }, stOk) else (s, stDenied) := by
  simp [State.freeLock, h, and_assoc]

theorem State.freeLock_unowned {s : State} {n : Nat} (r : Requester) (h : s.mgt.locks[n]? = some none) : s.freeLock r n = (s, stDenied) := by
  simp [State.freeLock, h]

theorem State.freeLock_faulted {s : State} {n : Nat} (r : Requester) (h : s.mgt.lockFault.testBit n = true) : s.freeLock r n = (s, stDenied) := by
  unfold State.freeLock
  split <;> simp [h]

section

variable {s : State} {r : Requester} (up : s.aon.up = true) (heard : s.heard r = true)
include up heard

/-- A heard access whose effect moves only management and then replies. -/
theorem State.access_reply {f : State → State} {m : Mgmt} {st v : Nat} (h : f s = ({ s with mgt := m } : State).out (.reply st v)) :
    s.access r f = .next { s with mgt := m, outbox := s.outbox ++ [.reply st v] } := by
  rw [s.access_on r f up heard, h]
  rfl

variable {n : Fin 32}

theorem lockRead_free (h : s.lockCode n = 0) : exec (.lockRead r n) s =
    .next { s with mgt := { s.mgt with locks := s.mgt.locks.set n (some r) }, outbox := s.outbox ++ [.reply 0 0] } :=
  State.access_reply up heard (by rw [State.readLock, if_pos h]; rfl)

theorem lockRead_held (h : s.lockCode n ≠ 0) :
    exec (.lockRead r n) s = .next { s with outbox := s.outbox ++ [.reply 0 (s.lockCode n)] } :=
  State.access_reply up heard (m := s.mgt) (by rw [State.readLock, if_neg h]; rfl)

/-- A release that leaves a state of management and a status. -/
theorem lockRelease_ends {m : Mgmt} {st : Nat} (h : s.freeLock r n = ({ s with mgt := m }, st)) :
    exec (.lockRelease r n) s = .next { s with mgt := m, outbox := s.outbox ++ [.reply st 0] } :=
  State.access_reply up heard (by rw [h]; rfl)

end

/-! ### MGT_LOCK_STATE (R399) -/

/-- The read of an entry takes no lock. -/
theorem dxDataRead_lockState {s : State} (sec : Bool) (n : Fin 32) (up : s.aon.up = true) (hclk : s.pwr.hclkStop = false)
    (hsel : s.mgt.dxSel = 0x9020 * 2 ^ 16 + 2 ^ 8) (hoff : s.mgt.dxOffset = 4 * n.val) (hcap : s.mgt.capPort.obj = none) :
    Ends (.dxDataRead sec) s fun t =>
      t.outbox = s.outbox ++ [.reply 0 (s.lockCode n)] ∧ t.mgt.locks = s.mgt.locks ∧ t.mgt.lockFault = s.mgt.lockFault ∧ Only [.mgt, .outbox] [] s t := by
  obtain ⟨hindex, hsub⟩ := field_dxSel (index := Obj.mgtLockState.row.index) (sub := Obj.mgtLockState.row.sub) hsel (Obj.index_lt _) (Obj.sub_lt _)
  have hread := State.readObject_small (s := s) (r := .port sec) (o := .mgtLockState) (off := 4 * n)
    (State.accessCode_ok rfl rfl (show 4 * n.val < 4 * 32 by omega)) (by decide) (by omega) (by decide) (fun _ => by simp [State.capture, hcap])
    fun _ => rfl
  have hbytes : slice (s.viewBytes .mgtLockState) (4 * n) 4 = toBytes 4 (s.lockCode n) :=
    State.slice_entryBytes (o := .mgtLockState) (b := 4) (c := 32) rfl n.isLt
  obtain ⟨t, ht, honly, hlocks, hfault⟩ : ∃ t, (if 4 * n.val = 0 then s.captureWhole (.port sec) .mgtLockState else s) = t ∧ Only [.mgt] [] s t ∧
      t.mgt.locks = s.mgt.locks ∧ t.mgt.lockFault = s.mgt.lockFault := by
    by_cases h : 4 * n.val = 0
    · exact ⟨_, if_pos h, only_captureWhole s _ _, rfl, rfl⟩
    · exact ⟨s, if_neg h, Only.refl s, rfl, rfl⟩
  rw [hbytes, ht, ← hoff] at hread
  obtain ⟨u, hexec, hout, hmgt, hall⟩ := dxDataRead_ends up hclk hindex hsub hread honly
  rw [ofBytes_toBytes, Nat.mod_eq_of_lt (show _ < 256 ^ 4 from s.lockCode_lt n)] at hout
  exact ⟨u, hexec, hout, (congrArg Mgmt.locks hmgt).trans hlocks, (congrArg Mgmt.lockFault hmgt).trans hfault, hall⟩

/-! ### MGT_LOCK_FORCE (R401) -/

theorem testBit_setBit (v i j : Nat) (b : Bool) : (setBit v i b).testBit j = if j = i then b else v.testBit j := by
  rw [setBit, testBit_setField _ _ _ le_rfl]
  by_cases h : j = i
  · subst h; cases b <;> simp
  · rw [if_neg (by omega), if_neg h]

/-- The faults that a mask clears, up to a lock. -/
theorem testBit_clearFaults (m f k n : Nat) : ((List.range k).foldl (fun f i => if m.testBit i then setBit f i false else f) f).testBit n =
    (f.testBit n && !(decide (n < k) && m.testBit n)) := by
  induction k with
  | zero => simp
  | succ k ih =>
    rw [List.range_succ, List.foldl_append, List.foldl_cons, List.foldl_nil]
    by_cases hn : n = k
    · subst hn
      by_cases hm : m.testBit n <;> simp [hm, testBit_setBit, ih]
    · have hlt : (n < k + 1) = (n < k) := by simp; omega
      split <;> simp only [testBit_setBit, hn, if_false, ih, hlt]

theorem State.forceLocks_lock {s : State} {v n : Nat} (hn : n < s.mgt.locks.length) :
    (s.forceLocks v).mgt.locks[n]? = if v.testBit n then some none else s.mgt.locks[n]? := by
  by_cases h : v.testBit n <;> simp [State.forceLocks, hn, h]

theorem State.forceLocks_fault (s : State) {v n : Nat} (hn : n < 32) :
    (s.forceLocks v).mgt.lockFault.testBit n = (s.mgt.lockFault.testBit n && !v.testBit n) :=
  (testBit_clearFaults v s.mgt.lockFault 32 n).trans (by simp [hn])

/-- A value that the requester may not write is refused (R386). -/
theorem State.writeValue_denied {s : State} {r : Requester} {o : Obj} (e v : Nat) (h : s.mayWrite o r = false) :
    s.writeValue r o e v = (s, stDenied) := by
  simp [State.writeValue, h]

theorem State.writeValue_lockForce {s : State} {r : Requester} {v : Nat} (h : isSecure r = true) (hv : v < 2 ^ 32) :
    s.writeValue r .mgtLockForce 0 v = (s.forceLocks v, stOk) := by
  have hfit : Obj.mgtLockForce.fit 0 v = v := Obj.fit_of_lt (w := 32) (by decide) hv
  have hmay : s.mayWrite .mgtLockForce r = true := h
  have hvalid : s.validHere .mgtLockForce 0 v = true := rfl
  have hrefused : s.writeRefused .mgtLockForce v = false := rfl
  have hdirect : s.directRefused .mgtLockForce v = false := rfl
  rw [State.writeValue, hfit, hmay, hvalid, hrefused, hdirect]
  rfl

theorem exec_mgtLockForce (r : Requester) (v : Nat) (s : State) :
    exec (.mgtLockForce r v) s = s.access r fun s => s.writeWhole r .mgtLockForce 0 v := rfl

theorem mgtLockForce_secure {s : State} {r : Requester} {v : Nat} (up : s.aon.up = true) (heard : s.heard r = true)
    (hlen : s.mgt.locks.length = 32) (hsec : isSecure r = true) (hv : v < 2 ^ 32) : Ends (.mgtLockForce r v) s fun t =>
      (∀ n, n < 32 → t.mgt.locks[n]? = (if v.testBit n then some none else s.mgt.locks[n]?) ∧ t.mgt.lockFault.testBit n = (s.mgt.lockFault.testBit n && !v.testBit n)) ∧
      t.mgt = { s.mgt with locks := t.mgt.locks, lockFault := t.mgt.lockFault } ∧ t.outbox = s.outbox ++ [.reply 0 0] ∧ Only [.mgt, .outbox] [] s t := by
  have heffect : s.writeWhole r .mgtLockForce 0 v = (s.forceLocks v).reply stOk := by rw [State.writeWhole, State.writeValue_lockForce hsec hv]
  have honly := ((only_mgt s (s.forceLocks v).mgt).trans (only_reply (s.forceLocks v) stOk)).mono (qs := [.mgt, .outbox]) (xs := [])
    (by simp) (by simp)
  have hlocks := fun n (hn : n < 32) => State.forceLocks_lock (s := s) (v := v) (hn.trans_eq hlen.symm)
  exact Ends.of_access (exec_mgtLockForce r v s) up heard heffect honly (by simp) (by simp)
    ⟨fun n hn => ⟨hlocks n hn, s.forceLocks_fault hn⟩, rfl, rfl, honly⟩

theorem mgtLockForce_denied {s : State} {r : Requester} (v : Nat) (up : s.aon.up = true) (heard : s.heard r = true) (hsec : isSecure r = false) :
    exec (.mgtLockForce r v) s = .next { s with outbox := s.outbox ++ [.reply 3 0] } := by
  have hmay : s.mayWrite .mgtLockForce r = false := hsec
  have heffect : s.writeWhole r .mgtLockForce 0 v = s.reply stDenied := by rw [State.writeWhole, State.writeValue_denied 0 v hmay]
  exact (exec_mgtLockForce r v s).trans (State.access_reply up heard (m := s.mgt) heffect)

/-- Settles O45, command by command; `State.lockCode_fields` reads the owner code. -/
theorem locks : Obligations.Locks := by
  unfold Obligations.Locks
  intro r s up hlen
  refine ⟨fun heard n => ⟨lockRead_free up heard, lockRead_held up heard, fun hfault => ?_, fun hnone => ?_, fun o ho hfault => ?_⟩,
    fun n o ho => ?_, fun sec n => dxDataRead_lockState sec n up, fun heard hsec v => mgtLockForce_secure up heard hlen hsec,
    fun heard hsec v => mgtLockForce_denied v up heard hsec⟩
  · exact ⟨State.lockCode_ne_zero_of_fault hfault, lockRelease_ends up heard (m := s.mgt) (State.freeLock_faulted r hfault)⟩
  · exact lockRelease_ends up heard (m := s.mgt) (State.freeLock_unowned r hnone)
  · have hfree := State.freeLock_owned r ho
    refine ⟨fun ⟨hrank, hgw⟩ => lockRelease_ends up heard (hfree.trans (if_pos ⟨hrank, hgw, hfault⟩)), fun hother => ?_⟩
    exact lockRelease_ends up heard (m := s.mgt) (hfree.trans (if_neg fun ⟨hrank, hgw, _⟩ => hother ⟨hrank, hgw⟩))
  · obtain ⟨hfault, hhigh, hlow, hgw, hrank⟩ := State.lockCode_fields ho
    refine ⟨hfault, hhigh, hlow, ?_, ?_⟩
    · rintro rfl
      exact ⟨hgw, hrank⟩
    · rintro q rfl hq
      exact ⟨hgw.trans (Nat.mod_eq_of_lt hq), hrank⟩

end Sys2Proof.Machine
end
